-- ==== Sys2Proof/Word.lean ====
section
/-! DEFINITION. The words of the K16S: bytes, cycle numbers, stream ids, lines of the capture and mark units,
characters heard on the link, and the body of a DEFINE request as seventeen raw fields. -/

namespace Sys2Proof

/-- A byte of the command port, or one character of the field link (section 0.6, R191). -/
abbrev Byte := BitVec 8

/-- A cycle number, 0 to 4095, wrapping (section 0.6). -/
abbrev Cycle := BitVec 12

/-- A stream id, 0 to 15 (R2). -/
abbrev Sid := Fin 16

/-- A capture line CAP0 to CAP3 or a mark line MARK0 to MARK3. -/
abbrev Line := Fin 4

/-- A character heard on the field link; none is a character with a character error (R77). -/
abbrev LinkChar := Option Byte

/-- A character time in which the link is active; none is one in which a level on LRXD forms no character (R77). -/
abbrev LinkTime := Option LinkChar

/-- The seventeen body fields of DEFINE, as the bytes of 9.3.1 give them, before any check of R3. -/
structure DefineFields where
  sid : Byte
  node : Byte
  port : Byte
  direction : Byte
  kind : Byte
  limit : BitVec 16
  period : BitVec 16
  phase : Byte
  cadenceW : Byte
  cadenceQ : Byte
  cadenceP : Byte
  endMode : Byte
  closeEmpty : Byte
  retryBudget : Byte
  markCount : Byte
  autopause : Byte
  quota : Byte
  deriving DecidableEq, Repr

end Sys2Proof
end

