-- ==== Sys2Proof/Syntax.lean ====
section
/-! DEFINITION. The commands of the K16S: one constructor for each row of spec/opcode_table.json.

Requests (`retry tag …`) are checked request frames handed over by the receiver: FLAGS with or without RETRY, TAG, and
the body fields of the request catalogue 9.3 (log entry 1). `after` is the time in microseconds of the reference clock
that passes before an event from outside the part (log entry 2). -/

namespace Sys2Proof

inductive Instr where
  /-- HARD_RESET (R171): RESET_N goes low. -/
  | hardReset
  /-- RESET_N_RELEASE (R171): RESET_N is released with the straps as given (`true` is high). -/
  | resetNRelease (baud1 baud0 unit : Bool)
  /-- COMMAND_BYTE_RECEIVED (R151): a byte arrives on HRXD. -/
  | commandByteReceived (after : Nat) (b : Byte)
  /-- CANDIDATE_GAP (R153). -/
  | candidateGap
  /-- OPEN (R157); a body other than the empty one is refused by R188. -/
  | openSession (retry : Bool) (tag : Byte) (body : List Byte)
  /-- RESTART (R169). -/
  | restart (retry : Bool) (tag : Byte)
  /-- ACK_REPORTS (R180). -/
  | ackReports (retry : Bool) (tag n : Byte)
  /-- RESEND_REPORTS (R181). -/
  | resendReports (retry : Bool) (tag n : Byte)
  /-- CONFIGURE_LINK (R107). -/
  | configureLink (retry : Bool) (tag rate : Byte) (cycleLength : BitVec 16) (share timeout : Byte)
  /-- LINK_UP (R109). -/
  | linkUp (retry : Bool) (tag : Byte)
  /-- LINK_DOWN (R121). -/
  | linkDown (retry : Bool) (tag : Byte)
  /-- HANDOVER (R118). -/
  | handover (retry : Bool) (tag : Byte)
  /-- LINK_STATUS (R126). -/
  | linkStatus (retry : Bool) (tag : Byte)
  /-- DEFINE (R4). -/
  | define (retry : Bool) (tag : Byte) (fields : DefineFields)
  /-- START (R6). -/
  | start (retry : Bool) (tag sid triggerKind : Byte) (triggerValue : BitVec 16) (total : BitVec 32)
  /-- STOP (R11). -/
  | stop (retry : Bool) (tag sid : Byte)
  /-- PAUSE (R9). -/
  | pause (retry : Bool) (tag sid : Byte)
  /-- UNPAUSE (R10). -/
  | unpause (retry : Bool) (tag sid : Byte)
  /-- RESUME (R15). -/
  | resume (retry : Bool) (tag sid : Byte)
  /-- RESET_STREAM (R16). -/
  | resetStream (retry : Bool) (tag sid : Byte)
  /-- RELEASE (R17). -/
  | release (retry : Bool) (tag sid : Byte)
  /-- REFILL (R18). -/
  | refill (retry : Bool) (tag sid : Byte) (n : BitVec 32)
  /-- STREAM_STATUS (R19). -/
  | streamStatus (retry : Bool) (tag sid : Byte)
  /-- PUT (R36). -/
  | put (retry : Bool) (tag sid : Byte) (payload : List Byte)
  /-- TAKE (R49). -/
  | take (retry : Bool) (tag sid : Byte)
  /-- FLUSH (R51). -/
  | flush (retry : Bool) (tag sid : Byte)
  /-- POOL_STATUS (R52). -/
  | poolStatus (retry : Bool) (tag : Byte)
  /-- LOAD_QUERY (R73). -/
  | loadQuery (retry : Bool) (tag first count : Byte)
  /-- SET_CAPTURE (R134). -/
  | setCapture (retry : Bool) (tag line edges holdOff : Byte)
  /-- TAKE_CAPTURES (R138). -/
  | takeCaptures (retry : Bool) (tag count : Byte)
  /-- SCHEDULE_MARK (R141). -/
  | scheduleMark (retry : Bool) (tag line : Byte) (cycle offset : BitVec 16) (level : Byte) (width : BitVec 16)
  /-- CANCEL_MARKS (R146). -/
  | cancelMarks (retry : Bool) (tag line : Byte)
  /-- FORCE_MARK (R145). -/
  | forceMark (retry : Bool) (tag line level : Byte)
  /-- TIME_STATUS (R147). -/
  | timeStatus (retry : Bool) (tag : Byte)
  /-- TRANSMIT_FRAME_END (R165). -/
  | transmitFrameEnd
  /-- RESTART_RESET (R170). -/
  | restartReset
  /-- CYCLE_BOUNDARY (R128). -/
  | cycleBoundary
  /-- LISTEN_END (R110). -/
  | listenEnd
  /-- TAKEOVER (R117). -/
  | takeover
  /-- MARK_FIRES (R142): the head entry of the line's schedule. -/
  | markFires (line : Line)
  /-- PULSE_END (R143). -/
  | pulseEnd (line : Line)
  /-- CAPTURE_EDGE (R136): one sample of the capture lines, by the lines whose level has changed since the sample before it and
  the levels of all four; bit k is line k (log entry 15). -/
  | captureEdge (after : Nat) (changed level : BitVec 4)
  /-- BEACON_GRANT (R60). -/
  | beaconGrant
  /-- CYCLIC_PHASE_START (R61). -/
  | cyclicPhaseStart
  /-- HEADER_SEND (R82). -/
  | headerSend
  /-- HEADER_SENT (R86). -/
  | headerSent
  /-- DATA_FRAME_SEND (R83). -/
  | dataFrameSend
  /-- DATA_FRAME_SENT (R83). -/
  | dataFrameSent
  /-- REPLY_WINDOW_EXPIRY (R84). -/
  | replyWindowExpiry
  /-- NODE_ANSWER_RECEIVED (R85): the character times in which the line is active, without a pause, each with the character heard
  in it, or with none where a level on LRXD forms no character (R77), and the places of the characters that have a character
  error (log entries 12 and 42). -/
  | nodeAnswerReceived (after : Nat) (chars : List (Option Byte)) (errs : List Nat)
  /-- DATA_LENGTH_READ (R87): the two control characters of a node's data frame, behind its type character, and whether one of
  them has a character error. -/
  | dataLengthRead (after : Nat) (c1 c2 : Byte) (err : Bool)
  /-- INBOUND_DATA_FRAME_END (R89): the characters after the control characters, and the places of those that have a character
  error; the frame ends `after` microseconds from now. -/
  | inboundDataFrameEnd (after : Nat) (rest : List Byte) (errs : List Nat)
  /-- TAKEN_SEND (R90). -/
  | takenSend
  /-- TAKEN_SENT (R90). -/
  | takenSent
  /-- TRANSACTION_END (R92). -/
  | transactionEnd
  /-- BEACON_RECEIVED (R80), likewise. -/
  | beaconReceived (after : Nat) (chars : List (Option Byte)) (errs : List Nat)
  /-- IGNORED_FRAME (R98), likewise: a frame that has no effect, or a level alone, which only holds the line active (R77). -/
  | ignoredFrame (after : Nat) (chars : List (Option Byte)) (errs : List Nat)
  /-- STUCK_LINE (R122): a level on LRXD holds the line until the busy count reaches 600 (R103, log entry 42). -/
  | stuckLine
  deriving DecidableEq, Repr

end Sys2Proof
end

