-- ==== Sys2Proof/Decode.lean ====
section
/-! DEFINITION. No row of spec/opcode_table.json has bits: a word spells no command. The byte form of the requests is
read by the receiver of the command port (Machine/Receiver.lean). -/

namespace Sys2Proof

/-- The command a word spells by the table's bits: none, since the table gives no row any bits. -/
def decodeTableWord (_nbits _w : Nat) : Option Instr := none

end Sys2Proof
end

