-- ==== Sys2Proof/Config.lean ====
section
/-! DEFINITION. What this silicon fixes: the principal figures of section 0.6 and the constants of the chapters. The spec
leaves no value of a command undefined, so there is no free value here. -/

namespace Sys2Proof.Config

/-- Family code of the OPEN reply (R157). -/
def familyCode : Byte := 0x4B
/-- Silicon revision of the OPEN reply (R157). -/
def siliconRevision : Byte := 1
/-- Blocks of segment memory (R33). -/
def blocks : Nat := 256
/-- Load map entries (R56). -/
def loadEntries : Nat := 256
/-- Requests in the window (R160). -/
def windowSize : Nat := 4
/-- Entries of the reply history (R163). -/
def historySize : Nat := 8
/-- Replies in the transmitter's reply queue (R165). -/
def replyQueueSize : Nat := 8
/-- Ordinary reports in the report queue (R173). -/
def ordinaryReports : Nat := 47
/-- Reports sent and unacknowledged (R173, R178). -/
def reportWindow : Nat := 8
/-- Records in the capture queue (R136). -/
def captureQueue : Nat := 32
/-- Entries of a mark line's schedule (R140). -/
def markEntries : Nat := 4
/-- Character times of the command port after which a candidate is abandoned (R153). -/
def gapCharacters : Nat := 64
/-- Busy count at which line supervision signals a stuck line (R103). -/
def stuckCharacters : Nat := 600
/-- Characters of a beacon and its gap, and of the end guard (R55). -/
def beaconCost : Nat := 8
/-- Last characters of every cycle (section 0.6). -/
def endGuard : Nat := 8
/-- Characters of a transaction beside its segment (R55). -/
def transactionCost : Nat := 20
/-- Idle characters before the part begins a frame (R78). -/
def idleGap : Nat := 2
/-- Character times of the reply window (R84). -/
def replyWindow : Nat := 4
/-- Space of a TAKE reply (R49) and longest PUT payload (R36). -/
def payloadBytes : Nat := 240
/-- Largest total and residue, 4,294,967,295 (R5, R18). -/
def maxTotal : Nat := 4294967295

end Sys2Proof.Config
end

