-- ==== Sys2Proof/Machine/Codes.lean ====
section
/-! DEFINITION. The symbolic values of the manual and the code bytes that stand for them (sections 9.3, 9.5, 9.6, 9.7). -/

namespace Sys2Proof.Machine

/-- Direction of a stream (1.1). -/
inductive Direction where
  | outbound | inbound
  deriving DecidableEq, Repr

/-- Codes 1 OUTBOUND, 2 INBOUND (9.6). -/
def Direction.code : Direction → Byte
  | .outbound => 1
  | .inbound => 2

/-- End mode of a stream (1.1); `openEnd` is OPEN. -/
inductive EndMode where
  | counted | openEnd | refill
  deriving DecidableEq, Repr

/-- Codes 1 COUNTED, 2 OPEN, 3 REFILL (9.6). -/
def EndMode.code : EndMode → Byte
  | .counted => 1
  | .openEnd => 2
  | .refill => 3

/-- States of a stream other than FREE (1.2); a FREE stream has no record (log entry 8). -/
inductive StreamState where
  | idle | armed | running | paused | halted | done
  deriving DecidableEq, Repr

/-- Stream state codes; FREE is 0 (9.6). -/
def StreamState.code : StreamState → Byte
  | .idle => 1
  | .armed => 2
  | .running => 3
  | .paused => 4
  | .halted => 5
  | .done => 6

/-- Why a stream ended or halted (1.1); none is the absent condition. -/
inductive Condition where
  | complete | shortEnd | stopped | rejected | overrun | retriesSpent | linkLost
  deriving DecidableEq, Repr

/-- Condition codes (9.6). -/
def Condition.code : Condition → Byte
  | .complete => 1
  | .shortEnd => 2
  | .stopped => 3
  | .rejected => 4
  | .overrun => 5
  | .retriesSpent => 6
  | .linkLost => 7

/-- Failure kinds and the abandonment YIELDED (1.1). -/
inductive FailureKind where
  | silent | check | form | yielded
  deriving DecidableEq, Repr

/-- Last failure kind codes (9.6). -/
def FailureKind.code : FailureKind → Byte
  | .silent => 1
  | .check => 2
  | .form => 3
  | .yielded => 4

/-- Mastership states (5.1). -/
inductive MastState where
  | offline | listening | leading | following | faulted
  deriving DecidableEq, Repr

/-- Mastership state codes (9.6). -/
def MastState.code : MastState → Byte
  | .offline => 0
  | .listening => 1
  | .leading => 2
  | .following => 3
  | .faulted => 4

/-- Causes of a change of mastership state (5.1). -/
inductive Cause where
  | linkUp | linkUpLead | linkUpFollow | takeover | yield | handover | linkDown | stuckLine | idClash
  deriving DecidableEq, Repr

/-- Mastership cause codes; none is 0 (9.6). -/
def Cause.code : Cause → Byte
  | .linkUp => 1
  | .linkUpLead => 2
  | .linkUpFollow => 3
  | .takeover => 4
  | .yield => 5
  | .handover => 6
  | .linkDown => 7
  | .stuckLine => 8
  | .idClash => 9

/-- Unit ids (5.1). -/
inductive UnitId where
  | one | two
  deriving DecidableEq, Repr

/-- Unit id codes 1 and 2 (9.6). -/
def UnitId.code : UnitId → Byte
  | .one => 1
  | .two => 2

/-- The other unit's id. -/
def UnitId.other : UnitId → UnitId
  | .one => .two
  | .two => .one

/-- Field link rates 2.5, 5 and 10 Mbit/s (5.1). -/
inductive LinkRate where
  | r2_5 | r5 | r10
  deriving DecidableEq, Repr

/-- Rate codes (9.6). -/
def LinkRate.code : LinkRate → Byte
  | .r2_5 => 1
  | .r5 => 2
  | .r10 => 3

/-- Microseconds of one link character: 0.25, 0.5 and 1 character per microsecond (section 0.6). -/
def LinkRate.charMicros : LinkRate → Nat
  | .r2_5 => 4
  | .r5 => 2
  | .r10 => 1

/-- The rate a code names (9.6). -/
def LinkRate.ofCode (b : Byte) : Option LinkRate :=
  if b = 1 then some .r2_5 else if b = 2 then some .r5 else if b = 3 then some .r10 else none

/-- Command port rates 0.5, 1, 2 and 4 Mbaud (R148). -/
inductive Baud where
  | half | one | two | four
  deriving DecidableEq, Repr

/-- The rate the straps BAUD1 and BAUD0 give (R148). -/
def Baud.ofStraps : Bool → Bool → Baud
  | false, false => .half
  | false, true => .one
  | true, false => .two
  | true, true => .four

/-- One character time of the command port in half microseconds: 20, 10, 5 and 2.5 microseconds (R148). -/
def Baud.charHalfMicros : Baud → Nat
  | .half => 40
  | .one => 20
  | .two => 10
  | .four => 5

/-- Time of `n` characters of the command port, in microseconds, rounded up (log entry 17). -/
def Baud.charsMicros (n : Nat) (b : Baud) : Nat := (n * b.charHalfMicros + 1) / 2

/-- Edge selection of a capture line (6.2); `off` is NONE. -/
inductive Edges where
  | off | rise | fall | both
  deriving DecidableEq, Repr

/-- Codes 0 NONE, 1 RISE, 2 FALL, 3 BOTH (9.6). -/
def Edges.code : Edges → Byte
  | .off => 0
  | .rise => 1
  | .fall => 2
  | .both => 3

/-- The selection a code names (9.6). -/
def Edges.ofCode (b : Byte) : Option Edges :=
  if b = 0 then some .off else if b = 1 then some .rise else if b = 2 then some .fall
  else if b = 3 then some .both else none

/-- Whether an edge of the given sense (`true` is RISE) is selected (R135). -/
def Edges.selects : Edges → Bool → Bool
  | .off, _ => false
  | .rise, r => r
  | .fall, r => !r
  | .both, _ => true

/-- Level of a mark line (6.3). -/
inductive Level where
  | low | high
  deriving DecidableEq, Repr

/-- Codes 0 LOW, 1 HIGH (9.6). -/
def Level.code : Level → Byte
  | .low => 0
  | .high => 1

/-- The level a code names (9.6). -/
def Level.ofCode (b : Byte) : Option Level :=
  if b = 0 then some .low else if b = 1 then some .high else none

/-- Causes of HELLO (R185). -/
inductive HelloCause where
  | power | restart
  deriving DecidableEq, Repr

/-- HELLO cause codes (9.6). -/
def HelloCause.code : HelloCause → Byte
  | .power => 1
  | .restart => 2

/-- Kinds of abandonment of a candidate (R152, R153). -/
inductive PortErrorKind where
  | check | length | gap
  deriving DecidableEq, Repr

/-- PORT_ERROR kind codes (9.6). -/
def PortErrorKind.code : PortErrorKind → Byte
  | .check => 1
  | .length => 2
  | .gap => 3

/-- What a PUT lacked (R36). -/
inductive RoomLimit where
  | quota | pool
  deriving DecidableEq, Repr

/-- PUT NO_ROOM limit codes (9.6). -/
def RoomLimit.code : RoomLimit → Byte
  | .quota => 1
  | .pool => 2

/-- Status codes of replies (R168). -/
inductive Status where
  | done | ended | cancelled | busy | noSession | tagInUse | badForm | badState | noStream | noRoom | noLoad | late | badAck
  deriving DecidableEq, Repr

/-- Status code bytes (9.6). -/
def Status.code : Status → Byte
  | .done => 0x0
  | .ended => 0x1
  | .cancelled => 0x2
  | .busy => 0x10
  | .noSession => 0x11
  | .tagInUse => 0x12
  | .badForm => 0x20
  | .badState => 0x21
  | .noStream => 0x22
  | .noRoom => 0x23
  | .noLoad => 0x24
  | .late => 0x25
  | .badAck => 0x26

/-- Codes of the answer frame of the field link (4.2). -/
inductive AnswerCode where
  | taken | wait | reject
  deriving DecidableEq, Repr

/-- Answer code characters (9.7). -/
def AnswerCode.code : AnswerCode → Byte
  | .taken => 0x59
  | .wait => 0x6A
  | .reject => 0x93

/-- Request kinds, one for each row of the request catalogue (9.3). -/
inductive ReqKind where
  | openSession | restart | ackReports | resendReports | configureLink | linkUp
  | linkDown | handover | linkStatus | define | start | stop
  | pause | unpause | resume | resetStream | release | refill
  | streamStatus | put | take | flush | poolStatus | loadQuery
  | setCapture | takeCaptures | scheduleMark | cancelMarks | forceMark | timeStatus
  deriving DecidableEq, Repr

/-- KIND codes of the requests (9.3). -/
def ReqKind.code : ReqKind → Byte
  | .openSession => 0x01
  | .restart => 0x02
  | .ackReports => 0x08
  | .resendReports => 0x09
  | .configureLink => 0x10
  | .linkUp => 0x11
  | .linkDown => 0x12
  | .handover => 0x13
  | .linkStatus => 0x14
  | .define => 0x20
  | .start => 0x21
  | .stop => 0x22
  | .pause => 0x23
  | .unpause => 0x24
  | .resume => 0x25
  | .resetStream => 0x26
  | .release => 0x27
  | .refill => 0x28
  | .streamStatus => 0x29
  | .put => 0x30
  | .take => 0x31
  | .flush => 0x32
  | .poolStatus => 0x33
  | .loadQuery => 0x38
  | .setCapture => 0x40
  | .takeCaptures => 0x41
  | .scheduleMark => 0x42
  | .cancelMarks => 0x43
  | .forceMark => 0x44
  | .timeStatus => 0x45

/-- All request kinds. -/
def ReqKind.all : List ReqKind :=
  [.openSession, .restart, .ackReports, .resendReports, .configureLink, .linkUp,
   .linkDown, .handover, .linkStatus, .define, .start, .stop,
   .pause, .unpause, .resume, .resetStream, .release, .refill,
   .streamStatus, .put, .take, .flush, .poolStatus, .loadQuery,
   .setCapture, .takeCaptures, .scheduleMark, .cancelMarks, .forceMark, .timeStatus]

/-- The request kind a KIND byte names, none for any other byte (R155). -/
def ReqKind.ofCode (b : Byte) : Option ReqKind := ReqKind.all.find? (fun k => k.code == b)

/-- Sizes in bytes of the body fields of a request, in order (9.3). PUT's payload, of any length, follows its one listed
field (R188). -/
def ReqKind.fields : ReqKind → List Nat
  | .openSession => []
  | .restart => []
  | .ackReports => [1]
  | .resendReports => [1]
  | .configureLink => [1, 2, 1, 1]
  | .linkUp => []
  | .linkDown => []
  | .handover => []
  | .linkStatus => []
  | .define => [1, 1, 1, 1, 1, 2, 2, 1, 1, 1, 1, 1, 1, 1, 1, 1, 1]
  | .start => [1, 1, 2, 4]
  | .stop => [1]
  | .pause => [1]
  | .unpause => [1]
  | .resume => [1]
  | .resetStream => [1]
  | .release => [1]
  | .refill => [1, 4]
  | .streamStatus => [1]
  | .put => [1]
  | .take => [1]
  | .flush => [1]
  | .poolStatus => []
  | .loadQuery => [1, 1]
  | .setCapture => [1, 1, 1]
  | .takeCaptures => [1]
  | .scheduleMark => [1, 2, 2, 1, 2]
  | .cancelMarks => [1]
  | .forceMark => [1, 1]
  | .timeStatus => []

end Sys2Proof.Machine
end

