-- ==== Sys2Proof/Machine/State.lean ====
section
/-! DEFINITION. The state of the K16S as plain data, block by block (section 0.2), its reset values, and the reasons a
step could stop (none: the spec names no event that stops the part). -/

namespace Sys2Proof.Machine

/-! ## Stream table (chapter 1) -/

/-- A cadence: whole part W and fraction p/q (1.1, R44). -/
structure Cadence where
  whole : Nat
  denom : Nat
  numer : Nat
  deriving DecidableEq, Repr

/-- Kind of a stream; period and phase are absent for DEMAND (1.1). -/
inductive StreamKind where
  | cyclic (period phase : Nat)
  | demand
  deriving DecidableEq, Repr

/-- The definition fields of a stream record (1.1). -/
structure StreamDef where
  node : Nat
  port : Nat
  direction : Direction
  kind : StreamKind
  limit : Nat
  cadence : Option Cadence
  endMode : EndMode
  closeEmpty : Bool
  retryBudget : Nat
  markCount : Nat
  autopause : Bool
  quota : Nat
  deriving DecidableEq, Repr

/-- Trigger of an ARMED stream (1.1). -/
inductive Trigger where
  | atCycle (c : Cycle)
  | onCapture (k : Line)
  deriving DecidableEq, Repr

/-- The record of a stream that is not FREE (1.1). `total` and `residue` are absent for OPEN and held as 0 there, and
`cadenceAcc` is absent without a cadence and held as 0 there (log entry 25). `stopTags` are the tags of the STOPs whose
replies wait with the stream (R13, R14, log entry 21). -/
structure StreamRecord where
  defn : StreamDef
  state : StreamState
  total : Nat
  residue : Nat
  trigger : Option Trigger
  seqBit : Bool
  resyncPending : Bool
  closingPending : Bool
  stopPending : Bool
  takenCount : Nat
  failures : Nat
  lastFailure : Option FailureKind
  accepted : BitVec 32
  condition : Option Condition
  holdsLoad : Bool
  cadenceAcc : Nat
  stopTags : List Byte
  deriving DecidableEq, Repr

/-! ## Segment memory (chapter 2) -/

/-- A stored inbound segment (2.3): its bytes (their number is its length), its cycle, its delivered offset. -/
structure SegmentRecord where
  data : List Byte
  cycle : Cycle
  delivered : Nat
  deriving DecidableEq, Repr

/-- A stream's chain: outbound bytes with head offset and held size (2.2, 2.4.3), inbound segment records (2.3). -/
structure Chain where
  bytes : List Byte
  headOffset : Nat
  heldSize : Option Nat
  records : List SegmentRecord
  deriving DecidableEq, Repr

/-- The empty chain (R33). -/
def Chain.empty : Chain := ⟨[], 0, none, []⟩

/-- The reservation of the inbound transaction in flight (R40). -/
structure Reservation where
  stream : Sid
  blocks : Nat
  deriving DecidableEq, Repr

/-- Segment memory; the free list is a count, since a block's identity is seen nowhere (R33, log entry 6). -/
structure SegmentMemory where
  free : Nat
  chains : Vector Chain 16
  reservation : Option Reservation
  deriving DecidableEq, Repr

/-- Segment memory after a reset (R33). -/
def SegmentMemory.reset : SegmentMemory := ⟨Config.blocks, Vector.replicate 16 Chain.empty, none⟩

/-! ## Cycle plan (chapter 3) -/

/-- Stages of the plan (3.2). -/
inductive Stage where
  | standby | opening | cyclic | demand | closed
  deriving DecidableEq, Repr

/-- The cycle record (3.2). `renewed` holds the streams started, released or defined since the due list was built
(R62, log entry 20); `skipped` the slots skipped in the cycle so far (R74, log entry 13). -/
structure CycleRecord where
  cycle : Cycle
  beaconStart : Option Nat
  dueList : List Sid
  duePlace : Nat
  waited : List Sid
  late : Bool
  round : Nat
  renewed : List Sid
  skipped : Nat
  deriving DecidableEq, Repr

/-- The cycle plan (3.2). -/
structure Plan where
  loadMap : Vector Nat 256
  pointer : Sid
  stage : Stage
  record : Option CycleRecord
  deriving DecidableEq, Repr

/-- The plan after a reset (R56). -/
def Plan.reset : Plan := ⟨Vector.replicate 256 0, 15, .standby, none⟩

/-! ## Link engine (chapter 4) -/

/-- Outcomes of a transaction (1.8). -/
inductive Outcome where
  | accepted | duplicate | wait | reject | overrun | silent | check | form | yielded
  deriving DecidableEq, Repr

/-- Phases of a transaction (4.3). -/
inductive Phase where
  | header | dataOut | replyWindow | receiving | drain | answering | closing
  deriving DecidableEq, Repr

/-- The transaction record (4.3). The reservation is segment memory's. `begun` tells whether the part's frame of the phase
(header, data frame, TAKEN) has begun; `windowFrom` is the moment the reply window opened; `payload` is the received
payload; `headerCycle` takes its value when the header begins (R82). -/
structure Transaction where
  stream : Sid
  direction : Direction
  node : Nat
  port : Nat
  size : Nat
  baseSize : Nat
  bitSent : Bool
  resync : Bool
  headerCycle : Cycle
  received : Option (Bool × Nat)
  payload : List Byte
  phase : Phase
  begun : Bool
  windowFrom : Nat
  decided : Option Outcome
  deriving DecidableEq, Repr

/-- The link engine. LDRV is asserted until the moment `drivenUntil` of the reference clock; `ltxd` is the frame last begun
on LTXD (log entry 24); `quiet` and `busy` are the idle and busy counts in microseconds (R77, R103); `hearing` tells that a foreign frame
is arriving whose end has not come (log entry 10); `control` holds the control characters of the data frame that is being
heard, none when one of them had a character error or no data frame is being heard (R79). -/
structure LinkEngine where
  transaction : Option Transaction
  drivenUntil : Nat
  ltxd : List Byte
  quiet : Nat
  busy : Nat
  hearing : Bool
  control : Option (Byte × Byte)
  deriving DecidableEq, Repr

/-- The link engine after a reset, LDRV released (R81, R77, R103). -/
def LinkEngine.reset : LinkEngine := ⟨none, 0, [], 0, 0, false, none⟩

/-! ## Mastership unit (chapter 5) -/

/-- Where a deferred reply goes: to the request under its tag, or nowhere when the request was abandoned (R112, R120, R162). -/
abbrev Waiter := Option Byte

/-- The mastership record (5.1); C and B are computed from its fields. -/
structure Mastership where
  state : MastState
  lastCause : Option Cause
  unit : UnitId
  rate : LinkRate
  cycleLength : Nat
  share : Nat
  timeout : Nat
  lastPartner : Option UnitId
  listenCount : Option Nat
  silenceCount : Nat
  silenceLimit : Nat
  listenRequest : Option Waiter
  handovers : List Waiter
  armed : Bool
  deriving DecidableEq, Repr

/-- The mastership record after a reset, with the unit id of the strap (R105). -/
def Mastership.reset (unit : UnitId) : Mastership :=
  ⟨.offline, none, unit, .r10, 1000, 80, 4, none, none, 0, 4, none, [], false⟩

/-! ## Time, capture and mark units (chapter 6) -/

/-- A point of link time (section 0.6). -/
structure Point where
  cycle : Cycle
  offset : Nat
  deriving DecidableEq, Repr

/-- The time unit; `clock` counts microseconds of the reference clock (R135). -/
structure TimeUnit where
  cycle : Cycle
  offset : Nat
  clock : Nat
  deriving DecidableEq, Repr

/-- The time unit after a reset, at the given moment of the reference clock (R127). -/
def TimeUnit.reset (clock : Nat) : TimeUnit := ⟨0, 0, clock⟩

/-- A capture line (6.2); the level of its pin is not held (log entry 15). -/
structure CaptureLine where
  edges : Edges
  holdOff : Nat
  lastQualifying : Option Nat
  lost : Bool
  deriving DecidableEq, Repr

/-- A capture record (6.2); `rise` is the sense of the edge. -/
structure CaptureRecord where
  line : Line
  rise : Bool
  cycle : Cycle
  offset : Nat
  lostBefore : Bool
  deriving DecidableEq, Repr

/-- The capture unit (6.2); `sampledAt` is the moment of the last sample that showed an edge (log entry 15). -/
structure CaptureUnit where
  lines : Vector CaptureLine 4
  queue : List CaptureRecord
  sampledAt : Option Nat
  deriving DecidableEq, Repr

/-- The capture unit after a reset (R133). -/
def CaptureUnit.reset : CaptureUnit := ⟨Vector.replicate 4 ⟨.off, 0, none, false⟩, [], none⟩

/-- A schedule entry of a mark line (6.3). -/
structure MarkEntry where
  point : Point
  level : Level
  width : Nat
  deriving DecidableEq, Repr

/-- A mark line (6.3); `current` is the level driven on its pin. -/
structure MarkLine where
  resting : Level
  current : Level
  pulseEnd : Option Point
  schedule : List MarkEntry
  deriving DecidableEq, Repr

/-- The mark lines after a reset (R139). -/
def marksReset : Vector MarkLine 4 := Vector.replicate 4 ⟨.low, .low, none, []⟩

/-! ## Report queue (chapter 8) -/

/-- A report with its subject and body (8.1). REPORTS_LOST has no body until its first frame (R177). -/
inductive Report where
  | hello (cause : HelloCause)
  | streamEnded (i : Sid) (state : StreamState) (condition : Option Condition) (lastFailure : Option FailureKind)
      (residue : Nat) (accepted : BitVec 32)
  | streamPaused (i : Sid)
  | streamMark (i : Sid)
  | streamStarted (i : Sid)
  | dataReady (i : Sid)
  | starved (i : Sid)
  | noRoom (i : Sid)
  | refillNeeded (i : Sid)
  | captured
  | cycleOverrun (first : Cycle) (skipped : Nat)
  | mastership (state : MastState) (cause : Cause) (partner : Option UnitId)
  | clash (cycle : Cycle)
  | portError (kind : PortErrorKind)
  | reportsLost (count : Option Nat)
  deriving DecidableEq, Repr

/-- An entry of the report queue (8.1). It is sent and unacknowledged exactly while it has a number. -/
structure ReportEntry where
  report : Report
  fixed : Bool
  number : Option Byte
  deriving DecidableEq, Repr

/-- The report queue (8.1); the resend mark names its entry by number. -/
structure ReportQueue where
  entries : List ReportEntry
  nextNumber : Byte
  lostCount : Nat
  resendMark : Option Byte
  deriving DecidableEq, Repr

/-- The report queue after a reset: one HELLO (R185). -/
def ReportQueue.reset (cause : HelloCause) : ReportQueue := ⟨[⟨.hello cause, false, none⟩], 0, 0, none⟩

/-! ## Command port (chapter 7) -/

/-- A received byte with its arrival time (7.3). -/
structure RxByte where
  byte : Byte
  arrival : Nat
  deriving DecidableEq, Repr

/-- What a reply in the reply queue is: an ordinary reply, stored in the history as it begins (R163); a port reply (R167);
the reply of RESTART, at whose end the reset is taken (R170). -/
inductive ReplyRole where
  | ordinary | port | restart
  deriving DecidableEq, Repr

/-- A reply handed to the transmitter, or READY in its slot: its request's KIND and TAG and its frame (7.7). -/
structure Reply where
  tag : Byte
  kind : Byte
  frame : List Byte
  role : ReplyRole
  deriving DecidableEq, Repr

/-- A slot of the request window (7.5): WAITING without a reply, READY with it. -/
structure Slot where
  tag : Byte
  kind : Byte
  reply : Option Reply
  deriving DecidableEq, Repr

/-- An entry of the reply history; its age is its place in the list, oldest first (7.6). -/
structure HistoryEntry where
  tag : Byte
  kind : Byte
  frame : List Byte
  deriving DecidableEq, Repr

/-- A frame going out on HTXD and the moment of the reference clock at which it ends. -/
structure Sending where
  frame : List Byte
  endsAt : Nat
  restartReply : Bool
  deriving DecidableEq, Repr

/-- The command port. The receiver is HUNTING while the candidate is empty. READY slots stand behind one another in the
order they became READY (R160). -/
structure Port where
  baud : Baud
  restarting : Bool
  sessionOpen : Bool
  epoch : Byte
  candidate : List RxByte
  pendingBytes : List RxByte
  window : List Slot
  history : List HistoryEntry
  replyQueue : List Reply
  htxd : Option Sending
  deriving DecidableEq, Repr

/-- The port after a reset, with the strapped rate and the epoch (R170, R171). -/
def Port.reset (baud : Baud) (epoch : Byte) : Port := ⟨baud, false, false, epoch, [], [], [], [], [], none⟩

/-! ## The part -/

/-- The state of the K16S. `inReset` tells that RESET_N is low; `pending` is the queue of commands that wait. -/
structure State where
  port : Port
  reports : ReportQueue
  streams : Vector (Option StreamRecord) 16
  memory : SegmentMemory
  plan : Plan
  engine : LinkEngine
  master : Mastership
  time : TimeUnit
  capture : CaptureUnit
  marks : Vector MarkLine 4
  inReset : Bool
  pending : List Instr
  deriving DecidableEq, Repr

/-- No command of the K16S faults: every event is taken, answered, reported or ignored, so there is no reason to list. -/
inductive Fault
  deriving DecidableEq, Repr

/-- Reasons to refuse a command. -/
inductive Refusal where
  /-- Raised only by an arm of exec for a command without a meaning (none is left): safe, the model stops. -/
  | notModelled (mnemonic : String)
  deriving DecidableEq, Repr

/-- What a command answers. -/
abbrev Result := Host.Outcome State Fault Refusal

/-- Every block at its reset values (R170, R171), with what the straps and the kind of reset give. -/
def State.afterReset (baud : Baud) (unit : UnitId) (epoch : Byte) (cause : HelloCause) (clock : Nat)
    (pending : List Instr) : State where
  port := Port.reset baud epoch
  reports := ReportQueue.reset cause
  streams := Vector.replicate 16 none
  memory := SegmentMemory.reset
  plan := Plan.reset
  engine := LinkEngine.reset
  master := Mastership.reset unit
  time := TimeUnit.reset clock
  capture := CaptureUnit.reset
  marks := marksReset
  inReset := false
  pending := pending

/-- The part right after RESET_N is released (R171), with every strap low: 0.5 Mbaud, unit 1 (DESIGN CHOICE, log entry 7). -/
def State.reset : State := State.afterReset .half .one 0 .power 0 []

end Sys2Proof.Machine
end

