-- ==== Sys2Proof/Machine/Flags.lean ====
section
/-! DEFINITION. The FLAGS byte of a command port frame (9.2), yes/no fields (R187) and the flag bits of the field link's
header and data frames (R191). -/

namespace Sys2Proof.Machine

/-- RETRY, bit 0: set by the host on a request sent again (9.2). -/
def flagRetry : Byte := 0x01
/-- REPLY, bit 6: set by the part on every reply (9.2). -/
def flagReply : Byte := 0x40
/-- REPORT, bit 7: set by the part on every report (9.2). -/
def flagReport : Byte := 0x80

/-- FLAGS of a request: clear or RETRY alone; any other value is improper (R155 test 2, 9.2). -/
def requestRetry (flags : Byte) : Option Bool :=
  if flags = 0 then some false else if flags = flagRetry then some true else none

/-- A yes/no field (R187). -/
def yesNo (b : Bool) : Byte := if b then 1 else 0

/-- Reading a yes/no field: only 0 and 1 are codes (R187). -/
def ofYesNo (b : Byte) : Option Bool := if b = 0 then some false else if b = 1 then some true else none

/-- Bit `n` set when `b` holds. -/
def bitAt (n : Nat) (b : Bool) : Byte := if b then 1#8 <<< n else 0

end Sys2Proof.Machine
end

