-- ==== Sys2Proof/Machine/Operands.lean ====
section
/-! DEFINITION. Every byte layout of chapter 9: field encoding (R187), the CRC (R149), command port frames (9.2), reply and
report bodies (R189, R190), and the frames of the field link with their reading (R79, R191, R192). -/

namespace Sys2Proof.Machine

/-! ## Fields (R187) -/

/-- A 1-byte field. -/
def u8 (n : Nat) : List Byte := [BitVec.ofNat 8 n]
/-- A 2-byte field, most significant byte first. -/
def u16 (n : Nat) : List Byte := [BitVec.ofNat 8 (n / 256), BitVec.ofNat 8 n]
/-- A 4-byte field, most significant byte first. -/
def u32 (n : Nat) : List Byte :=
  [BitVec.ofNat 8 (n / 16777216), BitVec.ofNat 8 (n / 65536), BitVec.ofNat 8 (n / 256), BitVec.ofNat 8 n]
/-- A yes/no field. -/
def flag8 (b : Bool) : List Byte := [yesNo b]

/-- Reading a field: its bytes as one number, most significant first. -/
def readNat (bs : List Byte) : Nat := bs.foldl (fun n b => n * 256 + b.toNat) 0

/-! ## CRC of R149 -/

/-- One byte into the CRC register: polynomial x^16 + x^15 + x^2 + 1, most significant bit first. -/
def crcByte (crc : BitVec 16) (b : Byte) : BitVec 16 :=
  (List.range 8).foldl (fun c _ => if c.msb then (c <<< 1) ^^^ 0x8005#16 else c <<< 1) (crc ^^^ (b.setWidth 16 <<< 8))

/-- The CRC of a run of bytes, initial value 0xFFFF, no final inversion. -/
def crc16 (bs : List Byte) : BitVec 16 := bs.foldl crcByte 0xFFFF#16

/-- The CRC as sent, high byte first. -/
def crcBytes (bs : List Byte) : List Byte := u16 (crc16 bs).toNat

/-! ## Command port frames (9.2) -/

/-- Start of frame. -/
def sof : Byte := 0xC3

/-- The bytes of a frame that the CRC covers: LEN, FLAGS, KIND, TAG, BODY. -/
def frameInner (flags kind tag : Byte) (body : List Byte) : List Byte :=
  BitVec.ofNat 8 (body.length + 3) :: flags :: kind :: tag :: body

/-- A whole frame (9.2). -/
def frame (flags kind tag : Byte) (body : List Byte) : List Byte :=
  sof :: (frameInner flags kind tag body ++ crcBytes (frameInner flags kind tag body))

/-- A reply frame (R150). -/
def replyFrame (kind tag : Byte) (body : List Byte) : List Byte := frame flagReply kind tag body

/-- LEN in 3 to 251 (R149). -/
def lenInRange (len : Byte) : Bool := decide (3 ≤ len.toNat ∧ len.toNat ≤ 251)

/-- The CRC test of a complete candidate, SOF first (R149). -/
def frameChecks (bytes : List Byte) : Bool :=
  match bytes with
  | [] => false
  | _ :: rest => rest.drop (rest.length - 2) == crcBytes (rest.take (rest.length - 2))

/-! ## Reply bodies (R189) -/

/-- A reply body: a status code and its fields. -/
abbrev Body := List Byte

/-- DONE with its fields. -/
def done (fields : List Byte) : Body := Status.done.code :: fields
/-- BAD_FORM with a field index. -/
def badForm (index : Nat) : Body := Status.badForm.code :: u8 index
/-- BAD_STATE. -/
def badState : Body := [Status.badState.code]
/-- NO_STREAM. -/
def noStream : Body := [Status.noStream.code]
/-- LATE. -/
def late : Body := [Status.late.code]
/-- BAD_ACK. -/
def badAck : Body := [Status.badAck.code]
/-- ENDED with a condition; a stream that ended always has one. -/
def ended (c : Option Condition) : Body := [Status.ended.code, match c with | some c => c.code | none => 0]
/-- CANCELLED with the mastership state. -/
def cancelled (m : MastState) : Body := [Status.cancelled.code, m.code]
/-- NO_LOAD with the first full entry and its value. -/
def noLoad (entry value : Nat) : Body := Status.noLoad.code :: (u8 entry ++ u16 value)

/-- A condition field, 0 when there is none. -/
def conditionCode : Option Condition → Byte
  | none => 0
  | some c => c.code
/-- A last failure kind field. -/
def failureCode : Option FailureKind → Byte
  | none => 0
  | some k => k.code
/-- A mastership cause field. -/
def causeCode : Option Cause → Byte
  | none => 0
  | some c => c.code
/-- A partner field, 0 for none. -/
def partnerCode : Option UnitId → Byte
  | none => 0
  | some u => u.code

/-! ## Reports (9.5) -/

/-- KIND of a report frame (9.5). -/
def Report.kindCode : Report → Byte
  | .hello _ => 0x80
  | .streamEnded _ _ _ _ _ _ => 0x81
  | .streamPaused _ => 0x82
  | .streamMark _ => 0x83
  | .streamStarted _ => 0x84
  | .dataReady _ => 0x85
  | .starved _ => 0x86
  | .noRoom _ => 0x87
  | .refillNeeded _ => 0x88
  | .captured => 0x89
  | .cycleOverrun _ _ => 0x8A
  | .mastership _ _ _ => 0x8B
  | .clash _ => 0x8C
  | .portError _ => 0x8D
  | .reportsLost _ => 0x8E

/-- Body of a report frame (R190); an unset REPORTS_LOST body is never sent. -/
def Report.body : Report → List Byte
  | .hello c => [c.code]
  | .streamEnded i st c k r a =>
      u8 i.val ++ [st.code, conditionCode c, failureCode k] ++ u32 r ++ u32 a.toNat
  | .streamPaused i | .streamMark i | .streamStarted i | .dataReady i | .starved i | .noRoom i | .refillNeeded i =>
      u8 i.val
  | .captured => []
  | .cycleOverrun c n => u16 c.toNat ++ u16 n
  | .mastership st c p => [st.code, c.code, partnerCode p]
  | .clash c => u16 c.toNat
  | .portError k => [k.code]
  | .reportsLost n => u8 (n.getD 0)

/-- Kind and subject of a coalescing report (R174); none for a kind that does not coalesce. -/
def Report.coalesceKey : Report → Option (Byte × Byte)
  | .streamMark i => some (0x83, BitVec.ofNat 8 i.val)
  | .dataReady i => some (0x85, BitVec.ofNat 8 i.val)
  | .starved i => some (0x86, BitVec.ofNat 8 i.val)
  | .noRoom i => some (0x87, BitVec.ofNat 8 i.val)
  | .refillNeeded i => some (0x88, BitVec.ofNat 8 i.val)
  | .captured => some (0x89, 0)
  | .cycleOverrun _ _ => some (0x8A, 0)
  | .clash _ => some (0x8C, 0)
  | .portError k => some (0x8D, k.code)
  | .hello _ | .streamEnded _ _ _ _ _ _ | .streamPaused _ | .streamStarted _ | .mastership _ _ _ | .reportsLost _ => none

/-- REPORTS_LOST is the one kind that is not ordinary (8.1). -/
def Report.isLost : Report → Bool
  | .reportsLost _ => true
  | .hello _ | .streamEnded _ _ _ _ _ _ | .streamPaused _ | .streamMark _ | .streamStarted _ | .dataReady _ | .starved _
  | .noRoom _ | .refillNeeded _ | .captured | .cycleOverrun _ _ | .mastership _ _ _ | .clash _ | .portError _ => false

/-- CYCLE_OVERRUN, the kind whose standing entry may be updated (R175). -/
def Report.isOverrun : Report → Bool
  | .cycleOverrun _ _ => true
  | .hello _ | .streamEnded _ _ _ _ _ _ | .streamPaused _ | .streamMark _ | .streamStarted _ | .dataReady _ | .starved _
  | .noRoom _ | .refillNeeded _ | .captured | .reportsLost _ | .mastership _ _ _ | .clash _ | .portError _ => false

/-- A report frame with its number (R150, R190). -/
def reportFrame (r : Report) (number : Byte) : List Byte := frame flagReport r.kindCode number r.body

/-! ## Field link frames (R191) -/

/-- Type characters (R191). -/
def beaconType : Byte := 0xE1
def headerType : Byte := 0x87
def dataType : Byte := 0x78
def answerType : Byte := 0x1E

/-- A beacon (R191). -/
def beaconFrame (u : UnitId) (c : Cycle) : List Byte :=
  beaconType :: (u.code :: u16 c.toNat) ++ crcBytes (u.code :: u16 c.toNat)

/-- The three field characters of a header (R191). -/
def headerFields (node port : Nat) (d : Direction) (bit resync : Bool) (len : Nat) : List Byte :=
  [ BitVec.ofNat 8 (node * 8) ||| bitAt 2 (d == .inbound) ||| bitAt 1 bit ||| bitAt 0 resync,
    BitVec.ofNat 8 (port * 16) ||| BitVec.ofNat 8 (len / 256),
    BitVec.ofNat 8 len ]

/-- A header (R191). -/
def headerFrame (node port : Nat) (d : Direction) (bit resync : Bool) (len : Nat) : List Byte :=
  headerType :: headerFields node port d bit resync len ++ crcBytes (headerFields node port d bit resync len)

/-- The control characters of a data frame (R191). -/
def dataControl (bit : Bool) (len : Nat) : List Byte :=
  [bitAt 7 bit ||| BitVec.ofNat 8 (len / 256), BitVec.ofNat 8 len]

/-- A data frame (R191). -/
def dataFrame (bit : Bool) (payload : List Byte) : List Byte :=
  dataType :: (dataControl bit payload.length ++ payload) ++ crcBytes (dataControl bit payload.length ++ payload)

/-- An answer (R191). -/
def answerFrame (a : AnswerCode) : List Byte := [answerType, a.code, ~~~ a.code]

/-- Sequence bit and 9-bit length of a data frame's control characters; the other bits are disregarded (R192). -/
def readControl (c1 c2 : Byte) : Bool × Nat := (c1.getLsbD 7, (c1 &&& 1).toNat * 256 + c2.toNat)

/-- The bytes of characters that were all heard without a character error (R77). -/
def heardBytes : List LinkChar → Option (List Byte)
  | [] => some []
  | c :: cs =>
    match c, heardBytes cs with
    | some b, some bs => some (b :: bs)
    | _, _ => none

/-- A well-formed beacon: complete, no character error, check correct, unit id 1 or 2; its cycle number is the low 12 bits
(R79, R192). -/
def readBeacon (chars : List LinkChar) : Option (UnitId × Cycle) :=
  match heardBytes chars with
  | some [t, u, hi, lo, k1, k2] =>
    if t != beaconType || [k1, k2] != crcBytes [u, hi, lo] then none
    else if u = 1 then some (.one, (hi ++ lo).setWidth 12)
    else if u = 2 then some (.two, (hi ++ lo).setWidth 12)
    else none
  | _ => none

/-- A well-formed answer: complete, no character error, a code of the three, the third character the complement of the
second (R79). -/
def readAnswer (chars : List LinkChar) : Option AnswerCode :=
  match heardBytes chars with
  | some [t, code, comp] =>
    if t != answerType || comp != ~~~ code then none
    else if code = AnswerCode.taken.code then some .taken
    else if code = AnswerCode.wait.code then some .wait
    else if code = AnswerCode.reject.code then some .reject
    else none
  | _ => none

/-- Characters as the link engine receives them: bytes, with a character error at each place that `errs` names (R77). -/
def linkChars (bytes : List Byte) (errs : List Nat) : List LinkChar :=
  bytes.zipIdx.map fun p => if p.2 ∈ errs then none else some p.1

/-- Active character times as the link engine takes them: the characters with their errors, and the levels that form none, in
which an error has no place (R77). -/
def linkTimes (times : List (Option Byte)) (errs : List Nat) : List LinkTime :=
  times.zipIdx.map fun p => p.1.map fun b => if p.2 ∈ errs then none else some b

/-- The characters heard in active character times: a level that forms no character is none of them (R77). -/
def heardChars (times : List LinkTime) : List LinkChar := times.filterMap id

/-- The payload of a well-formed data frame: `control` are its control characters, which announce `len`, and `rest` the
characters after them. None unless the frame is complete, without a character error and with a correct CRC (R79, R89). -/
def readPayload (control : Byte × Byte) (len : Nat) (rest : List LinkChar) : Option (List Byte) :=
  match heardBytes rest with
  | some bs =>
    if bs.length == len + 2 && bs.drop len == crcBytes (control.1 :: control.2 :: bs.take len) then some (bs.take len)
    else none
  | none => none

/-! ## The extent of a heard frame (R79) -/

/-- The length of a frame in characters, by its kind; none for an unrecognised frame, and for a data frame whose length is
not known (R79, R89, R191). -/
def frameLength (chars : List LinkChar) : Option Nat :=
  match chars with
  | some t :: rest =>
    if t = beaconType ∨ t = headerType then some 6
    else if t = answerType then some 3
    else if t = dataType then
      match rest with
      | some c1 :: some c2 :: _ => some (5 + (readControl c1 c2).2)
      | _ => none
    else none
  | _ => none

/-- The frame ends with its last character; a truncated or unrecognised one ends after 2 idle characters (R79). -/
def frameWhole (chars : List LinkChar) : Bool := (frameLength chars).any fun n => decide (n ≤ chars.length)

/-- How many character times the first `k` characters take, with the levels before and among them; all of them when there are
fewer characters. -/
def charSpan : Nat → List LinkTime → Nat
  | 0, _ => 0
  | _ + 1, [] => 0
  | k + 1, none :: ts => charSpan (k + 1) ts + 1
  | k + 1, some _ :: ts => charSpan k ts + 1

/-- How many character times belong to the first frame, the levels among its characters too, or to the levels before it, which
belong to no frame: a frame is assembled from its first character, and characters beyond its length begin a further one (R77,
R79). -/
def rowSpan (times : List LinkTime) : Nat :=
  match times with
  | none :: _ => (times.takeWhile Option.isNone).length
  | _ =>
    match frameLength (heardChars times) with
    | some n => charSpan n times
    | none => times.length

/-- The frames, and the levels between them, that active character times without a pause make up, at most `k` of them (R79). -/
def splitFrames : Nat → List LinkTime → List (List LinkTime)
  | 0, _ => []
  | _ + 1, [] => []
  | k + 1, t :: ts => (t :: ts).take (rowSpan (t :: ts)) :: splitFrames k ((t :: ts).drop (rowSpan (t :: ts)))

/-- The frames, and the levels between them, of active character times without a pause (R79). -/
def framesOf (times : List LinkTime) : List (List LinkTime) := splitFrames times.length times

end Sys2Proof.Machine
end

