-- ==== Sys2Proof/Machine/Ops.lean ====
section
/-! DEFINITION. The named operations over the blocks of the part: updates of State, link time, the report queue, the
request window and reply queue, chains and the free list, the load map, stream records. Each is written once, from the
rule it cites; the families' files call them. -/

namespace Sys2Proof.Machine

/-! ## Updates of State, one for each block -/

def State.setPort (p : Port) (s : State) : State := { s with port := p }
def State.setReports (q : ReportQueue) (s : State) : State := { s with reports := q }
def State.setStreams (v : Vector (Option StreamRecord) 16) (s : State) : State := { s with streams := v }
def State.setMemory (m : SegmentMemory) (s : State) : State := { s with memory := m }
def State.setPlan (p : Plan) (s : State) : State := { s with plan := p }
def State.setEngine (e : LinkEngine) (s : State) : State := { s with engine := e }
def State.setMaster (m : Mastership) (s : State) : State := { s with master := m }
def State.setTime (t : TimeUnit) (s : State) : State := { s with time := t }
def State.setCapture (c : CaptureUnit) (s : State) : State := { s with capture := c }
def State.setMarks (m : Vector MarkLine 4) (s : State) : State := { s with marks := m }
def State.setInReset (b : Bool) (s : State) : State := { s with inReset := b }
def State.setPending (l : List Instr) (s : State) : State := { s with pending := l }

/-- All stream ids in ascending order. -/
def allSids : List Sid := [0, 1, 2, 3, 4, 5, 6, 7, 8, 9, 10, 11, 12, 13, 14, 15]

/-- All lines in ascending order. -/
def allLines : List Line := [0, 1, 2, 3]

/-- The record of a stream, none while it is FREE. -/
def State.stream (i : Sid) (s : State) : Option StreamRecord := s.streams[i.val]

/-- Writing a stream's record. -/
def State.setStream (i : Sid) (r : Option StreamRecord) (s : State) : State :=
  s.setStreams (s.streams.set i.val r)

/-- The chain of a stream. -/
def State.chain (i : Sid) (s : State) : Chain := s.memory.chains[i.val]

/-- Writing a stream's chain and the free list in one act. -/
def State.setChain (i : Sid) (c : Chain) (free : Nat) (s : State) : State :=
  s.setMemory { s.memory with chains := s.memory.chains.set i.val c, free := free }

/-! ## Link characters, C and B (section 0.6) -/

/-- Microseconds of `n` link characters at the configured rate. -/
def State.chars (n : Nat) (s : State) : Nat := n * s.master.rate.charMicros

/-- C, the characters per cycle. -/
def Mastership.c (m : Mastership) : Nat := m.cycleLength / m.rate.charMicros

/-- B, the cyclic budget. -/
def Mastership.b (m : Mastership) : Nat := m.c * m.share / 100 - 8

/-- The plan's position in the current cycle (R55). -/
def State.position (s : State) : Nat := s.time.offset / s.master.rate.charMicros

/-- The idle count in characters (R77). -/
def State.idleCount (s : State) : Nat := s.engine.quiet / s.master.rate.charMicros

/-- The busy count in characters (R103). -/
def State.busyCount (s : State) : Nat := s.engine.busy / s.master.rate.charMicros

/-- LDRV is asserted while a frame of the part is being sent (R78). -/
def State.ldrv (s : State) : Bool := decide (s.time.clock < s.engine.drivenUntil)

/-! ## Link time (section 0.6, R127, R131) -/

/-- How many cycles ahead `b` lies of `a`, running forward: 0 to 4095. -/
def cyclesAhead (a b : Cycle) : Nat := (b - a).toNat

/-- A cycle number is ahead of the current one (section 0.6). -/
def isAhead (current c : Cycle) : Bool := decide (1 ≤ cyclesAhead current c ∧ cyclesAhead current c ≤ 2048)

/-- The current point. -/
def TimeUnit.point (t : TimeUnit) : Point := ⟨t.cycle, t.offset⟩

/-- Running forward from `old` to `new` reaches the point `p`: the points that `old` precedes and that precede or equal
`new` (R131). A point at or beyond the cycle length is reached at the boundary that ends its cycle (R127). -/
def passes (old new p : Point) : Bool :=
  (cyclesAhead old.cycle p.cycle != 0 || decide (old.offset < p.offset)) &&
  (decide (cyclesAhead old.cycle p.cycle < cyclesAhead old.cycle new.cycle) ||
    (cyclesAhead old.cycle p.cycle == cyclesAhead old.cycle new.cycle && decide (p.offset ≤ new.offset)))

/-- The point a number of microseconds after `p`, across as many boundaries as it spans (R142). -/
def Point.plus (cycleLength micros : Nat) (p : Point) : Point :=
  ⟨p.cycle + BitVec.ofNat 12 ((p.offset + micros) / cycleLength), (p.offset + micros) % cycleLength⟩

/-- The point at which the time unit reaches `p` by running: `p` itself, or the boundary that ends its cycle (R127). -/
def Point.reachedAt (cycleLength : Nat) (p : Point) : Point :=
  if p.offset < cycleLength then p else ⟨p.cycle + 1, 0⟩

/-- `n` microseconds of the reference clock pass, no boundary among them (R127). -/
def TimeUnit.run (n : Nat) (t : TimeUnit) : TimeUnit := { t with offset := t.offset + n, clock := t.clock + n }

/-- The boundary: the cycle number rises by 1, wrapping, and the offset becomes 0 (R127). -/
def TimeUnit.boundary (t : TimeUnit) : TimeUnit := { t with cycle := t.cycle + 1, offset := 0 }

/-! ## Mark lines (R142 to R145) -/

/-- A step: resting and current level become the level, and a running pulse ends (R142, R145). -/
def MarkLine.step (l : Level) (m : MarkLine) : MarkLine := { m with resting := l, current := l, pulseEnd := none }

/-- An entry acts on its line at the point given as the current point (R142, R144). -/
def MarkLine.fire (cycleLength : Nat) (now : Point) (e : MarkEntry) (m : MarkLine) : MarkLine :=
  if e.width = 0 then m.step e.level
  else { m with current := e.level, pulseEnd := some (now.plus cycleLength e.width) }

/-- A running pulse ends (R143). -/
def MarkLine.endPulse (m : MarkLine) : MarkLine := { m with current := m.resting, pulseEnd := none }

/-- A running pulse ends when its end is passed (R143, R144). -/
def MarkLine.endIfPassed (old new : Point) (m : MarkLine) : MarkLine :=
  match m.pulseEnd with
  | some p => if passes old new p then m.endPulse else m
  | none => m

/-- The line when link time goes from `old` to `new`: the passed entries leave the head of the schedule and fire in time
order, each with the current point that `now` gives it, and then the pulse that runs ends if its end was passed. An
entry that fires supersedes any earlier pulse, so an end before or after a passed entry needs no separate act (R144). An
entry fires as the head alone: where backward realignments have let a later entry's cycle number come before the head's, R140
(the order is settled) and R142 (an entry fires at its cycle and offset) disagree, and the later entry waits until it is the
head and its point is reached (DESIGN CHOICE, log entry 41). Entries that one boundary reaches together fire in the order of the
list (DESIGN CHOICE, log entry 44). -/
def MarkLine.pass (cycleLength : Nat) (now : Point → Point) (old new : Point) (m : MarkLine) : MarkLine :=
  let hit := m.schedule.takeWhile (fun e => passes old new e.point)
  MarkLine.endIfPassed old new
    (hit.foldl (fun m e => MarkLine.fire cycleLength (now e.point) e m) { m with schedule := m.schedule.drop hit.length })

/-- All mark lines when the time unit runs from `old` to `new` (R142, R143). -/
def marksRun (cycleLength : Nat) (old new : Point) (ms : Vector MarkLine 4) : Vector MarkLine 4 :=
  ms.map (MarkLine.pass cycleLength (Point.reachedAt cycleLength) old new)

/-- All mark lines at a forward realignment from `old` to `new` (R144). -/
def marksRealign (cycleLength : Nat) (old new : Point) (ms : Vector MarkLine 4) : Vector MarkLine 4 :=
  ms.map (MarkLine.pass cycleLength (fun _ => new) old new)

/-! ## The line and the passing of time (R77, R103) -/

/-- Line supervision runs in LISTENING, LEADING and FOLLOWING (R103). -/
def MastState.supervised : MastState → Bool
  | .listening | .leading | .following => true
  | .offline | .faulted => false

/-- `n` microseconds of activity on the line. -/
def LinkEngine.active (supervised : Bool) (n : Nat) (e : LinkEngine) : LinkEngine :=
  if n = 0 then e else { e with quiet := 0, busy := if supervised then e.busy + n else e.busy }

/-- `n` microseconds without activity: the busy count returns to 0 once the line has been idle for 2 characters (log
entry 9). -/
def LinkEngine.silent (supervised : Bool) (charMicros n : Nat) (e : LinkEngine) : LinkEngine :=
  { e with
    quiet := e.quiet + n
    busy := if supervised then
        (if Config.idleGap * charMicros ≤ e.quiet + n then 0 else e.busy + n) else e.busy }

/-- How much of the next `n` microseconds the line is active: all while a foreign frame is arriving, else as long as the
part's own frame lasts. -/
def State.activeTime (n : Nat) (s : State) : Nat :=
  if s.engine.hearing then n else min n (s.engine.drivenUntil - s.time.clock)

/-- `n` microseconds of the reference clock pass, no boundary among them, and nothing else happens: link time runs, the
marks it reaches fire, the line is active or quiet (log entry 2). -/
def State.elapse (n : Nat) (s : State) : State :=
  let t := s.time.run n
  { s with
    time := t
    engine := (s.engine.active s.master.state.supervised (s.activeTime n)).silent s.master.state.supervised
      s.master.rate.charMicros (n - s.activeTime n)
    marks := marksRun s.master.cycleLength s.time.point t.point s.marks }

/-- Time until the next cycle boundary (R127). -/
def State.untilBoundary (s : State) : Nat := s.master.cycleLength - s.time.offset

/-- Whether foreign activity holds the line. -/
def State.setHearing (b : Bool) (s : State) : State := s.setEngine { s.engine with hearing := b }

/-- Time until the line has been idle for 2 characters, if nothing else is heard (R78). -/
def State.untilIdle (s : State) : Nat :=
  if s.time.clock < s.engine.drivenUntil then s.engine.drivenUntil - s.time.clock + s.chars Config.idleGap
  else s.chars Config.idleGap - s.engine.quiet

/-- Time until the busy count reaches 600, if the line is not idle for 2 characters before; none when supervision is off or
the line falls idle first (R103). -/
def State.untilStuck (s : State) : Option Nat :=
  let left := s.chars Config.stuckCharacters - s.engine.busy
  if s.master.state.supervised && (s.engine.hearing || decide (left < s.untilIdle)) then some left else none

/-- The line has been idle for 2 characters and no frame is arriving. -/
def State.lineIdle (s : State) : Bool :=
  !s.engine.hearing && !s.ldrv && decide (s.chars Config.idleGap ≤ s.engine.quiet)

/-- Beginning a frame on LTXD (R78): LDRV is asserted for the time of its characters. -/
def State.beginFrame (chars : List Byte) (s : State) : State :=
  s.setEngine { s.engine with
    ltxd := chars, quiet := 0, drivenUntil := s.time.clock + s.chars chars.length }

/-- Releasing LDRV, even in the middle of a frame (R78). -/
def State.releaseLine (s : State) : State :=
  s.setEngine { s.engine with drivenUntil := min s.engine.drivenUntil s.time.clock, ltxd := [] }

/-! ## The report queue (chapter 8) -/

/-- The entry is sent and unacknowledged (8.1). -/
def ReportEntry.sent (e : ReportEntry) : Bool := e.number.isSome

/-- Ordinary entries in the queue (8.1). -/
def ReportQueue.ordinary (q : ReportQueue) : Nat := (q.entries.filter (fun e => !e.report.isLost)).length

/-- Entries with sent yes (8.1). -/
def ReportQueue.sentCount (q : ReportQueue) : Nat := (q.entries.filter (·.sent)).length

/-- A new entry at the tail, with fixed no, number absent and sent no (R172). -/
def ReportQueue.append (r : Report) (q : ReportQueue) : ReportQueue :=
  { q with entries := q.entries ++ [⟨r, false, none⟩] }

/-- A REPORTS_LOST is queued when the lost count is above 0 and none stands (R176). -/
def ReportQueue.ensureLost (q : ReportQueue) : ReportQueue :=
  if 0 < q.lostCount && !q.entries.any (·.report.isLost) then q.append (.reportsLost none) else q

/-- The overflow test and the joining of an ordinary report that no standing entry absorbs (R173, R176). -/
def ReportQueue.admitOrdinary (r : Report) (q : ReportQueue) : ReportQueue :=
  if Config.ordinaryReports ≤ q.ordinary then
    ReportQueue.ensureLost { q with lostCount := min 255 (q.lostCount + 1) }
  else q.append r

/-- A standing entry of the same coalescing kind and subject absorbs the report (R173, R174). -/
def ReportQueue.absorbs (r : Report) (q : ReportQueue) : Bool :=
  r.coalesceKey.isSome && q.entries.any (fun e => e.report.coalesceKey == r.coalesceKey)

/-- Offering an ordinary report (R173). -/
def ReportQueue.offer (r : Report) (q : ReportQueue) : ReportQueue := if q.absorbs r then q else q.admitOrdinary r

/-- The update of a standing CYCLE_OVERRUN: it counts while it is not fixed (R175). -/
def ReportEntry.addSkips (n : Nat) (e : ReportEntry) : ReportEntry :=
  match e.report with
  | .cycleOverrun first k => if e.fixed then e else { e with report := .cycleOverrun first (min 65535 (k + n)) }
  | .hello _ | .streamEnded _ _ _ _ _ _ | .streamPaused _ | .streamMark _ | .streamStarted _ | .dataReady _ | .starved _
  | .noRoom _ | .refillNeeded _ | .captured | .reportsLost _ | .mastership _ _ _ | .clash _ | .portError _ => e

/-- Queuing or updating CYCLE_OVERRUN for a late cycle: `soFar` slots skipped in it so far, `more` of them now (R74, R175). -/
def ReportQueue.offerOverrun (cycle : Cycle) (soFar more : Nat) (q : ReportQueue) : ReportQueue :=
  if q.entries.any (·.report.isOverrun) then { q with entries := q.entries.map (·.addSkips more) }
  else q.admitOrdinary (.cycleOverrun cycle (min 65535 soFar))

/-- A block offers a report (R172). -/
def State.offer (r : Report) (s : State) : State := s.setReports (s.reports.offer r)

/-! ## The request window and the reply queue (chapter 7) -/

/-- A TAG in use: a request in the window or a reply whose sending has not begun (R162). -/
def Port.tagInUse (tag : Byte) (p : Port) : Bool :=
  p.window.any (·.tag == tag) || p.replyQueue.any (·.tag == tag)

/-- READY slots hand their replies to the reply queue, in the order they became READY, while it has room (R160, R165). -/
def Port.handOver (p : Port) : Port :=
  let ready := p.window.filterMap (·.reply)
  let room := Config.replyQueueSize - p.replyQueue.length
  { p with
    replyQueue := p.replyQueue ++ ready.take room
    window := p.window.filter (fun sl => sl.reply.isNone) ++ (p.window.filter (fun sl => sl.reply.isSome)).drop room }

/-- The reply of a request in the window. -/
def replyOf (kind tag : Byte) (body : Body) : Reply := ⟨tag, kind, replyFrame kind tag body, .ordinary⟩

/-- A request that its block answers at once: its slot is READY and hands its reply over when there is room (R160). -/
def Port.enterReady (r : Reply) (p : Port) : Port :=
  Port.handOver { p with window := p.window ++ [⟨r.tag, r.kind, some r⟩] }

/-- A request whose reply is deferred: its slot is WAITING (R161). -/
def Port.enterWaiting (kind tag : Byte) (p : Port) : Port := { p with window := p.window ++ [⟨tag, kind, none⟩] }

/-- A WAITING slot with the tag. -/
def Slot.waitsFor (tag : Byte) (sl : Slot) : Bool := sl.tag == tag && sl.reply.isNone

/-- The deferred reply is made: the WAITING slot becomes READY, behind the slots that are READY already (R160, R161). -/
def Port.makeReady (tag : Byte) (body : Body) (p : Port) : Port :=
  match p.window.find? (·.waitsFor tag) with
  | none => p
  | some sl => Port.enterReady (replyOf sl.kind sl.tag body) { p with window := p.window.eraseP (·.waitsFor tag) }

/-- A port reply: handed to the reply queue when it has room, otherwise dropped (R167). -/
def Port.portReply (kind tag : Byte) (f : List Byte) (p : Port) : Port :=
  if p.replyQueue.length < Config.replyQueueSize then { p with replyQueue := p.replyQueue ++ [⟨tag, kind, f, .port⟩] }
  else p

/-- Making a deferred reply. -/
def State.answer (tag : Byte) (body : Body) (s : State) : State := s.setPort (s.port.makeReady tag body)

/-- Making the deferred reply of a waiting request, or discarding it when the request was abandoned (R162). -/
def State.answerWaiter (w : Waiter) (body : Body) (s : State) : State :=
  match w with
  | none => s
  | some tag => s.answer tag body

/-- Answering the waiting LINK_UP (R112). -/
def State.settleListen (body : Body) (s : State) : State :=
  match s.master.listenRequest with
  | none => s
  | some w => (s.setMaster { s.master with listenRequest := none }).answerWaiter w body

/-- Answering every waiting HANDOVER and emptying the list (R119, R120). R118 answers them at the same moment and names no order;
the replies become READY in the order in which the requests joined the list (DESIGN CHOICE, log entry 39). -/
def State.settleHandovers (body : Body) (s : State) : State :=
  s.master.handovers.foldl (fun s w => s.answerWaiter w body) (s.setMaster { s.master with handovers := [], armed := false })

/-- Every request in the window is abandoned: its reply will never be made (R162). -/
def State.abandonRequests (s : State) : State :=
  { s with
    port := { s.port with window := [] }
    master := { s.master with
      listenRequest := s.master.listenRequest.map (fun _ => none)
      handovers := s.master.handovers.map (fun _ => none) }
    streams := s.streams.map (fun r => r.map (fun r => { r with stopTags := [] })) }

/-! ## Chains and blocks (chapter 2) -/

/-- `n` bytes in blocks of 64, rounded up. -/
def blocksFor (n : Nat) : Nat := (n + 63) / 64

/-- Blocks a stored segment still holds (R39). -/
def SegmentRecord.blocks (r : SegmentRecord) : Nat := blocksFor r.data.length - r.delivered / 64

/-- Blocks of a chain (R35, R39). -/
def Chain.blocks (c : Chain) : Nat :=
  blocksFor (c.headOffset + c.bytes.length) + (c.records.map SegmentRecord.blocks).sum

/-- Bytes of a chain (R35, R39). -/
def Chain.size (c : Chain) : Nat := c.bytes.length + (c.records.map (fun r => r.data.length - r.delivered)).sum

/-- The chain after `n` bytes have left its head (R37). -/
def Chain.removeHead (n : Nat) (c : Chain) : Chain :=
  if c.bytes.length - n = 0 then { c with bytes := [], headOffset := 0 }
  else { c with bytes := c.bytes.drop n, headOffset := (c.headOffset + n) % 64 }

/-- Blocks that return to the free list when `n` bytes leave the head (R37). -/
def Chain.freedByRemoving (n : Nat) (c : Chain) : Nat :=
  if c.bytes.length - n = 0 then blocksFor (c.headOffset + c.bytes.length) else (c.headOffset + n) / 64

/-- The reservation returns whole to the free list (R42). -/
def State.returnReservation (s : State) : State :=
  match s.memory.reservation with
  | none => s
  | some r => s.setMemory { s.memory with free := s.memory.free + r.blocks, reservation := none }

/-! ## The load map (3.6) -/

/-- Admitted cost of a cyclic stream (R55). -/
def StreamDef.cost (d : StreamDef) : Nat := Config.transactionCost + d.limit

/-- A load map entry belongs to a stream of the period and phase (R69). -/
def loadEntryOf (period phase r : Nat) : Bool := r % period == phase

/-- Adding a cost to every entry of a period and phase (R70). -/
def Plan.addLoad (period phase cost : Nat) (p : Plan) : Plan :=
  { p with loadMap := Vector.ofFn fun r => if loadEntryOf period phase r.val then p.loadMap[r] + cost else p.loadMap[r] }

/-- Taking a cost from every entry of a period and phase (R71). -/
def Plan.removeLoad (period phase cost : Nat) (p : Plan) : Plan :=
  { p with loadMap := Vector.ofFn fun r => if loadEntryOf period phase r.val then p.loadMap[r] - cost else p.loadMap[r] }

/-- The first entry, counting upward, that the cost would take above the budget (R70). -/
def Plan.fullEntry (period phase cost budget : Nat) (p : Plan) : Option (Fin 256) :=
  (List.finRange 256).find? fun r => loadEntryOf period phase r.val && decide (budget < p.loadMap[r] + cost)

/-- A stream's cost leaves the load map, if it stands there (R71). -/
def State.releaseLoad (i : Sid) (s : State) : State :=
  match s.stream i with
  | none => s
  | some r =>
    match r.defn.kind, r.holdsLoad with
    | .cyclic period phase, true =>
      (s.setStream i (some { r with holdsLoad := false })).setPlan (s.plan.removeLoad period phase r.defn.cost)
    | .cyclic _ _, false => s
    | .demand, _ => s

/-- A stream is started, released or defined: the due list of the current cycle passes it over (R62). -/
def State.renew (i : Sid) (s : State) : State :=
  s.setPlan { s.plan with record := s.plan.record.map fun c => { c with renewed := i :: c.renewed } }

/-! ## Stream records -/

/-- The STREAM_ENDED report of a record (R32). -/
def StreamRecord.endedReport (i : Sid) (r : StreamRecord) : Report :=
  .streamEnded i r.state r.condition r.lastFailure r.residue r.accepted

/-- Entry to HALTED or DONE: the record is written and STREAM_ENDED queued (R32). -/
def State.endStream (i : Sid) (r : StreamRecord) (s : State) : State :=
  (s.setStream i (some r)).offer (r.endedReport i)

/-- Entry to HALTED with a condition (1.2). -/
def State.halt (i : Sid) (r : StreamRecord) (c : Condition) (s : State) : State :=
  s.endStream i { r with state := .halted, condition := some c }

/-- A REFILL stream with residue 0 (R25). -/
def StreamRecord.needsRefill (r : StreamRecord) : Bool := r.defn.endMode == .refill && r.residue == 0

/-- REFILL_NEEDED when a REFILL stream stands at residue 0 (R6, R15, R25). -/
def State.offerRefill (i : Sid) (r : StreamRecord) (s : State) : State :=
  if r.needsRefill then s.offer (.refillNeeded i) else s

/-- An ARMED stream takes its trigger: RUNNING, STREAM_STARTED, and REFILL_NEEDED at residue 0 (R7, R8). -/
def State.trigger (i : Sid) (s : State) : State :=
  match s.stream i with
  | none => s
  | some r =>
    ((s.setStream i (some { r with state := .running, trigger := none })).offer (.streamStarted i)).offerRefill i r

/-- The stream is ARMED with the cycle trigger. -/
def StreamRecord.armedAt (hit : Cycle → Bool) (r : StreamRecord) : Bool :=
  match r.state, r.trigger with
  | .armed, some (.atCycle c) => hit c
  | _, _ => false

/-- The stream is ARMED with the capture trigger. -/
def StreamRecord.armedOn (k : Line) (r : StreamRecord) : Bool :=
  match r.state, r.trigger with
  | .armed, some (.onCapture l) => l == k
  | _, _ => false

/-- Every stream whose record meets the test takes its trigger, in ascending stream id, each with its STREAM_STARTED and
REFILL_NEEDED together. R132 states the order for a realignment; at an ordinary boundary (R7) and at a capture edge (R8,
R136) it is the model's choice (DESIGN CHOICE, log entry 32). -/
def State.triggerAll (test : StreamRecord → Bool) (s : State) : State :=
  allSids.foldl (fun s i => if (s.stream i).any test then s.trigger i else s) s

/-- The cycle starts that running or moving forward from `old` to `new` passes reach the streams ARMED at them (R7, R132). -/
def State.passCycleStarts (old new : Cycle) (s : State) : State :=
  s.triggerAll (StreamRecord.armedAt fun c => passes ⟨old, 0⟩ ⟨new, 0⟩ ⟨c, 0⟩)

/-- Resolving the STOPs that wait on a stream, after an outcome or a mastership change was applied (R13). R14 answers them at the
same moment and names no order; they are answered in the order in which they came (DESIGN CHOICE, log entry 39). -/
def State.resolveStop (i : Sid) (s : State) : State :=
  match s.stream i with
  | none => s
  | some r =>
    if r.stopPending then
      let r' := { r with stopPending := false, stopTags := [] }
      match r.state with
      | .halted | .done =>
        r.stopTags.foldl (fun s t => s.answer t (ended r.condition)) (s.setStream i (some r'))
      | .running | .paused | .idle | .armed =>
        r.stopTags.foldl (fun s t => s.answer t (done [])) (s.halt i r' .stopped)
    else s

end Sys2Proof.Machine
end

