-- ==== Sys2Proof/Machine/Segments.lean ====
section
/-! DEFINITION. Segment memory's answers to the cycle plan: base size and cadence (R44), size by end mode (R45), held size
(R46), eligibility (R47), the room test and the reservation (R40). -/

namespace Sys2Proof.Machine

/-- The base size S0 of the next segment (R44). -/
def StreamRecord.baseSize (r : StreamRecord) : Nat :=
  match r.defn.cadence with
  | none => r.defn.limit
  | some c => if c.denom ≤ r.cadenceAcc + c.numer then c.whole + 1 else c.whole

/-- The accumulator after one step (R44). -/
def StreamRecord.cadenceStep (r : StreamRecord) : Nat :=
  match r.defn.cadence with
  | none => r.cadenceAcc
  | some c => if c.denom ≤ r.cadenceAcc + c.numer then r.cadenceAcc + c.numer - c.denom else r.cadenceAcc + c.numer

/-- Whether a stream is of DEMAND kind. -/
def StreamDef.isDemand (d : StreamDef) : Bool :=
  match d.kind with
  | .demand => true
  | .cyclic _ _ => false

/-- Size of the next segment when no held size is set (R45). -/
def StreamRecord.nextSize (r : StreamRecord) (c : Chain) : Nat :=
  match r.defn.endMode with
  | .counted => if r.closingPending then 0 else min r.baseSize r.residue
  | .openEnd =>
    if r.defn.direction == .outbound && r.defn.isDemand then min r.baseSize c.bytes.length else r.baseSize
  | .refill => min r.baseSize r.residue

/-- Segment memory's answer before the room test (R47); `size` carries the segment size or the expected size. -/
inductive Question where
  | atRest
  | shortOfData
  | size (n : Nat)
  deriving DecidableEq, Repr

/-- The data tests of R47, in the order of its table. -/
def StreamRecord.question (r : StreamRecord) (c : Chain) : Question :=
  if r.needsRefill && c.heldSize.isNone then .atRest
  else
    match r.defn.direction with
    | .inbound => .size (r.nextSize c)
    | .outbound =>
      match c.heldSize with
      | some n => .size n
      | none =>
        if decide (c.bytes.length < r.nextSize c) ||
            (r.defn.endMode == .openEnd && r.defn.isDemand && c.bytes.isEmpty) then .shortOfData
        else .size (r.nextSize c)

/-- The room test of R40 for an expected size: within the quota and within the free list. -/
def State.roomFor (i : Sid) (r : StreamRecord) (e : Nat) (s : State) : Bool :=
  decide ((s.chain i).blocks + blocksFor e ≤ r.defn.quota ∧ blocksFor e ≤ s.memory.free)

/-- Taking the reservation, in one act with the room test (R40). -/
def State.reserve (i : Sid) (e : Nat) (s : State) : State :=
  s.setMemory { s.memory with free := s.memory.free - blocksFor e, reservation := some ⟨i, blocksFor e⟩ }

end Sys2Proof.Machine
end

