-- ==== Sys2Proof/Machine/Outcomes.lean ====
section
/-! DEFINITION. What the outcome of a transaction does: to segment memory (R37, R41, R42), to the stream record (R20 to R29),
to a waiting STOP (R13). One shared operation, `State.applyOutcome`. -/

namespace Sys2Proof.Machine

/-- The size n an accepted outcome carries: the size sent, or the received length (R93). -/
def Transaction.moved (tx : Transaction) : Nat :=
  match tx.direction with
  | .outbound => tx.size
  | .inbound => (tx.received.map (·.2)).getD 0

/-- The sequence bit an accepted segment carried: the bit sent, or the received bit (R93). -/
def Transaction.carried (tx : Transaction) : Bool :=
  match tx.direction with
  | .outbound => tx.bitSent
  | .inbound => (tx.received.map (·.1)).getD tx.bitSent

/-! ## Segment memory -/

/-- Accepted outbound segment: its bytes leave the head of the chain, and the held size clears (R37, R46). -/
def State.segmentTaken (tx : Transaction) (s : State) : State :=
  let c := s.chain tx.stream
  s.setChain tx.stream { c.removeHead tx.size with heldSize := none } (s.memory.free + c.freedByRemoving tx.size)

/-- Accepted inbound segment: stored in the first reserved blocks, the rest return; DATA_READY when the chain held no record
(R41, R54). An empty segment makes no record. -/
def State.segmentStored (tx : Transaction) (s : State) : State :=
  if tx.payload.isEmpty then s.returnReservation
  else
    match s.memory.reservation with
    | none => s
    | some rv =>
      let c := s.chain tx.stream
      let s' := (s.setMemory { s.memory with reservation := none }).setChain tx.stream
        { c with records := c.records ++ [⟨tx.payload, tx.headerCycle, 0⟩] }
        (s.memory.free + (rv.blocks - blocksFor tx.payload.length))
      if c.records.isEmpty then s'.offer (.dataReady tx.stream) else s'

/-- Segment memory applies an outcome (R37, R41, R42). -/
def State.applyToMemory (tx : Transaction) (o : Outcome) (s : State) : State :=
  match tx.direction, o with
  | .outbound, .accepted => s.segmentTaken tx
  | .inbound, .accepted => s.segmentStored tx
  | .outbound, _ => s
  | .inbound, _ => s.returnReservation

/-! ## The stream record -/

/-- Progress of an accepted outcome: R20, and steps 1 to 5 of R21. -/
def StreamRecord.progress (n : Nat) (carried : Bool) (r : StreamRecord) : StreamRecord :=
  { r with
    resyncPending := false
    seqBit := !carried
    accepted := r.accepted + 1
    cadenceAcc := r.cadenceStep
    residue := if r.defn.endMode = .openEnd then r.residue else r.residue - n
    failures := 0 }

/-- The accepted outcome reaches the mark count (R23). -/
def StreamRecord.marks (r : StreamRecord) : Bool :=
  decide (1 ≤ r.defn.markCount ∧ r.defn.markCount ≤ r.takenCount + 1)

/-- The taken count after an accepted outcome (R23). -/
def StreamRecord.nextTaken (r : StreamRecord) : Nat :=
  if r.defn.markCount = 0 then 0 else if r.marks then 0 else r.takenCount + 1

/-- Results of the end checks of R24. -/
inductive EndCheck where
  | closed | closeEmpty | complete | short | stays
  deriving DecidableEq, Repr

/-- The end checks of R24, on the record after its progress: segment size `n`, base size `s0`, expected size `e`. -/
def StreamRecord.endCheck (n s0 e : Nat) (r : StreamRecord) : EndCheck :=
  if r.defn.endMode ≠ .counted then .stays
  else if r.closingPending && n == 0 then .closed
  else if r.defn.direction == .outbound && r.defn.closeEmpty && r.residue == 0 && n == s0 then .closeEmpty
  else if r.residue == 0 && !r.closingPending then .complete
  else if r.defn.isDemand && r.defn.direction == .inbound && decide (n < e) then .short
  else .stays

/-- Entry to DONE: the load is released and STREAM_ENDED queued (R24, R71). -/
def State.finish (i : Sid) (r : StreamRecord) (c : Condition) (s : State) : State :=
  ((s.setStream i (some { r with state := .done, condition := some c })).releaseLoad i).offer
    ({ r with state := .done, condition := some c }.endedReport i)

/-- A stream that goes on after an accepted outcome: autopause at a mark (R23), then REFILL_NEEDED at residue 0 (R25; their order
is log entry 29). -/
def State.goOn (i : Sid) (r : StreamRecord) (marked : Bool) (s : State) : State :=
  if marked && r.defn.autopause && r.state == .running then
    ((s.setStream i (some { r with state := .paused })).offer (.streamPaused i)).offerRefill i r
  else (s.setStream i (some r)).offerRefill i r

/-- An accepted outcome applied to its stream (R21, R23, R24, R25). -/
def State.applyAccepted (tx : Transaction) (r : StreamRecord) (s : State) : State :=
  let i := tx.stream
  let r' := { r.progress tx.moved tx.carried with takenCount := r.nextTaken }
  let s := if r.marks then s.offer (.streamMark i) else s
  match r'.endCheck tx.moved tx.baseSize tx.size with
  | .closed => s.finish i { r' with closingPending := false } .complete
  | .closeEmpty => s.goOn i { r' with closingPending := true } r.marks
  | .complete => s.finish i r' .complete
  | .short => s.finish i r' .shortEnd
  | .stays => s.goOn i r' r.marks

/-- A failure outcome applied to its stream (R28). -/
def State.applyFailure (i : Sid) (k : FailureKind) (r : StreamRecord) (s : State) : State :=
  let r' := { r with failures := r.failures + 1, lastFailure := some k }
  if r'.failures = r.defn.retryBudget then s.halt i r' .retriesSpent else s.setStream i (some r')

/-- The stream table applies an outcome (R20 to R29). -/
def State.applyToStream (tx : Transaction) (o : Outcome) (s : State) : State :=
  match s.stream tx.stream with
  | none => s
  | some r =>
    match o with
    | .accepted => s.applyAccepted tx r
    | .duplicate => s.setStream tx.stream (some { r with resyncPending := false, failures := 0 })
    | .wait => s.setStream tx.stream (some { r with failures := 0 })
    | .reject => s.halt tx.stream r .rejected
    | .overrun => s.halt tx.stream r .overrun
    | .silent => s.applyFailure tx.stream .silent r
    | .check => s.applyFailure tx.stream .check r
    | .form => s.applyFailure tx.stream .form r
    | .yielded => s.setStream tx.stream (some { r with lastFailure := some .yielded })

/-- A DEMAND stream whose transaction ended in WAIT joins the waited set of the current cycle record (R68, log
entry 27). -/
def State.joinWaited (tx : Transaction) (o : Outcome) (s : State) : State :=
  if o == .wait && (s.stream tx.stream).any (fun r => r.defn.isDemand) then
    s.setPlan { s.plan with record := s.plan.record.map fun c => { c with waited := tx.stream :: c.waited } }
  else s

/-- The end of a transaction with an outcome: segment memory, the stream table, then a waiting STOP (R92). -/
def State.applyOutcome (tx : Transaction) (o : Outcome) (s : State) : State :=
  ((((s.setEngine { s.engine with transaction := none }).applyToMemory tx o).applyToStream tx o).joinWaited tx
    o).resolveStop tx.stream

/-- The end of a transaction without an outcome (R100): the reservation returns. -/
def State.dropTransaction (s : State) : State :=
  (s.setEngine { s.engine with transaction := none }).returnReservation

end Sys2Proof.Machine
end

