-- ==== Sys2Proof/Machine/Plan.lean ====
section
/-! DEFINITION. The cycle plan as arbiter of the field link (chapter 3): grants, the due list, the cyclic phase, the demand
round robin, late cycles, the cycle record at a boundary. -/

namespace Sys2Proof.Machine

/-- Updating the cycle record, when there is one. -/
def State.mapRecord (f : CycleRecord → CycleRecord) (s : State) : State :=
  s.setPlan { s.plan with record := s.plan.record.map f }

/-- Entering a stage. -/
def State.enterStage (st : Stage) (s : State) : State := s.setPlan { s.plan with stage := st }

/-! ## Late cycles (R74) -/

/-- The cycle is late, with `n` more of its slots skipped: CYCLE_OVERRUN is queued or updated (R74). -/
def State.noteLate (n : Nat) (s : State) : State :=
  match s.plan.record with
  | none => s
  | some c =>
    (s.mapRecord fun c => { c with late := true, skipped := c.skipped + n }).setReports
      (s.reports.offerOverrun c.cycle (c.skipped + n) n)

/-! ## Grants -/

/-- The transaction record a grant makes (R82). R82 gives the header cycle its value as the header begins; until then the
record holds the cycle number of the grant (DESIGN CHOICE, log entry 33). -/
def newTransaction (i : Sid) (r : StreamRecord) (size : Nat) (cycle : Cycle) : Transaction where
  stream := i
  direction := r.defn.direction
  node := r.defn.node
  port := r.defn.port
  size := size
  baseSize := r.baseSize
  bitSent := r.seqBit
  resync := r.resyncPending
  headerCycle := cycle
  received := none
  payload := []
  phase := .header
  begun := false
  windowFrom := 0
  decided := none

/-- Giving a transaction to the link engine (R48, R82); an outbound size becomes the chain's held size (R46). -/
def State.grant (i : Sid) (r : StreamRecord) (size : Nat) (s : State) : State :=
  let s' := s.setEngine { s.engine with transaction := some (newTransaction i r size s.time.cycle) }
  match r.defn.direction with
  | .outbound => s'.setChain i { s'.chain i with heldSize := some size } s'.memory.free
  | .inbound => s'

/-- A use of the link of `cost` characters fits before the end guard (R55). -/
def State.fits (cost : Nat) (s : State) : Bool := decide (s.position + cost ≤ s.master.c - Config.endGuard)

/-! ## The cyclic phase (3.4) -/

/-- Whether a cycle number is one in which a stream of the period and phase is due (3.4.1). Periods divide 256, so the
number modulo 256 decides; adding 256 keeps the difference from the phase above 0. -/
def dueIn (period phase : Nat) (c : Cycle) : Bool := (c.toNat % 256 + 256 - phase) % period == 0

/-- Period of a cyclic stream that holds load and is due in the cycle (R61). -/
def StreamRecord.duePeriod (c : Cycle) (r : StreamRecord) : Option Nat :=
  match r.defn.kind with
  | .cyclic period phase => if r.holdsLoad && dueIn period phase c then some period else none
  | .demand => none

/-- The periods a stream may have, ascending (R3). -/
def periods : List Nat := [1, 2, 4, 8, 16, 32, 64, 128, 256]

/-- The due list of a cycle: by ascending period, and by ascending stream id among equal periods (R61). -/
def State.dueStreams (c : Cycle) (s : State) : List Sid :=
  periods.flatMap fun p => allSids.filter fun i => (s.stream i).bind (StreamRecord.duePeriod c) == some p

/-- A stream that the plan counts or serves: RUNNING, and not renewed since the due list was built (R59, R62). -/
def State.serviceable (i : Sid) (s : State) : Option StreamRecord :=
  if (s.plan.record.map (·.renewed)).any (·.contains i) then none
  else (s.stream i).filter (fun r => r.state == .running)

/-- What a consideration of a stream came to. -/
inductive Considered where
  | granted | passed | ended
  deriving DecidableEq, Repr

/-- Considering a stream of the due list (R62, R63, R64). -/
def State.considerDue (i : Sid) (s : State) : State × Considered :=
  match s.serviceable i with
  | none => (s, .passed)
  | some r =>
    if !s.fits r.defn.cost then (s.noteLate 1, .passed)
    else
      match r.question (s.chain i) with
      | .atRest => (s, .passed)
      | .shortOfData => (s.offer (.starved i), .passed)
      | .size n =>
        match r.defn.direction with
        | .outbound => (s.grant i r n, .granted)
        | .inbound =>
          if s.roomFor i r n then ((s.reserve i n).grant i r n, .granted) else (s.offer (.noRoom i), .passed)

/-! ## The demand phase (3.5) -/

/-- Considering a candidate of the demand phase (R66). -/
def State.considerDemand (i : Sid) (s : State) : State × Considered :=
  match s.stream i with
  | none => (s, .passed)
  | some r =>
    if !r.defn.isDemand || r.state != .running || (s.plan.record.map (·.waited)).any (·.contains i) then (s, .passed)
    else
      match r.question (s.chain i) with
      | .atRest => (s, .passed)
      | .shortOfData => (s, .passed)
      | .size n =>
        if !s.fits (Config.transactionCost + n) then (s, .ended)
        else
          match r.defn.direction with
          | .outbound => (s.grant i r n, .granted)
          | .inbound =>
            if s.roomFor i r n then ((s.reserve i n).grant i r n, .granted) else (s.offer (.noRoom i), .passed)

/-- A demand grant moves the pointer to the stream and returns round to 0 (R65). -/
def State.pointAt (i : Sid) (s : State) : State :=
  (s.setPlan { s.plan with pointer := i }).mapRecord fun c => { c with round := 0 }

/-- The search for the next demand grant, over at most `k` candidates (R65, R67). -/
def State.searchDemand : Nat → Sid → State → State
  | 0, _, s => s.enterStage .closed
  | k + 1, i, s =>
    match s.considerDemand i with
    | (s', .granted) => s'.pointAt i
    | (s', .ended) => s'.enterStage .closed
    | (s', .passed) => State.searchDemand k (i + 1) (s'.mapRecord fun c => { c with round := c.round + 1 })

/-- A search of a whole turn from the id after the pointer (R65). -/
def State.demandTurn (s : State) : State := State.searchDemand 16 (s.plan.pointer + 1) s

/-- Entering DEMAND (R65). -/
def State.enterDemand (s : State) : State :=
  ((s.enterStage .demand).mapRecord fun c => { c with round := 0 }).demandTurn

/-- Serving the due list from the due place on (R62): to the next grant, or to the demand phase. -/
def State.serveDue : List Sid → State → State
  | [], s => s.enterDemand
  | i :: rest, s =>
    match s.considerDue i with
    | (s', .granted) => s'
    | (s', .passed) | (s', .ended) => State.serveDue rest (s'.mapRecord fun c => { c with duePlace := c.duePlace + 1 })

/-- The plan enters CYCLIC and builds the due list (R61). -/
def State.enterCyclic (s : State) : State :=
  match s.plan.record with
  | none => s
  | some c =>
    let due := s.dueStreams c.cycle
    State.serveDue due
      ((s.enterStage .cyclic).mapRecord fun c => { c with dueList := due, duePlace := 0, renewed := [] })

/-- The link is free after a transaction: the plan goes on in its stage (R57, R62, R65). -/
def State.planContinues (s : State) : State :=
  match s.plan.stage, s.plan.record with
  | .cyclic, some c =>
    State.serveDue (c.dueList.drop (c.duePlace + 1)) (s.mapRecord fun c => { c with duePlace := c.duePlace + 1 })
  | .demand, some _ => s.demandTurn
  | _, _ => s

/-! ## Boundaries while leading (R59) -/

/-- Streams whose slots the closing cycle record leaves unreached (R59). In CYCLIC the stream at the due place has its
transaction in flight, and those beyond it are unreached. -/
def State.unreached (s : State) : List Sid :=
  match s.plan.stage, s.plan.record with
  | .opening, some c => (s.dueStreams c.cycle).filter fun i => (s.stream i).any (fun r => r.state == .running)
  | .cyclic, some c => (c.dueList.drop (c.duePlace + 1)).filter fun i => (s.serviceable i).isSome
  | _, _ => []

/-- Closing the old cycle record: each unreached RUNNING due stream is a skipped slot (R59, R74). -/
def State.closeRecord (s : State) : State :=
  if s.unreached.isEmpty then s else s.noteLate s.unreached.length

/-- A new cycle record (R59). -/
def newRecord (c : Cycle) : CycleRecord := ⟨c, none, [], 0, [], false, 0, [], 0⟩

/-- The plan makes a new record for the time unit's cycle and enters OPENING (R59). -/
def State.openRecord (s : State) : State :=
  s.setPlan { s.plan with stage := .opening, record := some (newRecord s.time.cycle) }

/-- The plan enters STANDBY and discards the cycle record (R58). -/
def State.standBy (s : State) : State := s.setPlan { s.plan with stage := .standby, record := none }

end Sys2Proof.Machine
end

