-- ==== Sys2Proof/Machine/Mastership.lean ====
section
/-! DEFINITION. The mastership unit and the time unit (chapters 5 and 6): changes of mastership state (R106) with what they
do to the transaction in flight (R100), the streams (R30, R31) and the plan (R58); cycle boundaries (R128); realignment
(R130 to R132, R144); heard beacons (R111, R114 to R116, R123); the stuck line (R122); the requests of the unit. -/

namespace Sys2Proof.Machine

/-! ## Changes of mastership state (R106) -/

/-- A transaction in flight when the part leaves LEADING for `new` (R100). -/
def State.settleTransaction (new : MastState) (s : State) : State :=
  match s.engine.transaction with
  | none => s
  | some tx =>
    match tx.decided with
    | some o => s.applyOutcome tx o
    | none => if new = .following then s.applyOutcome tx .yielded else s.dropTransaction

/-- Halting one stream with LINK_LOST if it is ARMED, RUNNING or PAUSED, and answering a STOP that waits on it (R30, R13).
R106 names no order between that reply and the HANDOVER replies of its step 5; the model makes it READY here, before them
(DESIGN CHOICE, log entry 37). -/
def State.loseLink (i : Sid) (s : State) : State :=
  match s.stream i with
  | none => s
  | some r =>
    match r.state with
    | .armed | .running | .paused => (s.halt i { r with trigger := none } .linkLost).resolveStop i
    | .idle | .halted | .done => s

/-- Entry to OFFLINE or FAULTED reaches every stream, in ascending id (R30). -/
def State.loseAll (s : State) : State := allSids.foldl (fun s i => s.loseLink i) s

/-- Entry to LEADING sets resync pending on every stream that is not FREE (R31). -/
def State.resyncAll (s : State) : State :=
  s.setStreams (s.streams.map fun r => r.map fun r => { r with resyncPending := true })

/-- Step 3 of R106: what the new state does to the streams. -/
def State.streamsFollow (new : MastState) (s : State) : State :=
  match new with
  | .offline | .faulted => s.loseAll
  | .leading => s.resyncAll
  | .listening | .following => s

/-- Step 4 of R106: the plan leaves STANDBY on entry to LEADING and enters it otherwise (R58); the busy count restarts on
entry to a supervised state (R103). -/
def State.planFollows (new : MastState) (s : State) : State :=
  let s := if new = .leading then s.openRecord else s.standBy
  if new.supervised then s.setEngine { s.engine with busy := 0 } else s

/-- Step 1 of R106: LDRV is released and a transaction in flight is settled when the part leaves LEADING. -/
def State.leaveLeading (new : MastState) (s : State) : State :=
  if s.master.state = .leading then (s.releaseLine).settleTransaction new else s

/-- A change of mastership state, steps 1 to 4 of R106, with its MASTERSHIP report (R124). The replies of step 5 follow,
by the rule of each cause. -/
def State.changeMastership (new : MastState) (cause : Cause) (s : State) : State :=
  let s := s.leaveLeading new
  let s := s.setMaster { s.master with state := new, lastCause := some cause }
  ((s.offer (.mastership new cause s.master.lastPartner)).streamsFollow new).planFollows new

/-- DONE fields of a LINK_UP reply: state, cause, last partner (R112, 9.3). -/
def State.linkUpDone (s : State) : Body :=
  done [s.master.state.code, causeCode s.master.lastCause, partnerCode s.master.lastPartner]

/-! ## Cycle boundaries (R128) -/

/-- The boundary in the mastership unit: the listen count (R110), the silence count (R116, R117), the arming of a waiting
handover list (R118). R117 does not name the silence limit; a takeover keeps it, the handover hold too (DESIGN CHOICE, log
entry 40). -/
def State.masterBoundary (s : State) : State :=
  match s.master.state with
  | .listening =>
    match s.master.listenCount with
    | none => s.setMaster { s.master with listenCount := some 0 }
    | some k =>
      if s.master.timeout < k + 1 then
        let s := (s.setMaster { s.master with listenCount := none }).changeMastership .leading .linkUpLead
        s.settleListen s.linkUpDone
      else s.setMaster { s.master with listenCount := some (k + 1) }
  | .following =>
    if s.master.silenceLimit ≤ s.master.silenceCount + 1 then
      (s.setMaster { s.master with silenceCount := 0 }).changeMastership .leading .takeover
    else s.setMaster { s.master with silenceCount := s.master.silenceCount + 1 }
  | .leading => s.setMaster { s.master with armed := !s.master.handovers.isEmpty }
  | .offline | .faulted => s

/-- The boundary in the cycle plan while leading: the old record closes, counted on the streams as they stood before it
(log entry 5), and a new one opens (R59). -/
def State.planBoundary (s : State) : State := if s.master.state = .leading then s.closeRecord.openRecord else s

/-- The boundary in the time unit and the mark unit (R127, R142, R143). -/
def State.timeBoundary (s : State) : State :=
  let t := s.time.boundary
  { s with time := t, marks := marksRun s.master.cycleLength s.time.point t.point s.marks }

/-- A cycle boundary, at its instant: it reaches the plan, the stream table, the mastership unit and the mark unit (R128;
the order among them is log entry 5). -/
def State.cycleBoundary (s : State) : State :=
  let s := s.timeBoundary
  (s.planBoundary.passCycleStarts (s.time.cycle - 1) s.time.cycle).masterBoundary

/-- The next boundary brings the listen count to T + 1 (R110). -/
def State.listenEnds (s : State) : Bool :=
  s.master.state == .listening && s.master.listenCount.any (fun k => decide (s.master.timeout < k + 1))

/-- The next boundary brings the silence count to the silence limit (R117). -/
def State.takeoverComes (s : State) : Bool :=
  s.master.state == .following && decide (s.master.silenceLimit ≤ s.master.silenceCount + 1)

/-! ## Realignment (R130 to R132) -/

/-- The offset a realignment sets: the duration of a beacon's 6 characters (R130). R130 calls it the time since the beacon's first
character began, which is longer where levels that form no character stand among its characters; the offset is 6 characters
there too (DESIGN CHOICE, log entry 43). -/
def State.beaconMicros (s : State) : Nat := s.chars 6

/-- A realignment from `old` to `new` is forward (R131). -/
def isForward (old new : Point) : Bool :=
  isAhead old.cycle new.cycle || (old.cycle == new.cycle && decide (old.offset < new.offset))

/-- Realigning the time unit to a beacon with cycle number `c` (R130); a forward move passes cycle starts (R132) and marks
(R144), a backward one or none passes nothing (R131). -/
def State.realign (c : Cycle) (s : State) : State :=
  let old := s.time.point
  let new : Point := ⟨c, s.beaconMicros⟩
  let s' := s.setTime { s.time with cycle := c, offset := s.beaconMicros }
  if isForward old new then
    (s'.setMarks (marksRealign s.master.cycleLength old new s.marks)).passCycleStarts old.cycle c
  else s'

/-! ## Heard beacons -/

/-- A partner beacon takes the part to FOLLOWING (R111, R114): last partner, silence count 0, limit T, and realignment
after the four steps of R106 (log entry 14). -/
def State.follow (u : UnitId) (c : Cycle) (cause : Cause) (s : State) : State :=
  ((s.setMaster { s.master with
      lastPartner := some u, silenceCount := 0, silenceLimit := s.master.timeout, listenCount := none }).changeMastership
    .following cause).realign c

/-- An own-id beacon or a stuck line takes the part to FAULTED (R115, R122), answering a waiting LINK_UP (R112, log entry 18) and
the waiting HANDOVERs (R120). The silence count and the silence limit keep their values (DESIGN CHOICE, log entries 34 and
40). -/
def State.faulted (cause : Cause) (s : State) : State :=
  let s := (s.setMaster { s.master with listenCount := none }).changeMastership .faulted cause
  (s.settleListen s.linkUpDone).settleHandovers (cancelled .faulted)

/-- Deciding the outcome of the transaction in flight; its phase becomes the given one (R85, R87, R92). -/
def State.decideOutcome (o : Outcome) (ph : Phase) (s : State) : State :=
  s.setEngine { s.engine with
    transaction := s.engine.transaction.map fun tx => { tx with decided := some o, phase := ph, begun := false } }

/-- A transaction of the part awaits or reads a reply (R97). -/
def State.awaitsReply (s : State) : Bool :=
  s.engine.transaction.any fun tx => tx.phase == .replyWindow || tx.phase == .receiving

/-- A partner beacon heard while LEADING (R114, R97): unit 1 reports CLASH and counts a displaced reply FORM; unit 2
yields, and its waiting HANDOVERs are cancelled (R120). -/
def State.clash (u : UnitId) (c : Cycle) (s : State) : State :=
  match s.master.unit with
  | .one =>
    let s := (s.setMaster { s.master with lastPartner := some u }).offer (.clash c)
    if s.awaitsReply then (s.decideOutcome .form .closing) else s
  | .two => (s.follow u c .yield).settleHandovers (cancelled .following)

/-- A well-formed beacon reaches the mastership unit (R80): 5.2 and R111, R114 to R116, R123. -/
def State.beaconHeard (u : UnitId) (c : Cycle) (s : State) : State :=
  if u = s.master.unit then
    match s.master.state with
    | .offline | .faulted => s
    | .listening | .leading | .following => s.faulted .idClash
  else
    match s.master.state with
    | .offline | .faulted => s.setMaster { s.master with lastPartner := some u }
    | .listening =>
      let s := s.follow u c .linkUpFollow
      s.settleListen s.linkUpDone
    | .leading => s.clash u c
    | .following =>
      (s.setMaster { s.master with
        lastPartner := some u, silenceCount := 0, silenceLimit := s.master.timeout }).realign c

/-! ## The passing of time (R103, R127) -/

/-- The stuck line that comes within `n` microseconds, and not after the next boundary (R103). -/
def State.stuckWithin (n : Nat) (s : State) : Option Nat :=
  s.untilStuck.filter fun t => decide (t ≤ n ∧ t ≤ s.untilBoundary)

/-- `n` microseconds of the reference clock pass: each cycle boundary within them is taken at its instant (R127, R128), and
so is the stuck line (R103, R122), first where both fall on one instant (log entry 4). At most `k` such events. -/
def State.advance : Nat → Nat → State → State
  | 0, n, s => s.elapse n
  | k + 1, n, s =>
    match s.stuckWithin n with
    | some t => State.advance k (n - t) ((s.elapse t).faulted .stuckLine)
    | none =>
      if s.untilBoundary ≤ n then State.advance k (n - s.untilBoundary) (s.elapse s.untilBoundary).cycleBoundary
      else s.elapse n

/-- `n` microseconds pass; the stuck line comes at most once, since it ends supervision. -/
def State.passTime (n : Nat) (s : State) : State := s.advance (n / s.master.cycleLength + 2) n

/-- `n` microseconds pass in which foreign activity holds the line. -/
def State.passBusy (n : Nat) (s : State) : State := ((s.setHearing true).passTime n).setHearing s.engine.hearing

/-- Letting time pass until a moment of the reference clock, if it has not come. -/
def State.waitUntil (moment : Nat) (s : State) : State := s.passTime (moment - s.time.clock)

/-- Letting time pass to the next cycle boundary (R128). -/
def State.toBoundary (s : State) : State := s.passTime s.untilBoundary

/-- Letting time pass until the line has been idle for 2 characters (R78). -/
def State.waitIdle (s : State) : State := s.passTime s.untilIdle

/-! ## Handover (R119) -/

/-- An armed handover takes effect in place of the beacon (R119). -/
def State.handoverEffect (s : State) : State :=
  ((s.setMaster { s.master with silenceCount := 0, silenceLimit := 2 * s.master.timeout }).changeMastership .following
    .handover).settleHandovers (done [MastState.following.code])

/-! ## Requests of the mastership unit -/

/-- What a request's block answers: the state it leaves, and its reply unless it is deferred (R161). -/
abbrev Executed := State × Option Body

/-- An immediate reply. -/
def State.reply (body : Body) (s : State) : Executed := (s, some body)

/-- The checks of CONFIGURE_LINK's fields, in the order of R107; the index of the first that fails. -/
def configureError (rate : Byte) (cycleLength : BitVec 16) (share timeout : Byte) : Option Nat :=
  match LinkRate.ofCode rate with
  | none => some 1
  | some q =>
    if cycleLength.toNat < 250 ∨ 8000 < cycleLength.toNat then some 2
    else if share.toNat < 50 ∨ 90 < share.toNat then some 3
    else if timeout.toNat < 2 ∨ 16 < timeout.toNat then some 4
    else if cycleLength.toNat / q.charMicros < 200 ∨ 8000 < cycleLength.toNat / q.charMicros then some 2
    else none

/-- The effect of an accepted CONFIGURE_LINK (R108, R129, R77). -/
def State.configured (q : LinkRate) (cycleLength share timeout : Nat) (s : State) : State :=
  { s with
    master := { s.master with
      rate := q, cycleLength := cycleLength, share := share, timeout := timeout, silenceLimit := timeout }
    time := { s.time with offset := 0 }
    engine := { s.engine with quiet := 0 } }

/-- CONFIGURE_LINK (R107, R108). -/
def configureLink (rate : Byte) (cycleLength : BitVec 16) (share timeout : Byte) (s : State) : Executed :=
  if s.master.state ≠ .offline ∨ s.plan.loadMap.any (· != 0) then s.reply badState
  else
    match configureError rate cycleLength share timeout with
    | some i => s.reply (badForm i)
    | none =>
      let s' := s.configured ((LinkRate.ofCode rate).getD .r10) cycleLength.toNat share.toNat timeout.toNat
      s'.reply (done (u16 s'.master.c ++ u16 s'.master.b))

/-- LINK_UP (R109). -/
def linkUp (tag : Byte) (s : State) : Executed :=
  if s.master.state = .offline then
    ((s.setMaster { s.master with listenCount := none, listenRequest := some (some tag) }).changeMastership .listening
      .linkUp, none)
  else s.reply badState

/-- LINK_DOWN (R121): waiting LINK_UP and HANDOVER requests are answered CANCELLED before it. R121 does not name the silence
count, which keeps its value (DESIGN CHOICE, log entry 34). -/
def linkDown (s : State) : Executed :=
  if s.master.state = .offline then s.reply (done [])
  else
    let s := (s.setMaster { s.master with listenCount := none }).changeMastership .offline .linkDown
    ((s.settleListen (cancelled .offline)).settleHandovers (cancelled .offline)).reply (done [])

/-- HANDOVER (R118). -/
def handoverRequest (tag : Byte) (s : State) : Executed :=
  if s.master.state = .leading then
    (s.setMaster { s.master with handovers := s.master.handovers ++ [some tag] }, none)
  else s.reply badState

/-- LINK_STATUS (R126, 9.3). A listen request or HANDOVER whose request an OPEN abandoned counts as waiting while the record
holds it (DESIGN CHOICE, log entry 35); a list of more than 255 is counted modulo 256 (DESIGN CHOICE, log entry 36). -/
def linkStatus (s : State) : Executed :=
  let m := s.master
  s.reply (done ([m.state.code, causeCode m.lastCause, m.unit.code, m.rate.code] ++ u16 m.cycleLength ++ u8 m.share ++
    u8 m.timeout ++ u16 m.c ++ u16 m.b ++ [partnerCode m.lastPartner] ++ u8 (m.listenCount.getD 255) ++
    u8 m.silenceCount ++ u8 m.silenceLimit ++ flag8 m.listenRequest.isSome ++ u8 m.handovers.length ++ flag8 m.armed ++
    u16 s.time.cycle.toNat))

end Sys2Proof.Machine
end

