-- ==== Sys2Proof/Machine/Streams.lean ====
section
/-! DEFINITION. The requests of the stream table (chapter 1): DEFINE, START, STOP, PAUSE, UNPAUSE, RESUME, RESET_STREAM,
RELEASE, REFILL, STREAM_STATUS, as their owning block executes them. -/

namespace Sys2Proof.Machine

/-- A stream id field, 0 to 15 (R2). -/
def sidOf (b : Byte) : Option Sid := if h : b.toNat < 16 then some ⟨b.toNat, h⟩ else none

/-- The two common checks of a stream request (R2): the id, then FREE. -/
def withStream (sid : Byte) (k : Sid → StreamRecord → State → Executed) (s : State) : Executed :=
  match sidOf sid with
  | none => s.reply (badForm 1)
  | some i =>
    match s.stream i with
    | none => s.reply noStream
    | some r => k i r s

/-! ## DEFINE (R3, R4) -/

/-- The direction a code names (9.6). -/
def Direction.ofCode (b : Byte) : Option Direction :=
  if b = 1 then some .outbound else if b = 2 then some .inbound else none

/-- The end mode a code names (9.6). -/
def EndMode.ofCode (b : Byte) : Option EndMode :=
  if b = 1 then some .counted else if b = 2 then some .openEnd else if b = 3 then some .refill else none

/-- The kind a code names, with period and phase for CYCLIC (9.6). -/
def defineKind (f : DefineFields) : Option StreamKind :=
  if f.kind = 1 then some (.cyclic f.period.toNat f.phase.toNat) else if f.kind = 2 then some .demand else none

/-- The least quota: the blocks one full segment may need (R3). -/
def quotaFloor (d : Direction) (limit : Nat) : Nat :=
  match d with
  | .inbound => blocksFor limit
  | .outbound => blocksFor (limit + 63)

/-- The checks of R3, index by index: `true` where the field is accepted. -/
def defineChecks (f : DefineFields) : List (Nat × Bool) :=
  let cyclic := f.kind == 1
  let w := f.cadenceW.toNat
  let q := f.cadenceQ.toNat
  let outboundCounted := f.direction == 1 && f.endMode == 1
  [ (2, decide (1 ≤ f.node.toNat ∧ f.node.toNat ≤ 30)),
    (3, decide (f.port.toNat ≤ 15)),
    (4, (Direction.ofCode f.direction).isSome),
    (5, cyclic || f.kind == 2),
    (6, decide (1 ≤ f.limit.toNat ∧ f.limit.toNat ≤ 256)),
    (7, !cyclic || periods.contains f.period.toNat),
    (8, !cyclic || decide (f.phase.toNat < f.period.toNat)),
    (9, w == 0 || decide (w + 1 ≤ f.limit.toNat)),
    (10, w == 0 || decide (2 ≤ q ∧ q ≤ 64)),
    (11, w == 0 || decide (1 ≤ f.cadenceP.toNat ∧ f.cadenceP.toNat < q)),
    (12, (EndMode.ofCode f.endMode).isSome),
    (13, f.closeEmpty == 0 || (f.closeEmpty == 1 && outboundCounted)),
    (14, decide (f.retryBudget.toNat ≤ 15)),
    (15, decide (f.markCount.toNat ≤ 16)),
    (16, (ofYesNo f.autopause).isSome),
    (17, decide (1 ≤ f.quota.toNat ∧ f.quota.toNat ≤ 128) &&
      (Direction.ofCode f.direction).any (fun d => decide (quotaFloor d f.limit.toNat ≤ f.quota.toNat))) ]

/-- The index of the first field that fails (R3). -/
def defineFirstBad (f : DefineFields) : Option Nat := ((defineChecks f).find? (fun c => !c.2)).map (·.1)

/-- The definition that accepted fields record (R4). -/
def defineDefinition (f : DefineFields) : StreamDef where
  node := f.node.toNat
  port := f.port.toNat
  direction := (Direction.ofCode f.direction).getD .outbound
  kind := (defineKind f).getD .demand
  limit := f.limit.toNat
  cadence := if f.cadenceW = 0 then none else some ⟨f.cadenceW.toNat, f.cadenceQ.toNat, f.cadenceP.toNat⟩
  endMode := (EndMode.ofCode f.endMode).getD .counted
  closeEmpty := f.closeEmpty == 1
  retryBudget := if f.retryBudget = 0 then 3 else f.retryBudget.toNat
  markCount := f.markCount.toNat
  autopause := f.autopause == 1
  quota := f.quota.toNat

/-- The record a DEFINE writes (R4). -/
def newRecordOf (d : StreamDef) : StreamRecord where
  defn := d
  state := .idle
  total := 0
  residue := 0
  trigger := none
  seqBit := false
  resyncPending := true
  closingPending := false
  stopPending := false
  takenCount := 0
  failures := 0
  lastFailure := none
  accepted := 0
  condition := none
  holdsLoad := false
  cadenceAcc := 0
  stopTags := []

/-- DEFINE (R2, R3, R4); the chain starts empty (R53). -/
def defineStream (f : DefineFields) (s : State) : Executed :=
  match sidOf f.sid with
  | none => s.reply (badForm 1)
  | some i =>
    if (s.stream i).isSome then s.reply badState
    else
      match defineFirstBad f with
      | some k => s.reply (badForm k)
      | none =>
        (((s.setStream i (some (newRecordOf (defineDefinition f)))).setChain i Chain.empty s.memory.free).renew i).reply (done [])

/-! ## START (R5, R6) -/

/-- The trigger a START names (9.3.2): NOW, AT_CYCLE with its value, ON_CAPTURE with its value. -/
inductive StartTrigger where
  | now
  | arm (t : Trigger)
  deriving DecidableEq, Repr

/-- Checks 1 and 2 of R5: the trigger, or the index of the bad field. -/
def startTrigger (kind : Byte) (value : BitVec 16) : StartTrigger ⊕ Nat :=
  if kind = 1 then .inl .now
  else if kind = 2 then
    if value.toNat ≤ 4095 then .inl (.arm (.atCycle (value.setWidth 12))) else .inr 3
  else if kind = 3 then
    if h : value.toNat < 4 then .inl (.arm (.onCapture ⟨value.toNat, h⟩)) else .inr 3
  else .inr 2

/-- Check 4 of R5: an AT_CYCLE trigger names a cycle ahead of the current one. -/
def StartTrigger.inTime (current : Cycle) : StartTrigger → Bool
  | .now => true
  | .arm (.atCycle c) => isAhead current c
  | .arm (.onCapture _) => true

/-- Check 5 of R5: the first load map entry that admission would take above B, with its value (R70). -/
def State.admissionFault (d : StreamDef) (s : State) : Option (Nat × Nat) :=
  match d.kind with
  | .demand => none
  | .cyclic period phase =>
    (s.plan.fullEntry period phase d.cost s.master.b).map fun r => (r.val, s.plan.loadMap[r])

/-- The record of an accepted START (R6). -/
def StreamRecord.started (t : StartTrigger) (total : Nat) (r : StreamRecord) : StreamRecord :=
  let total := if r.defn.endMode = .openEnd then 0 else total
  { r with
    state := match t with | .now => .running | .arm _ => .armed
    total := total
    residue := total
    trigger := match t with | .now => none | .arm t => some t
    seqBit := false
    resyncPending := true
    closingPending := r.defn.endMode == .counted && r.defn.direction == .outbound && total == 0
    stopPending := false
    takenCount := 0
    failures := 0
    lastFailure := none
    accepted := 0
    condition := none
    holdsLoad := !r.defn.isDemand
    cadenceAcc := 0 }

/-- Admitting a cyclic stream to the load map (R70). -/
def State.admitLoad (d : StreamDef) (s : State) : State :=
  match d.kind with
  | .demand => s
  | .cyclic period phase => s.setPlan (s.plan.addLoad period phase d.cost)

/-- Clearing the held size of a chain (R46). -/
def State.clearHeld (i : Sid) (s : State) : State := s.setChain i { s.chain i with heldSize := none } s.memory.free

/-- The effect of an accepted START (R6, R46). -/
def State.startStream (i : Sid) (r : StreamRecord) (t : StartTrigger) (total : Nat) (s : State) : State :=
  let r' := r.started t total
  let s := (((s.admitLoad r.defn).setStream i (some r')).clearHeld i).renew i
  match t with
  | .now => s.offerRefill i r'
  | .arm _ => s

/-- START (R5, R6). -/
def startRequest (sid kind : Byte) (value : BitVec 16) (total : BitVec 32) (s : State) : Executed :=
  withStream sid (fun i r s =>
    match r.state with
    | .idle | .done =>
      match startTrigger kind value with
      | .inr k => s.reply (badForm k)
      | .inl t =>
        if r.defn.endMode == .counted && r.defn.direction == .inbound && total == 0 then s.reply (badForm 4)
        else if !t.inTime s.time.cycle then s.reply late
        else
          match s.admissionFault r.defn with
          | some (e, v) => s.reply (noLoad e v)
          | none => (s.startStream i r t total.toNat).reply (done [])
    | .armed | .running | .paused | .halted => s.reply badState) s

/-! ## STOP, PAUSE, UNPAUSE, RESUME -/

/-- A transaction of the stream is in flight (1.6). -/
def State.inFlight (i : Sid) (s : State) : Bool := s.engine.transaction.any fun tx => tx.stream == i

/-- STOP (R11 to R14). -/
def stopRequest (tag sid : Byte) (s : State) : Executed :=
  withStream sid (fun i r s =>
    match r.state with
    | .idle => s.reply badState
    | .armed =>
      ((s.setStream i (some { r with state := .idle, trigger := none })).releaseLoad i).reply (done [])
    | .running | .paused =>
      if s.inFlight i then
        (s.setStream i (some { r with stopPending := true, stopTags := r.stopTags ++ [tag] }), none)
      else (s.halt i r .stopped).reply (done [])
    | .halted | .done => s.reply (ended r.condition)) s

/-- PAUSE (R9). -/
def pauseRequest (sid : Byte) (s : State) : Executed :=
  withStream sid (fun i r s =>
    match r.state with
    | .running => (s.setStream i (some { r with state := .paused })).reply (done [])
    | .paused => s.reply (done [])
    | .idle | .armed | .halted | .done => s.reply badState) s

/-- UNPAUSE (R10). -/
def unpauseRequest (sid : Byte) (s : State) : Executed :=
  withStream sid (fun i r s =>
    match r.state with
    | .paused => (s.setStream i (some { r with state := .running })).reply (done [])
    | .idle | .armed | .running | .halted | .done => s.reply badState) s

/-- RESUME (R15). -/
def resumeRequest (sid : Byte) (s : State) : Executed :=
  withStream sid (fun i r s =>
    match r.state with
    | .halted =>
      let r' := { r with state := .running, failures := 0, lastFailure := none, condition := none }
      ((s.setStream i (some r')).offerRefill i r').reply (done [])
    | .idle | .armed | .running | .paused | .done => s.reply badState) s

/-! ## RESET_STREAM, RELEASE, REFILL -/

/-- The record after RESET_STREAM (R16). -/
def StreamRecord.resetRun (r : StreamRecord) : StreamRecord :=
  { r with
    state := .idle, total := 0, residue := 0, trigger := none, seqBit := false, resyncPending := true
    closingPending := false, stopPending := false, takenCount := 0, failures := 0, lastFailure := none
    accepted := 0, condition := none, holdsLoad := false, cadenceAcc := 0 }

/-- RESET_STREAM (R16, R46). -/
def resetStreamRequest (sid : Byte) (s : State) : Executed :=
  withStream sid (fun i r s =>
    match r.state with
    | .halted | .done => (((s.releaseLoad i).setStream i (some r.resetRun)).clearHeld i).reply (done [])
    | .idle | .armed | .running | .paused => s.reply badState) s

/-- Every block of a chain returns to the free list, and the chain is empty (R17, R51). -/
def State.freeChain (i : Sid) (s : State) : State := s.setChain i Chain.empty (s.memory.free + (s.chain i).blocks)

/-- RELEASE (R17). -/
def releaseRequest (sid : Byte) (s : State) : Executed :=
  withStream sid (fun i r s =>
    match r.state with
    | .idle | .halted | .done => ((((s.freeChain i).releaseLoad i).setStream i none).renew i).reply (done [])
    | .armed | .running | .paused => s.reply badState) s

/-- REFILL (R18). -/
def refillRequest (sid : Byte) (n : BitVec 32) (s : State) : Executed :=
  withStream sid (fun i r s =>
    if r.defn.endMode ≠ .refill then s.reply (badForm 2)
    else
      match r.state with
      | .running | .paused | .halted =>
        if Config.maxTotal < r.total + n.toNat then s.reply (badForm 2)
        else
          (s.setStream i (some { r with total := r.total + n.toNat, residue := r.residue + n.toNat })).reply (done [])
      | .idle | .armed | .done => s.reply badState) s

/-! ## STREAM_STATUS (R19, 9.4.3) -/

/-- Trigger kind and value of the status record. -/
def triggerFields : Option Trigger → List Byte
  | none => u8 0 ++ u16 0
  | some (.atCycle c) => u8 2 ++ u16 c.toNat
  | some (.onCapture k) => u8 3 ++ u16 k.val

/-- The 48-byte stream status record (9.4.3). -/
def statusRecord (i : Sid) (r : Option StreamRecord) (c : Chain) : List Byte :=
  match r with
  | none => u8 i.val ++ List.replicate 47 0
  | some r =>
    let d := r.defn
    let (kind, period, phase) := match d.kind with | .cyclic p f => (1, p, f) | .demand => (2, 0, 0)
    let (w, q, p) := match d.cadence with | some c => (c.whole, c.denom, c.numer) | none => (0, 0, 0)
    u8 i.val ++ [r.state.code] ++ u8 d.node ++ u8 d.port ++ [d.direction.code] ++ u8 kind ++ u16 d.limit ++
      u16 period ++ u8 phase ++ u8 w ++ u8 q ++ u8 p ++ u8 r.cadenceAcc ++ [d.endMode.code] ++ flag8 d.closeEmpty ++
      u8 d.retryBudget ++ u8 d.markCount ++ flag8 d.autopause ++ u8 d.quota ++ triggerFields r.trigger ++
      u32 r.total ++ u32 r.residue ++ flag8 r.seqBit ++ flag8 r.resyncPending ++ flag8 r.closingPending ++
      flag8 r.stopPending ++ u8 r.takenCount ++ u8 r.failures ++ [failureCode r.lastFailure, conditionCode r.condition] ++
      u32 r.accepted.toNat ++ flag8 r.holdsLoad ++ u16 c.size ++ u8 c.blocks

/-- STREAM_STATUS (R2, R19): it answers for a FREE stream too. -/
def streamStatusRequest (sid : Byte) (s : State) : Executed :=
  match sidOf sid with
  | none => s.reply (badForm 1)
  | some i => s.reply (done (statusRecord i (s.stream i) (s.chain i)))

end Sys2Proof.Machine
end

