-- ==== Sys2Proof/Machine/Memory.lean ====
section
/-! DEFINITION. The requests of segment memory and of the cycle plan: PUT, TAKE, FLUSH, POOL_STATUS (chapter 2) and LOAD_QUERY
(R73), as their owning blocks execute them. -/

namespace Sys2Proof.Machine

/-- The head offset a PUT counts from: 0 when the chain is empty (R36). -/
def Chain.putOffset (c : Chain) : Nat := if c.bytes.isEmpty then 0 else c.headOffset

/-- Blocks of the outbound chain after `m` more bytes (R36). -/
def Chain.blocksAfterPut (m : Nat) (c : Chain) : Nat := blocksFor (c.putOffset + c.bytes.length + m)

/-- Blocks of the outbound chain as it stands (R35). -/
def Chain.outBlocks (c : Chain) : Nat := blocksFor (c.putOffset + c.bytes.length)

/-- NO_ROOM to a PUT (R36, R189): what was short and the chain's byte count as it stands. -/
def putNoRoom (l : RoomLimit) (c : Chain) : Body := Status.noRoom.code :: l.code :: u16 c.bytes.length

/-- PUT (R36). -/
def putRequest (sid : Byte) (payload : List Byte) (s : State) : Executed :=
  withStream sid (fun i r s =>
    let c := s.chain i
    if r.defn.direction ≠ .outbound then s.reply badState
    else if Config.payloadBytes < payload.length then s.reply (badForm 2)
    else if r.defn.quota < c.blocksAfterPut payload.length then s.reply (putNoRoom .quota c)
    else if s.memory.free < c.blocksAfterPut payload.length - c.outBlocks then s.reply (putNoRoom .pool c)
    else
      (s.setChain i { c with bytes := c.bytes ++ payload, headOffset := c.putOffset }
        (s.memory.free - (c.blocksAfterPut payload.length - c.outBlocks))).reply
        (done (u16 (c.bytes.length + payload.length)))) s

/-! ## TAKE (R49, R50) -/

/-- A piece: its header and its bytes (9.4.1). -/
def pieceOf (r : SegmentRecord) (n : Nat) : List Byte :=
  u8 n ++ u8 ((if r.delivered = 0 then 1 else 0) + (if r.delivered + n = r.data.length then 2 else 0)) ++
    u16 r.cycle.toNat ++ (r.data.drop r.delivered).take n

/-- Delivery from the head of the chain into the space left: the pieces, the records left, the blocks returned. -/
def takePieces : Nat → List SegmentRecord → List Byte × List SegmentRecord × Nat
  | _, [] => ([], [], 0)
  | space, r :: rs =>
    if space < 5 then ([], r :: rs, 0)
    else
      let n := min (r.data.length - r.delivered) (space - 4)
      if r.delivered + n = r.data.length then
        let (bytes, left, freed) := takePieces (space - 4 - n) rs
        (pieceOf r n ++ bytes, left, r.blocks + freed)
      else
        (pieceOf r n, { r with delivered := r.delivered + n } :: rs, (r.delivered + n) / 64 - r.delivered / 64)

/-- TAKE (R49, R50). -/
def takeRequest (sid : Byte) (s : State) : Executed :=
  withStream sid (fun i r s =>
    if r.defn.direction ≠ .inbound then s.reply badState
    else
      let c := s.chain i
      let (bytes, left, freed) := takePieces Config.payloadBytes c.records
      (s.setChain i { c with records := left } (s.memory.free + freed)).reply (done (u8 left.length ++ bytes))) s

/-- FLUSH (R51). -/
def flushRequest (sid : Byte) (s : State) : Executed :=
  withStream sid (fun i r s =>
    match r.state with
    | .idle | .halted | .done => (s.freeChain i).reply (done (u8 (s.chain i).blocks))
    | .armed | .running | .paused => s.reply badState) s

/-- POOL_STATUS (R52, 9.3). -/
def poolStatus (s : State) : Executed :=
  let m := s.memory
  s.reply (done (u16 m.free ++
    (match m.reservation with | some r => u8 r.blocks ++ u8 r.stream.val | none => u8 0 ++ u8 0) ++
    allSids.flatMap fun i => u8 (s.chain i).blocks))

/-- LOAD_QUERY (R73). -/
def loadQuery (first count : Byte) (s : State) : Executed :=
  if count.toNat < 1 ∨ 64 < count.toNat then s.reply (badForm 2)
  else
    s.reply (done (u16 s.master.c ++ u16 s.master.b ++
      (List.range count.toNat).flatMap fun k => u16 (s.plan.loadMap[(first.toNat + k) % 256]!)))

end Sys2Proof.Machine
end

