-- ==== Sys2Proof/Machine/TimeMarks.lean ====
section
/-! DEFINITION. The capture and mark units (chapter 6): SET_CAPTURE, TAKE_CAPTURES, SCHEDULE_MARK, CANCEL_MARKS, FORCE_MARK,
TIME_STATUS as their blocks execute them, and the capture edge. -/

namespace Sys2Proof.Machine

/-- A line field, 0 to 3. -/
def lineOf (b : Byte) : Option Line := if h : b.toNat < 4 then some ⟨b.toNat, h⟩ else none

/-- Writing a capture line. -/
def State.setCaptureLine (k : Line) (l : CaptureLine) (s : State) : State :=
  s.setCapture { s.capture with lines := s.capture.lines.set k.val l }

/-- Writing a mark line. -/
def State.setMarkLine (k : Line) (m : MarkLine) (s : State) : State := s.setMarks (s.marks.set k.val m)

/-- SET_CAPTURE (R134). -/
def setCaptureRequest (line edges holdOff : Byte) (s : State) : Executed :=
  match lineOf line with
  | none => s.reply (badForm 1)
  | some k =>
    match Edges.ofCode edges with
    | none => s.reply (badForm 2)
    | some e =>
      (s.setCaptureLine k { s.capture.lines[k.val] with edges := e, holdOff := holdOff.toNat }).reply (done [])

/-- A capture record (9.4.2). -/
def captureBytes (r : CaptureRecord) : List Byte :=
  u8 r.line.val ++ u8 (if r.rise then 1 else 2) ++ flag8 r.lostBefore ++ u16 r.cycle.toNat ++ u16 r.offset

/-- TAKE_CAPTURES (R138). -/
def takeCapturesRequest (count : Byte) (s : State) : Executed :=
  let given := s.capture.queue.take count.toNat
  let left := s.capture.queue.drop count.toNat
  (s.setCapture { s.capture with queue := left }).reply
    (done (u8 left.length ++ u8 given.length ++ given.flatMap captureBytes))

/-! ## Captures -/

/-- The edge qualifies at the present moment (R135). -/
def CaptureLine.qualifies (rise : Bool) (clock : Nat) (l : CaptureLine) : Bool :=
  l.edges.selects rise && l.lastQualifying.all (fun t => decide (t + l.holdOff ≤ clock))

/-- The record is queued, or dropped with the line's lost flag set (R136 steps 1 to 4, R137). -/
def State.recordEdge (k : Line) (rise : Bool) (s : State) : State :=
  let l := s.capture.lines[k.val]
  if s.capture.queue.length < Config.captureQueue then
    let s' := s.setCapture
      { s.capture with
        lines := s.capture.lines.set k.val { l with lastQualifying := some s.time.clock, lost := false }
        queue := s.capture.queue ++ [⟨k, rise, s.time.cycle, s.time.offset, l.lost⟩] }
    if s.capture.queue.isEmpty then s'.offer .captured else s'
  else s.setCaptureLine k { l with lastQualifying := some s.time.clock, lost := true }

/-- An edge on a capture line (R135, R136): recorded, then offered to the streams armed on the line (R8). -/
def State.edge (k : Line) (rise : Bool) (s : State) : State :=
  if (s.capture.lines[k.val]).qualifies rise s.time.clock then
    (s.recordEdge k rise).triggerAll (StreamRecord.armedOn k)
  else s

/-! ## Marks -/

/-- Where a point lies in time order, running forward from the current point (R140). -/
def orderKey (current : Cycle) (p : Point) : Nat × Nat := (cyclesAhead current p.cycle, p.offset)

/-- Inserting an entry at its place in time order (R140, R141): before the first entry that the current point meets after it,
also where that point no longer meets the list in its settled order (DESIGN CHOICE, log entry 41). Of entries that one boundary
reaches, since the offset of some lies at or beyond the cycle length, the one of the earlier cycle comes first, and in one
cycle the one of the smaller offset (DESIGN CHOICE, log entry 44). -/
def insertEntry (current : Cycle) (e : MarkEntry) : List MarkEntry → List MarkEntry
  | [] => [e]
  | x :: xs =>
    let a := orderKey current e.point
    let b := orderKey current x.point
    if a.1 < b.1 ∨ (a.1 = b.1 ∧ a.2 < b.2) then e :: x :: xs else x :: insertEntry current e xs

/-- SCHEDULE_MARK (R141). A width never fails its check: its field holds no more (R187). -/
def scheduleMarkRequest (line : Byte) (cycle offset : BitVec 16) (level : Byte) (width : BitVec 16) (s : State) : Executed :=
  match lineOf line with
  | none => s.reply (badForm 1)
  | some k =>
    if 4095 < cycle.toNat then s.reply (badForm 2)
    else if s.master.cycleLength ≤ offset.toNat then s.reply (badForm 3)
    else
      match Level.ofCode level with
      | none => s.reply (badForm 4)
      | some l =>
        let m := s.marks[k.val]
        let p : Point := ⟨cycle.setWidth 12, offset.toNat⟩
        if !isAhead s.time.cycle p.cycle then s.reply late
        else if m.schedule.any (fun e => e.point == p) then s.reply (badForm 3)
        else if Config.markEntries ≤ m.schedule.length then s.reply [Status.noRoom.code]
        else
          (s.setMarkLine k { m with schedule := insertEntry s.time.cycle ⟨p, l, width.toNat⟩ m.schedule }).reply
            (done (u8 (m.schedule.length + 1)))

/-- CANCEL_MARKS (R146). -/
def cancelMarksRequest (line : Byte) (s : State) : Executed :=
  match lineOf line with
  | none => s.reply (badForm 1)
  | some k =>
    (s.setMarkLine k { s.marks[k.val] with schedule := [] }).reply (done (u8 (s.marks[k.val]).schedule.length))

/-- FORCE_MARK (R145). -/
def forceMarkRequest (line level : Byte) (s : State) : Executed :=
  match lineOf line with
  | none => s.reply (badForm 1)
  | some k =>
    match Level.ofCode level with
    | none => s.reply (badForm 2)
    | some l => (s.setMarkLine k ((s.marks[k.val]).step l)).reply (done [l.code])

/-- Mark line fields of TIME_STATUS (9.3). -/
def markStatus (m : MarkLine) : List Byte :=
  [m.resting.code, m.current.code] ++
    (match m.pulseEnd with | some p => u8 1 ++ u16 p.cycle.toNat ++ u16 p.offset | none => u8 0 ++ u16 0 ++ u16 0) ++
    u8 m.schedule.length

/-- Capture line fields of TIME_STATUS (9.3). -/
def captureStatus (l : CaptureLine) : List Byte := [l.edges.code] ++ u8 l.holdOff ++ flag8 l.lost

/-- TIME_STATUS (R147). -/
def timeStatusRequest (s : State) : Executed :=
  s.reply (done (u16 s.time.cycle.toNat ++ u16 s.time.offset ++ u16 s.master.cycleLength ++
    (allLines.flatMap fun k => markStatus s.marks[k.val]) ++
    (allLines.flatMap fun k => captureStatus s.capture.lines[k.val]) ++ u8 s.capture.queue.length))

/-- One sample: its edges are taken in ascending line number (R136); an edge to the high level is a RISE (R135). -/
def State.sample (changed level : BitVec 4) (s : State) : State :=
  allLines.foldl (fun s k => if changed.getLsbD k.val then s.edge k (level.getLsbD k.val) else s)
    (s.setCapture { s.capture with sampledAt := some s.time.clock })

/-- The lines are sampled once every microsecond (R135): a second sample with edges at one moment is the next one. -/
def State.untilSample (s : State) : Nat := if s.capture.sampledAt = some s.time.clock then 1 else 0

/-- The sample `after` microseconds later, or the one behind it when that sample has been taken (R135, log entry 15). -/
def State.sampleAfter (after : Nat) (changed level : BitVec 4) (s : State) : State :=
  let s := s.passTime after
  (s.passTime s.untilSample).sample changed level

/-- Letting time run to the head entry of a line's schedule, which fires on the way, when its point lies in the current
cycle (R142). -/
def State.runToMark (k : Line) (s : State) : State :=
  match (s.marks[k.val]).schedule with
  | [] => s
  | e :: _ =>
    if e.point.cycle = s.time.cycle ∧ s.time.offset < e.point.offset ∧ e.point.offset < s.master.cycleLength then
      s.passTime (e.point.offset - s.time.offset)
    else s

/-- Letting time run to the end of the pulse a line runs, when it lies in the current cycle (R143). -/
def State.runToPulseEnd (k : Line) (s : State) : State :=
  match (s.marks[k.val]).pulseEnd with
  | none => s
  | some p =>
    if p.cycle = s.time.cycle ∧ s.time.offset < p.offset ∧ p.offset < s.master.cycleLength then
      s.passTime (p.offset - s.time.offset)
    else s

end Sys2Proof.Machine
end

