-- ==== Sys2Proof/Machine/Reports.lean ====
section
/-! DEFINITION. The report queue's side of the transmitter and its two requests (chapter 8): the next frame (R177 to R179),
ACK_REPORTS (R180), RESEND_REPORTS (R181), both refused by R182, and what OPEN does to the queue (R184). -/

namespace Sys2Proof.Machine

/-- The place of the sent entry numbered `n`. -/
def ReportQueue.placeOf (n : Byte) (q : ReportQueue) : Option Nat := q.entries.findIdx? (·.number == some n)

/-- The number of the oldest sent entry of a run of entries. -/
def oldestSent (es : List ReportEntry) : Option Byte := (es.find? (·.sent)).bind (·.number)

/-! ## The next frame -/

/-- The body an entry takes as its first frame begins: REPORTS_LOST takes the lost count (R177). -/
def ReportEntry.bodied (lostCount : Nat) (e : ReportEntry) : Report :=
  if e.report.isLost && !e.fixed then .reportsLost (some lostCount) else e.report

/-- The entry once its first frame of the session has begun with number `n` (R175, R178). -/
def ReportEntry.begun (n : Byte) (lostCount : Nat) (e : ReportEntry) : ReportEntry :=
  ⟨e.bodied lostCount, true, some n⟩

/-- Offering the marked entry again (R179 step 2): its frame is the one sent in this session, and the mark moves on. -/
def ReportQueue.resendAt (k : Nat) (n : Byte) (q : ReportQueue) : Option (List Byte × ReportQueue) :=
  (q.entries[k]?).map fun e =>
    (reportFrame e.report n, { q with resendMark := oldestSent (q.entries.drop (k + 1)) })

/-- Offering an entry for the first time in the session (R179 step 3, R177, R178). -/
def ReportQueue.sendFirst (q : ReportQueue) : Option (List Byte × ReportQueue) :=
  if q.sentCount < Config.reportWindow then
    match q.entries.findIdx? (fun e => !e.sent) with
    | none => none
    | some k =>
      (q.entries[k]?).map fun e =>
        (reportFrame (e.bodied q.lostCount) q.nextNumber,
          { q with
            entries := q.entries.set k (e.begun q.nextNumber q.lostCount)
            nextNumber := q.nextNumber + 1
            lostCount := if e.report.isLost && !e.fixed then 0 else q.lostCount })
  else none

/-- What the queue answers when the transmitter of an open session asks for a frame (R179). -/
def ReportQueue.nextFrame (q : ReportQueue) : Option (List Byte × ReportQueue) :=
  match q.resendMark with
  | none => q.sendFirst
  | some n =>
    match q.placeOf n with
    | some k => q.resendAt k n
    | none => q.sendFirst

/-! ## ACK_REPORTS and RESEND_REPORTS -/

/-- The entries left by an acknowledgement of the entry at place `k`: every sent entry up to it is removed (R180). -/
def ReportQueue.leftAfter (k : Nat) (q : ReportQueue) : List ReportEntry :=
  (q.entries.take (k + 1)).filter (fun e => !e.sent) ++ q.entries.drop (k + 1)

/-- The resend mark after an acknowledgement: kept while its entry stands, else on the oldest sent entry left (R180). -/
def markAfter (left : List ReportEntry) (mark : Option Byte) : Option Byte :=
  if mark.any (fun n => left.any (·.number == some n)) then mark else mark.bind fun _ => oldestSent left

/-- The queue after an acknowledgement (R180), a new REPORTS_LOST queued by R176. -/
def ReportQueue.acknowledge (k : Nat) (q : ReportQueue) : ReportQueue :=
  ReportQueue.ensureLost
    { q with entries := q.leftAfter k, resendMark := markAfter (q.leftAfter k) q.resendMark }

/-- ACK_REPORTS (R180, R182). -/
def ackReportsRequest (n : Byte) (s : State) : Executed :=
  match s.reports.placeOf n with
  | none => s.reply badAck
  | some k =>
    let q := s.reports.acknowledge k
    (s.setReports q).reply (done (u8 (s.reports.entries.length - (s.reports.leftAfter k).length) ++ u8 q.entries.length))

/-- RESEND_REPORTS (R181, R182). -/
def resendReportsRequest (n : Byte) (s : State) : Executed :=
  match s.reports.placeOf n with
  | none => s.reply badAck
  | some k =>
    (s.setReports { s.reports with resendMark := some n }).reply
      (done (u8 ((s.reports.entries.drop k).filter (·.sent)).length))

/-! ## OPEN -/

/-- Step 3 of R157: every entry is unsent and unnumbered (R184). -/
def ReportQueue.forget (q : ReportQueue) : ReportQueue :=
  { q with entries := q.entries.map (fun e => { e with number := none }), nextNumber := 0, resendMark := none }

end Sys2Proof.Machine
end

