-- ==== Sys2Proof/Machine/Port.lean ====
section
/-! DEFINITION. The command port above the receiver (chapter 7): the admission tests (R155, R159), OPEN (R157), RESTART (R169),
the resets (R170, R171), the reply history (R163) and the transmitter (R165). -/

namespace Sys2Proof.Machine

/-! ## Admission (R159) -/

/-- What the admission tests of R159 decide about a checked request. -/
inductive Admission where
  | drop
  | answer (status : Status)
  | again (e : HistoryEntry)
  | enter
  deriving DecidableEq, Repr

/-- The history entry a RETRY request matches by TAG and KIND (R164). -/
def Port.stored (kind : Byte) (retry : Bool) (tag : Byte) (p : Port) : Option HistoryEntry :=
  if retry then p.history.find? (fun e => e.tag == tag && e.kind == kind) else none

/-- The admission tests, in their order (R159). -/
def Port.admission (kind : Byte) (retry : Bool) (tag : Byte) (p : Port) : Admission :=
  if p.tagInUse tag then (if retry then .drop else .answer .tagInUse)
  else
    match p.stored kind retry tag with
    | some e => .again e
    | none => if Config.windowSize ≤ p.window.length then .answer .busy else .enter

/-- A port reply with a body (R167). -/
def State.portAnswer (kind tag : Byte) (body : Body) (s : State) : State :=
  s.setPort (s.port.portReply kind tag (replyFrame kind tag body))

/-- A stored reply sent again (R164). -/
def State.sendAgain (e : HistoryEntry) (s : State) : State := s.setPort (s.port.portReply e.kind e.tag e.frame)

/-- The reply of an entered request; the reply made while the port is RESTARTING is RESTART's own (R169, R170). -/
def Port.replyFor (kind tag : Byte) (body : Body) (p : Port) : Reply :=
  if p.restarting then { replyOf kind tag body with role := .restart } else replyOf kind tag body

/-- An entered request after its block has executed it: READY with its reply, or WAITING (R160, R161). -/
def State.enterWindow (kind tag : Byte) : Executed → State
  | (s, some body) => s.setPort (s.port.enterReady (s.port.replyFor kind tag body))
  | (s, none) => s.setPort (s.port.enterWaiting kind tag)

/-- A checked request frame other than OPEN (R155 tests 1, 3 and 5, R159). -/
def request (k : ReqKind) (retry : Bool) (tag : Byte) (effect : State → Executed) (s : State) : State :=
  if s.port.restarting then s
  else if !s.port.sessionOpen then s.portAnswer k.code tag [Status.noSession.code]
  else
    match s.port.admission k.code retry tag with
    | .drop => s
    | .answer st => s.portAnswer k.code tag [st.code]
    | .again e => s.sendAgain e
    | .enter => State.enterWindow k.code tag (effect s)

/-! ## OPEN (R157) -/

/-- DONE fields of OPEN (R157, 9.3). -/
def State.openDone (s : State) : Body :=
  done ([s.port.epoch, Config.familyCode, Config.siliconRevision, s.master.unit.code, s.master.state.code] ++
    u8 s.reports.entries.length)

/-- The effects of an executed OPEN, steps 1 to 5 of R157. -/
def State.opened (s : State) : State :=
  let s := s.abandonRequests
  (s.setPort { s.port with replyQueue := [], history := [], epoch := s.port.epoch + 1, sessionOpen := true }).setReports
    s.reports.forget

/-- OPEN executed: its reply is the one reply of the queue (R157). -/
def State.executeOpen (tag : Byte) (s : State) : State :=
  let s := s.opened
  s.setPort { s.port with replyQueue := [replyOf ReqKind.openSession.code tag s.openDone] }

/-- A checked OPEN frame (R155 tests 1 and 4, R157, R188). -/
def openRequest (retry : Bool) (tag : Byte) (body : List Byte) (s : State) : State :=
  if s.port.restarting then s
  else if retry && s.port.tagInUse tag then s
  else
    match s.port.stored ReqKind.openSession.code retry tag with
    | some e => s.sendAgain e
    | none =>
      if body.isEmpty then s.executeOpen tag else s.portAnswer ReqKind.openSession.code tag (badForm 1)

/-! ## RESTART and the resets -/

/-- RESTART (R169): the port enters RESTARTING and every other request is abandoned. -/
def restartRequest (s : State) : Executed :=
  let s := s.abandonRequests
  (s.setPort { s.port with restarting := true }).reply (done [])

/-- The reset of a RESTART (R170). -/
def State.restartTaken (s : State) : State :=
  State.afterReset s.port.baud s.master.unit (s.port.epoch + 1) .restart s.time.clock s.pending

/-- RESET_N goes low (R171): the frame on HTXD is cut off, LDRV is released, MARK0 to MARK3 are LOW. -/
def State.heldInReset (s : State) : State :=
  (((s.setPort { s.port with htxd := none }).releaseLine).setMarks marksReset).setInReset true

/-- RESET_N is released with the given straps (R171, R148): `true` is high, UNIT low is unit 1. -/
def State.resetReleased (baud1 baud0 unit : Bool) (s : State) : State :=
  State.afterReset (Baud.ofStraps baud1 baud0) (if unit then .two else .one) 0 .power s.time.clock s.pending

/-! ## The transmitter (R165) -/

/-- Storing a reply in the history: it replaces the entry of its TAG, or the oldest of eight (R163). -/
def storeReply (e : HistoryEntry) (h : List HistoryEntry) : List HistoryEntry :=
  let rest := h.filter (·.tag != e.tag)
  (if rest.length < Config.historySize then rest else rest.drop 1) ++ [e]

/-- The history as a reply begins: port replies are not stored (R163). -/
def historyWith (r : Reply) (h : List HistoryEntry) : List HistoryEntry :=
  match r.role with
  | .port => h
  | .ordinary | .restart => storeReply ⟨r.tag, r.kind, r.frame⟩ h

/-- A frame begins on HTXD (R148). -/
def sendingFrom (clock : Nat) (baud : Baud) (frame : List Byte) (restartReply : Bool) : Sending :=
  ⟨frame, clock + baud.charsMicros frame.length, restartReply⟩

/-- The reply at the head of the queue begins; the place it leaves goes to a READY slot (R165 choice 1, R160, R163). -/
def Port.beginReply (clock : Nat) (r : Reply) (rest : List Reply) (p : Port) : Port :=
  Port.handOver { p with
    history := historyWith r p.history
    replyQueue := rest
    htxd := some (sendingFrom clock p.baud r.frame (r.role == .restart)) }

/-- Choosing the next frame (R165). -/
def State.chooseFrame (s : State) : State :=
  match s.port.replyQueue with
  | r :: rest => s.setPort (s.port.beginReply s.time.clock r rest)
  | [] =>
    match (if s.port.sessionOpen then s.reports.nextFrame else none) with
    | some (f, q) => (s.setReports q).setPort { s.port with htxd := some (sendingFrom s.time.clock s.port.baud f false) }
    | none => s.setPort { s.port with htxd := none }

/-- A frame on HTXD ends, at its own moment, or the transmitter is idle: the next frame is chosen (R165); at the end of the
RESTART reply the reset is taken (R170). -/
def State.transmitEnd (s : State) : State :=
  match s.port.htxd with
  | none => s.chooseFrame
  | some f => if f.restartReply then (s.waitUntil f.endsAt).restartTaken else (s.waitUntil f.endsAt).chooseFrame

/-- The reset of a RESTART, when its reply is on HTXD (R170). -/
def State.restartEnd (s : State) : State :=
  match s.port.htxd with
  | none => s
  | some f => if f.restartReply then (s.waitUntil f.endsAt).restartTaken else s

end Sys2Proof.Machine
end

