-- ==== Sys2Proof/Machine/Receiver.lean ====
section
/-! DEFINITION. The receiver of the command port (7.3): candidates, abandonment and examining again (R151 to R154), the disposal
of a checked frame (R155), and the reading of request bodies (9.3, R188). -/

namespace Sys2Proof.Machine

/-! ## Request bodies (R188) -/

/-- The index R188 refuses a body with: the first field not wholly present, or one more than the number of fields. -/
def lengthError : Nat → List Nat → Nat → Option Nat
  | index, [], len => if len = 0 then none else some index
  | index, n :: ns, len => if len < n then some index else lengthError (index + 1) ns (len - n)

/-- The body length check of a request kind; PUT's payload takes any rest of the body (R188). -/
def ReqKind.lengthError (k : ReqKind) (len : Nat) : Option Nat :=
  match k with
  | .put => if len = 0 then some 1 else none
  | k => Machine.lengthError 1 k.fields len

/-- The byte of a body at an offset. -/
def byteAt (body : List Byte) (k : Nat) : Byte := body.getD k 0
/-- The 2-byte field of a body at an offset (R187). -/
def wordAt (body : List Byte) (k : Nat) : BitVec 16 := byteAt body k ++ byteAt body (k + 1)
/-- The 4-byte field of a body at an offset (R187). -/
def longAt (body : List Byte) (k : Nat) : BitVec 32 := wordAt body k ++ wordAt body (k + 2)

/-- The fields of a DEFINE body (9.3.1). -/
def defineFieldsOf (b : List Byte) : DefineFields where
  sid := byteAt b 0
  node := byteAt b 1
  port := byteAt b 2
  direction := byteAt b 3
  kind := byteAt b 4
  limit := wordAt b 5
  period := wordAt b 7
  phase := byteAt b 9
  cadenceW := byteAt b 10
  cadenceQ := byteAt b 11
  cadenceP := byteAt b 12
  endMode := byteAt b 13
  closeEmpty := byteAt b 14
  retryBudget := byteAt b 15
  markCount := byteAt b 16
  autopause := byteAt b 17
  quota := byteAt b 18

/-- The owning block's execution of a request body of the right length (9.3). OPEN is not among the requests of the window
(R155 test 4), and its arm here is never asked for. -/
def bodyEffect (k : ReqKind) (tag : Byte) (b : List Byte) (s : State) : Executed :=
  match k with
  | .openSession => (s, none)
  | .restart => restartRequest s
  | .ackReports => ackReportsRequest (byteAt b 0) s
  | .resendReports => resendReportsRequest (byteAt b 0) s
  | .configureLink => configureLink (byteAt b 0) (wordAt b 1) (byteAt b 3) (byteAt b 4) s
  | .linkUp => linkUp tag s
  | .linkDown => linkDown s
  | .handover => handoverRequest tag s
  | .linkStatus => linkStatus s
  | .define => defineStream (defineFieldsOf b) s
  | .start => startRequest (byteAt b 0) (byteAt b 1) (wordAt b 2) (longAt b 4) s
  | .stop => stopRequest tag (byteAt b 0) s
  | .pause => pauseRequest (byteAt b 0) s
  | .unpause => unpauseRequest (byteAt b 0) s
  | .resume => resumeRequest (byteAt b 0) s
  | .resetStream => resetStreamRequest (byteAt b 0) s
  | .release => releaseRequest (byteAt b 0) s
  | .refill => refillRequest (byteAt b 0) (longAt b 1) s
  | .streamStatus => streamStatusRequest (byteAt b 0) s
  | .put => putRequest (byteAt b 0) (b.drop 1) s
  | .take => takeRequest (byteAt b 0) s
  | .flush => flushRequest (byteAt b 0) s
  | .poolStatus => poolStatus s
  | .loadQuery => loadQuery (byteAt b 0) (byteAt b 1) s
  | .setCapture => setCaptureRequest (byteAt b 0) (byteAt b 1) (byteAt b 2) s
  | .takeCaptures => takeCapturesRequest (byteAt b 0) s
  | .scheduleMark => scheduleMarkRequest (byteAt b 0) (wordAt b 1) (wordAt b 3) (byteAt b 5) (wordAt b 6) s
  | .cancelMarks => cancelMarksRequest (byteAt b 0) s
  | .forceMark => forceMarkRequest (byteAt b 0) (byteAt b 1) s
  | .timeStatus => timeStatusRequest s

/-- The execution of a request's body: the length check first (R188). -/
def requestEffect (k : ReqKind) (tag : Byte) (body : List Byte) (s : State) : Executed :=
  match k.lengthError body.length with
  | some i => s.reply (badForm i)
  | none => bodyEffect k tag body s

/-! ## Disposal of a checked frame (R155) -/

/-- Test 2 of R155: a frame with improper FLAGS or no request KIND is answered BAD_FORM 0. -/
def State.improper (kind tag : Byte) (s : State) : State :=
  if s.port.restarting then s else s.portAnswer kind tag (badForm 0)

/-- The tests of R155, in their order. -/
def disposeFrame (flags kind tag : Byte) (body : List Byte) (s : State) : State :=
  match requestRetry flags, ReqKind.ofCode kind with
  | some retry, some .openSession => openRequest retry tag body s
  | some retry, some k => request k retry tag (requestEffect k tag body) s
  | some _, none => s.improper kind tag
  | none, _ => s.improper kind tag

/-! ## Candidates (R151 to R153) -/

/-- Discarding the candidate and handing its frame over (R151). -/
def State.deliver (bytes : List Byte) (s : State) : State :=
  disposeFrame (byteAt bytes 2) (byteAt bytes 3) (byteAt bytes 4) ((bytes.drop 5).take (bytes.length - 7))
    (s.setPort { s.port with candidate := [] })

/-- Abandoning the candidate: PORT_ERROR is offered, and the bytes after its SOF are pending, before those that are pending
already (R152, R154). -/
def State.abandonCandidate (k : PortErrorKind) (s : State) : State :=
  (s.setPort { s.port with candidate := [], pendingBytes := s.port.candidate.tail ++ s.port.pendingBytes }).offer (.portError k)

/-- The candidate after a byte has joined it (R151, R152). -/
def State.judge (s : State) : State :=
  match s.port.candidate with
  | _ :: len :: _ =>
    if !lenInRange len.byte then s.abandonCandidate .length
    else if s.port.candidate.length < len.byte.toNat + 4 then s
    else if frameChecks (s.port.candidate.map (·.byte)) then s.deliver (s.port.candidate.map (·.byte))
    else s.abandonCandidate .check
  | _ => s

/-- Examining a byte (R151). -/
def State.examine (b : RxByte) (s : State) : State :=
  if s.port.candidate.isEmpty && b.byte != sof then s
  else (s.setPort { s.port with candidate := s.port.candidate ++ [b] }).judge

/-- The moment the gap of 64 character times after the candidate's last byte ends (R153). -/
def Port.gapEnd (p : Port) : Option Nat :=
  p.candidate.getLast?.map fun b => b.arrival + Baud.charsMicros Config.gapCharacters p.baud

/-- More than 64 character times have passed since the candidate's last byte (R153, log entry 19). -/
def State.gapPassed (s : State) : Bool := s.port.gapEnd.any fun t => decide (t < s.time.clock)

/-- Examining the pending bytes until none is left and the candidate, if any, may wait (R152, R153); `k` bounds the work. -/
def State.examinePending : Nat → State → State
  | 0, s => s
  | k + 1, s =>
    match s.port.pendingBytes with
    | b :: rest => State.examinePending k ((s.setPort { s.port with pendingBytes := rest }).examine b)
    | [] => if s.gapPassed then State.examinePending k (s.abandonCandidate .gap) else s

/-- Work enough for the bytes at hand: each abandonment gives up one byte for good, and between two of them each byte is
examined once (R152). -/
def Port.work (p : Port) : Nat := (p.candidate.length + p.pendingBytes.length + 1) * (p.candidate.length + p.pendingBytes.length + 2)

/-- Examining all that is pending, the bytes behind a found frame too (log entry 26). -/
def State.settleReceiver (s : State) : State := State.examinePending s.port.work s

/-- A byte arrives on HRXD, `after` microseconds later (R151); a gap that has already passed is settled first (log entry 19). -/
def State.byteArrives (after : Nat) (b : Byte) (s : State) : State :=
  let s := (s.passTime after).settleReceiver
  (s.examine ⟨b, s.time.clock⟩).settleReceiver

/-- The gap after the candidate's last byte ends (R153). -/
def State.candidateGap (s : State) : State :=
  match s.port.gapEnd with
  | none => s
  | some t => ((s.waitUntil t).abandonCandidate .gap).settleReceiver

end Sys2Proof.Machine
end

