-- ==== Sys2Proof/Machine/Link.lean ====
section
/-! DEFINITION. The link engine's exchange (chapter 4) and the plan's two openings of a cycle (R60, R61): sending the part's
frames, reading a node's reply, deciding the outcome, ending the transaction, disposing of heard frames, the stuck line. -/

namespace Sys2Proof.Machine

/-! ## Phases -/

/-- Writing the transaction record. -/
def State.setTransaction (tx : Transaction) (s : State) : State :=
  s.setEngine { s.engine with transaction := some tx }

/-- The transaction of a leading part that stands in a phase, its frame of the phase begun or not. -/
def State.atPhase (ph : Phase) (begun : Bool) (s : State) : Option Transaction :=
  if s.master.state = .leading then s.engine.transaction.filter (fun tx => tx.phase == ph && tx.begun == begun) else none

/-- A transaction in the phase waits, and acts if it still stands there after the wait: a boundary or a stuck line may have
come meanwhile. -/
def State.whenPhase (ph : Phase) (begun : Bool) (wait : State → State) (act : Transaction → State → State)
    (s : State) : State :=
  if (s.atPhase ph begun).isSome then
    let t := wait s
    match t.atPhase ph begun with
    | some tx => act tx t
    | none => t
  else s

/-- The part begins the frame of its phase once the line has been idle for 2 characters, and while it receives none (R78). -/
def State.sendAtPhase (ph : Phase) (chars : Transaction → State → List Byte)
    (note : Transaction → State → Transaction) (s : State) : State :=
  if s.engine.hearing then s
  else
    s.whenPhase ph false State.waitIdle fun tx s =>
      let tx := note tx s
      (s.beginFrame (chars tx s)).setTransaction { tx with begun := true }

/-- The frame of the phase ends (R83, R86, R90). -/
def State.sentAtPhase (ph : Phase) (act : Transaction → State → State) (s : State) : State :=
  s.whenPhase ph true (fun s => s.waitUntil s.engine.drivenUntil) act

/-- The frame of the phase has been sent whole: the phase that follows, and where its window counts from (R84). -/
def State.frameSent (tx : Transaction) (ph : Phase) (s : State) : State :=
  s.setTransaction { tx with phase := ph, begun := false, windowFrom := s.engine.drivenUntil }

/-! ## Header, data frame, TAKEN -/

/-- The header takes the cycle number as it begins (R82). -/
def Transaction.atHeader (tx : Transaction) (s : State) : Transaction := { tx with headerCycle := s.time.cycle }

/-- The header of a transaction (R82). -/
def Transaction.header (tx : Transaction) : List Byte :=
  headerFrame tx.node tx.port tx.direction tx.bitSent tx.resync tx.size

/-- HEADER_SEND (R82). -/
def State.sendHeader (s : State) : State := s.sendAtPhase .header (fun tx _ => tx.header) Transaction.atHeader

/-- The phase after the header (R83, R86). -/
def Direction.afterHeader : Direction → Phase
  | .outbound => .dataOut
  | .inbound => .replyWindow

/-- HEADER_SENT (R83, R86). -/
def State.headerSent (s : State) : State := s.sentAtPhase .header fun tx s => s.frameSent tx tx.direction.afterHeader

/-- The data frame of a transaction: its bytes are read from the head of the chain (R83). -/
def Transaction.dataOut (tx : Transaction) (s : State) : List Byte :=
  dataFrame tx.bitSent ((s.chain tx.stream).bytes.take tx.size)

/-- DATA_FRAME_SEND (R83). -/
def State.sendData (s : State) : State := s.sendAtPhase .dataOut Transaction.dataOut fun tx _ => tx

/-- DATA_FRAME_SENT (R83). -/
def State.dataSent (s : State) : State := s.sentAtPhase .dataOut fun tx s => s.frameSent tx .replyWindow

/-- A received data frame is new in a resync transaction, or when it carries the bit expected (R88). -/
def Transaction.isNew (tx : Transaction) : Bool := tx.resync || tx.carried == tx.bitSent

/-- TAKEN_SEND (R90). -/
def State.sendTaken (s : State) : State := s.sendAtPhase .answering (fun _ _ => answerFrame .taken) fun tx _ => tx

/-- TAKEN_SENT (R90): a new frame decides accepted, a repeat duplicate. -/
def State.takenSent (s : State) : State :=
  s.sentAtPhase .answering fun tx s => s.decideOutcome (if tx.isNew then .accepted else .duplicate) .closing

/-! ## The end of a transaction (R92) -/

/-- The decided outcome is handed on, and the plan goes on (R92, R57). -/
def State.endTransaction (s : State) : State :=
  match s.engine.transaction with
  | none => s
  | some tx =>
    match tx.decided with
    | none => s
    | some o => (s.applyOutcome tx o).planContinues

/-- A transaction whose outcome is decided: CLOSING or DRAIN (R99). -/
def State.closing (s : State) : Bool :=
  s.engine.transaction.any fun tx => tx.phase == .closing || tx.phase == .drain

/-- TRANSACTION_END (R92). -/
def State.transactionEnd (s : State) : State :=
  if s.closing && !s.engine.hearing then s.waitIdle.endTransaction else s

/-- Moment at which the reply window closes (R84). -/
def State.windowEnd (tx : Transaction) (s : State) : Nat := tx.windowFrom + s.chars Config.replyWindow

/-- The window has closed without a reply: SILENT, and the transaction ends, since the line is idle (R84, R92). -/
def State.silentReply (s : State) : State :=
  let s := s.decideOutcome .silent .closing
  if s.lineIdle then s.endTransaction else s

/-- Letting time pass until the reply window closes. -/
def State.waitWindow (s : State) : State :=
  match s.atPhase .replyWindow false with
  | none => s
  | some tx => s.waitUntil (s.windowEnd tx)

/-- REPLY_WINDOW_EXPIRY (R84). -/
def State.windowExpiry (s : State) : State :=
  if s.engine.hearing then s else s.whenPhase .replyWindow false State.waitWindow fun _ s => s.silentReply

/-- A window whose fourth character time has passed already is closed before anything else is heard (R98, log entries 19
and 23). -/
def State.closeWindow (s : State) : State :=
  match s.atPhase .replyWindow false with
  | none => s
  | some tx => if s.windowEnd tx < s.time.clock then s.silentReply else s

/-- A level on LRXD that forms no character holds the line for `micros` microseconds: it only returns the idle count to 0 (R77).
It is no character of a reply: a window whose fourth character time ends within it is closed SILENT at that moment (R84, log
entry 42). -/
def State.holdLevel (micros : Nat) (s : State) : State :=
  match s.atPhase .replyWindow false with
  | none => s.passBusy micros
  | some tx =>
    if s.windowEnd tx < s.time.clock + micros then
      let early := s.windowEnd tx - s.time.clock
      (s.whenPhase .replyWindow false (State.passBusy early) fun _ s => s.silentReply).passBusy (micros - early)
    else s.passBusy micros

/-! ## Reading a node's reply (R85, R87 to R91) -/

/-- The decision of a reply (R85, R87 to R91). -/
def Transaction.decide (o : Outcome) (tx : Transaction) : Transaction := { tx with decided := some o, phase := .closing }

/-- The control characters of a data frame; none when one of them has a character error, for then they are not trusted
(R89). -/
def controlOf (c1 c2 : LinkChar) : Option (Byte × Byte) :=
  match c1, c2 with
  | some c1, some c2 => some (c1, c2)
  | _, _ => none

/-- The control characters of a node's data frame have come in the reply window. In an INBOUND transaction they are read by
R87; in an OUTBOUND one the frame is of another kind, and is received to its end (R84, R85, log entry 30). -/
def Transaction.readControl (control : Option (Byte × Byte)) (tx : Transaction) : Transaction :=
  match tx.direction, control with
  | .outbound, _ | .inbound, none => { tx with received := none, phase := .receiving }
  | .inbound, some c =>
    let heard := Machine.readControl c.1 c.2
    if tx.size < heard.2 then { tx with received := some heard, phase := .drain, decided := some .overrun }
    else { tx with received := some heard, phase := .receiving }

/-- The end of a node's data frame: the characters after the control characters are `rest` (R85, R88 to R90). -/
def Transaction.readEnd (control : Option (Byte × Byte)) (rest : List LinkChar) (tx : Transaction) : Transaction :=
  match tx.direction, control, tx.received with
  | .outbound, _, _ => tx.decide .form
  | .inbound, some c, some (_, n) =>
    match readPayload c n rest with
    | some payload => { tx with payload := if tx.isNew then payload else [], phase := .answering }
    | none => tx.decide .check
  | .inbound, _, _ => tx.decide .check

/-- A data frame that ends before its control characters have come (R85, R89, log entry 22). -/
def Transaction.readCut (tx : Transaction) : Transaction :=
  match tx.direction with
  | .inbound => tx.decide .check
  | .outbound => tx.decide .form

/-- A node's frame in the reply window that is an answer or of a wrong kind (R85, R91). -/
def Transaction.readReply (chars : List LinkChar) (tx : Transaction) : Transaction :=
  match readAnswer chars, tx.direction with
  | some .taken, .outbound => tx.decide .accepted
  | some .wait, _ => tx.decide .wait
  | some .reject, _ => tx.decide .reject
  | some .taken, .inbound | none, _ => tx.decide .form

/-! ## Heard frames (R79, R80) -/

/-- The end of a frame: at its last character, or after the 2 idle characters that truncate it (R79). -/
def State.frameStops (whole : Bool) (s : State) : State := if whole then s else s.passTime (s.chars Config.idleGap)

/-- A data frame that begins without its control characters. -/
def cutData (chars : List LinkChar) : Bool := chars.head? == some (some dataType)

/-- Disposal at its end of a heard frame that is no whole data frame (R80): a well-formed beacon to the mastership unit, a
frame in the reply window to its transaction, every other frame to nobody. -/
def State.takeFrame (chars : List LinkChar) (s : State) : State :=
  match readBeacon chars with
  | some (u, c) => s.beaconHeard u c
  | none =>
    match s.atPhase .replyWindow false with
    | some tx => s.setTransaction (if cutData chars then tx.readCut else tx.readReply chars)
    | none => s

/-- The type character and the control characters of a data frame are heard in `micros` microseconds (R87). The part is deaf to a
frame that begins while it drives the line (R77), to its characters after the release of LDRV too (DESIGN CHOICE, log entry
38). -/
def State.dataBegins (micros : Nat) (control : Option (Byte × Byte)) (s : State) : State :=
  let t := s.passBusy micros
  let t := t.setEngine { t.engine with hearing := true, control := control }
  match s.ldrv, t.atPhase .replyWindow false with
  | false, some tx => t.setTransaction (tx.readControl control)
  | _, _ => t

/-- How many characters of `rest` belong to the data frame whose control characters have been heard (R79). -/
def LinkEngine.dataSpan (rest : List LinkChar) (e : LinkEngine) : Nat :=
  match e.control with
  | some c => min ((readControl c.1 c.2).2 + 2) rest.length
  | none => rest.length

/-- The data frame that is being heard has come whole: no idle ends it (R79). -/
def LinkEngine.arrivedWhole (rest : List LinkChar) (e : LinkEngine) : Bool :=
  e.control.any fun c => decide ((readControl c.1 c.2).2 + 2 ≤ rest.length)

/-- Nothing is being heard any longer. -/
def State.endHearing (s : State) : State := s.setEngine { s.engine with hearing := false, control := none }

/-- A data frame ends `micros` microseconds later: its characters after the control characters are `rest` (R89); one whose
control characters never came ends in the reply window (log entry 22). -/
def State.dataEnds (micros : Nat) (rest : List LinkChar) (s : State) : State :=
  let control := s.engine.control
  let t := (s.passBusy micros).endHearing.frameStops (s.engine.arrivedWhole rest)
  if s.engine.hearing then
    match t.atPhase .receiving false with
    | some tx => t.setTransaction (tx.readEnd control rest)
    | none => t
  else
    match t.atPhase .replyWindow false with
    | some tx => t.setTransaction tx.readCut
    | none => t

/-- A frame that is no data frame, or a data frame without its control characters, is heard to its end in `micros` microseconds
(R79, R80). The part is deaf to one that begins while it drives the line (R77), to its characters after the release of LDRV
too (DESIGN CHOICE, log entry 38). -/
def State.hearShort (micros : Nat) (chars : List LinkChar) (s : State) : State :=
  let t := (s.passBusy micros).frameStops (frameWhole chars)
  if s.ldrv then t else t.takeFrame chars

/-- A frame whose first character has come is heard to its end (R79, R80, R98); levels among its characters form none of them
(R77). -/
def State.hearChars (times : List LinkTime) (s : State) : State :=
  match heardChars times with
  | t :: c1 :: c2 :: rest =>
    if t = some dataType then
      let begun := charSpan 3 times
      (s.dataBegins (s.chars begun) (controlOf c1 c2)).dataEnds (s.chars (times.length - begun)) rest
    else s.hearShort (s.chars times.length) (t :: c1 :: c2 :: rest)
  | chars => s.hearShort (s.chars times.length) chars

/-- The active character times of one frame, or of levels that belong to none (R77, R79). -/
def State.hearFrame (s : State) (times : List LinkTime) : State :=
  if times.head? = some none then s.holdLevel (s.chars times.length) else s.closeWindow.hearChars times

/-- Active character times without a pause, frame by frame (R79). -/
def State.hearAll (times : List LinkTime) (s : State) : State := (framesOf times).foldl State.hearFrame s

/-- The line is active from `after` microseconds later on; while a data frame is being heard already, the characters belong to
it, and its end brings them (log entries 10 and 12). -/
def State.frameHeard (after : Nat) (times : List LinkTime) (s : State) : State :=
  if s.engine.hearing then s else (s.passTime after).hearAll times

/-- DATA_LENGTH_READ (R87): a data frame begins `after` microseconds later, and is still being heard after its control
characters. -/
def State.lengthRead (after : Nat) (control : Option (Byte × Byte)) (s : State) : State :=
  if s.engine.hearing then s else (s.passTime after).closeWindow.dataBegins (s.chars 3) control

/-- INBOUND_DATA_FRAME_END (R89): the data frame that is being heard ends `after` microseconds later; the characters beyond
its length make up further frames (R79). -/
def State.dataFrameEnd (after : Nat) (rest : List LinkChar) (s : State) : State :=
  let span := s.engine.dataSpan rest
  (s.closeWindow.dataEnds after (rest.take span)).hearAll ((rest.drop span).map some)

/-! ## Openings of a cycle (R60, R61) -/

/-- The plan waits in OPENING of a leading part, with its record. -/
def State.opening (s : State) : Option CycleRecord :=
  if s.master.state = .leading ∧ s.plan.stage = .opening then s.plan.record else none

/-- The beacon of the cycle whose record waits for it goes out (R60, R102, R113), or the armed handover takes its place
(R119). -/
def State.openCycle (s : State) : State :=
  match s.opening with
  | none => s
  | some c =>
    if s.master.armed then s.handoverEffect
    else
      let at0 := s.position
      let t := s.mapRecord fun c => { c with beaconStart := some at0 }
      let t := if Config.beaconCost < at0 then t.noteLate 0 else t
      t.beginFrame (beaconFrame s.master.unit c.cycle)

/-- BEACON_GRANT (R60, R119): the grant waits for the line to be idle for 2 characters, and a boundary on the way makes it
the grant of the cycle that begins. -/
def State.beaconGrant (s : State) : State :=
  match s.opening with
  | none => s
  | some c =>
    if s.engine.transaction.isSome || s.engine.hearing || c.beaconStart.isSome then s else s.waitIdle.openCycle

/-- The beacon of the cycle has begun, and its cyclic phase has not (R61). -/
def State.beaconOut (s : State) : Bool := s.opening.any fun c => c.beaconStart.isSome

/-- CYCLIC_PHASE_START (R61): 8 characters after the beacon start, if the cycle has not ended by then. -/
def State.cyclicPhaseStart (s : State) : State :=
  if s.beaconOut then
    let s := s.waitUntil (s.engine.drivenUntil + s.chars Config.idleGap)
    if s.beaconOut then s.enterCyclic else s
  else s

/-! ## The stuck line (R103, R122) -/

/-- A level on LRXD holds the line until the busy count would reach 600. -/
def State.holdLine (s : State) : State :=
  if s.master.state.supervised then s.holdLevel (s.chars Config.stuckCharacters - s.engine.busy) else s

/-- STUCK_LINE: a level on LRXD holds the line until the busy count reaches 600, and the part faults (R122). The count restarts
once when the part comes to lead at a boundary on the way (R103), and the line is held on. -/
def State.stuckLine (s : State) : State := s.holdLine.holdLine

end Sys2Proof.Machine
end

