-- ==== Sys2Proof/Machine/Requests.lean ====
section
/-! DEFINITION. The meanings of the 30 requests: a checked frame of the request's kind is disposed of by the tests of R155 and
R159, and executed by its owning block when it enters the window (log entry 1). While RESET_N is low nothing is received
(R171, log entry 16). -/

namespace Sys2Proof.Machine

/-- A command takes effect while the part is not held in reset (R171, log entry 16). -/
def whenRunning (f : State → State) (s : State) : Result := .next (if s.inReset then s else f s)

/-- OPEN (R157). -/
def execOpenSession (retry : Bool) (tag : Byte) (body : List Byte) (s : State) : Result :=
  whenRunning (openRequest retry tag body) s

/-- RESTART (R169). -/
def execRestart (retry : Bool) (tag : Byte) (s : State) : Result :=
  whenRunning (request .restart retry tag restartRequest) s

/-- ACK_REPORTS (R180). -/
def execAckReports (retry : Bool) (tag : Byte) (n : Byte) (s : State) : Result :=
  whenRunning (request .ackReports retry tag (ackReportsRequest n)) s

/-- RESEND_REPORTS (R181). -/
def execResendReports (retry : Bool) (tag : Byte) (n : Byte) (s : State) : Result :=
  whenRunning (request .resendReports retry tag (resendReportsRequest n)) s

/-- CONFIGURE_LINK (R107, R108). -/
def execConfigureLink (retry : Bool) (tag : Byte) (rate : Byte) (cycleLength : BitVec 16) (share timeout : Byte) (s : State) : Result :=
  whenRunning (request .configureLink retry tag (Machine.configureLink rate cycleLength share timeout)) s

/-- LINK_UP (R109). -/
def execLinkUp (retry : Bool) (tag : Byte) (s : State) : Result :=
  whenRunning (request .linkUp retry tag (Machine.linkUp tag)) s

/-- LINK_DOWN (R121). -/
def execLinkDown (retry : Bool) (tag : Byte) (s : State) : Result :=
  whenRunning (request .linkDown retry tag Machine.linkDown) s

/-- HANDOVER (R118). -/
def execHandover (retry : Bool) (tag : Byte) (s : State) : Result :=
  whenRunning (request .handover retry tag (handoverRequest tag)) s

/-- LINK_STATUS (R126). -/
def execLinkStatus (retry : Bool) (tag : Byte) (s : State) : Result :=
  whenRunning (request .linkStatus retry tag Machine.linkStatus) s

/-- DEFINE (R4). -/
def execDefine (retry : Bool) (tag : Byte) (fields : DefineFields) (s : State) : Result :=
  whenRunning (request .define retry tag (defineStream fields)) s

/-- START (R6). -/
def execStart (retry : Bool) (tag : Byte) (sid triggerKind : Byte) (triggerValue : BitVec 16) (total : BitVec 32) (s : State) : Result :=
  whenRunning (request .start retry tag (startRequest sid triggerKind triggerValue total)) s

/-- STOP (R11). -/
def execStop (retry : Bool) (tag : Byte) (sid : Byte) (s : State) : Result :=
  whenRunning (request .stop retry tag (stopRequest tag sid)) s

/-- PAUSE (R9). -/
def execPause (retry : Bool) (tag : Byte) (sid : Byte) (s : State) : Result :=
  whenRunning (request .pause retry tag (pauseRequest sid)) s

/-- UNPAUSE (R10). -/
def execUnpause (retry : Bool) (tag : Byte) (sid : Byte) (s : State) : Result :=
  whenRunning (request .unpause retry tag (unpauseRequest sid)) s

/-- RESUME (R15). -/
def execResume (retry : Bool) (tag : Byte) (sid : Byte) (s : State) : Result :=
  whenRunning (request .resume retry tag (resumeRequest sid)) s

/-- RESET_STREAM (R16). -/
def execResetStream (retry : Bool) (tag : Byte) (sid : Byte) (s : State) : Result :=
  whenRunning (request .resetStream retry tag (resetStreamRequest sid)) s

/-- RELEASE (R17). -/
def execRelease (retry : Bool) (tag : Byte) (sid : Byte) (s : State) : Result :=
  whenRunning (request .release retry tag (releaseRequest sid)) s

/-- REFILL (R18). -/
def execRefill (retry : Bool) (tag : Byte) (sid : Byte) (n : BitVec 32) (s : State) : Result :=
  whenRunning (request .refill retry tag (refillRequest sid n)) s

/-- STREAM_STATUS (R19). -/
def execStreamStatus (retry : Bool) (tag : Byte) (sid : Byte) (s : State) : Result :=
  whenRunning (request .streamStatus retry tag (streamStatusRequest sid)) s

/-- PUT (R36). -/
def execPut (retry : Bool) (tag : Byte) (sid : Byte) (payload : List Byte) (s : State) : Result :=
  whenRunning (request .put retry tag (putRequest sid payload)) s

/-- TAKE (R49). -/
def execTake (retry : Bool) (tag : Byte) (sid : Byte) (s : State) : Result :=
  whenRunning (request .take retry tag (takeRequest sid)) s

/-- FLUSH (R51). -/
def execFlush (retry : Bool) (tag : Byte) (sid : Byte) (s : State) : Result :=
  whenRunning (request .flush retry tag (flushRequest sid)) s

/-- POOL_STATUS (R52). -/
def execPoolStatus (retry : Bool) (tag : Byte) (s : State) : Result :=
  whenRunning (request .poolStatus retry tag Machine.poolStatus) s

/-- LOAD_QUERY (R73). -/
def execLoadQuery (retry : Bool) (tag : Byte) (first count : Byte) (s : State) : Result :=
  whenRunning (request .loadQuery retry tag (Machine.loadQuery first count)) s

/-- SET_CAPTURE (R134). -/
def execSetCapture (retry : Bool) (tag : Byte) (line edges holdOff : Byte) (s : State) : Result :=
  whenRunning (request .setCapture retry tag (setCaptureRequest line edges holdOff)) s

/-- TAKE_CAPTURES (R138). -/
def execTakeCaptures (retry : Bool) (tag : Byte) (count : Byte) (s : State) : Result :=
  whenRunning (request .takeCaptures retry tag (takeCapturesRequest count)) s

/-- SCHEDULE_MARK (R141). -/
def execScheduleMark (retry : Bool) (tag : Byte) (line : Byte) (cycle offset : BitVec 16) (level : Byte) (width : BitVec 16) (s : State) : Result :=
  whenRunning (request .scheduleMark retry tag (scheduleMarkRequest line cycle offset level width)) s

/-- CANCEL_MARKS (R146). -/
def execCancelMarks (retry : Bool) (tag : Byte) (line : Byte) (s : State) : Result :=
  whenRunning (request .cancelMarks retry tag (cancelMarksRequest line)) s

/-- FORCE_MARK (R145). -/
def execForceMark (retry : Bool) (tag : Byte) (line level : Byte) (s : State) : Result :=
  whenRunning (request .forceMark retry tag (forceMarkRequest line level)) s

/-- TIME_STATUS (R147). -/
def execTimeStatus (retry : Bool) (tag : Byte) (s : State) : Result :=
  whenRunning (request .timeStatus retry tag timeStatusRequest) s

end Sys2Proof.Machine
end

