-- ==== Sys2Proof/Machine/Events.lean ====
section
/-! DEFINITION. The meanings of the events: resets, the command port's receiver and transmitter, time, captures and marks, the
cycle plan, the link engine, the line. An event whose condition does not hold has no effect (log entry 11). -/

namespace Sys2Proof.Machine

/-- RESET_N_RELEASE (R171): the straps are sampled and every block takes its hard reset values. -/
def execResetNRelease (baud1 baud0 unit : Bool) (s : State) : Result := .next (s.resetReleased baud1 baud0 unit)

/-- HARD_RESET (R171): while RESET_N is low already, nothing more happens. -/
def execHardReset (s : State) : Result := whenRunning State.heldInReset s

/-- COMMAND_BYTE_RECEIVED (R151). -/
def execCommandByteReceived (after : Nat) (b : Byte) (s : State) : Result := whenRunning (State.byteArrives after b) s

/-- CANDIDATE_GAP (R153). -/
def execCandidateGap (s : State) : Result := whenRunning State.candidateGap s

/-- TRANSMIT_FRAME_END (R165). -/
def execTransmitFrameEnd (s : State) : Result := whenRunning State.transmitEnd s

/-- RESTART_RESET (R170). -/
def execRestartReset (s : State) : Result := whenRunning State.restartEnd s

/-- CYCLE_BOUNDARY (R128): time passes to the next boundary, which is taken as it comes. -/
def execCycleBoundary (s : State) : Result := whenRunning State.toBoundary s

/-- LISTEN_END (R110). -/
def execListenEnd (s : State) : Result := whenRunning (fun s => if s.listenEnds then s.toBoundary else s) s

/-- TAKEOVER (R117). -/
def execTakeover (s : State) : Result := whenRunning (fun s => if s.takeoverComes then s.toBoundary else s) s

/-- MARK_FIRES (R142). -/
def execMarkFires (line : Line) (s : State) : Result := whenRunning (State.runToMark line) s

/-- PULSE_END (R143). -/
def execPulseEnd (line : Line) (s : State) : Result := whenRunning (State.runToPulseEnd line) s

/-- CAPTURE_EDGE (R136). -/
def execCaptureEdge (after : Nat) (changed level : BitVec 4) (s : State) : Result :=
  whenRunning (State.sampleAfter after changed level) s

/-- BEACON_GRANT (R60). -/
def execBeaconGrant (s : State) : Result := whenRunning State.beaconGrant s

/-- CYCLIC_PHASE_START (R61). -/
def execCyclicPhaseStart (s : State) : Result := whenRunning State.cyclicPhaseStart s

/-- HEADER_SEND (R82). -/
def execHeaderSend (s : State) : Result := whenRunning State.sendHeader s

/-- HEADER_SENT (R86). -/
def execHeaderSent (s : State) : Result := whenRunning State.headerSent s

/-- DATA_FRAME_SEND (R83). -/
def execDataFrameSend (s : State) : Result := whenRunning State.sendData s

/-- DATA_FRAME_SENT (R83). -/
def execDataFrameSent (s : State) : Result := whenRunning State.dataSent s

/-- REPLY_WINDOW_EXPIRY (R84). -/
def execReplyWindowExpiry (s : State) : Result := whenRunning State.windowExpiry s

/-- NODE_ANSWER_RECEIVED (R85). -/
def execNodeAnswerReceived (after : Nat) (chars : List (Option Byte)) (errs : List Nat) (s : State) : Result :=
  whenRunning (State.frameHeard after (linkTimes chars errs)) s

/-- DATA_LENGTH_READ (R87). -/
def execDataLengthRead (after : Nat) (c1 c2 : Byte) (err : Bool) (s : State) : Result :=
  whenRunning (State.lengthRead after (if err then none else some (c1, c2))) s

/-- INBOUND_DATA_FRAME_END (R89). -/
def execInboundDataFrameEnd (after : Nat) (rest : List Byte) (errs : List Nat) (s : State) : Result :=
  whenRunning (State.dataFrameEnd after (linkChars rest errs)) s

/-- TAKEN_SEND (R90). -/
def execTakenSend (s : State) : Result := whenRunning State.sendTaken s

/-- TAKEN_SENT (R90). -/
def execTakenSent (s : State) : Result := whenRunning State.takenSent s

/-- TRANSACTION_END (R92). -/
def execTransactionEnd (s : State) : Result := whenRunning State.transactionEnd s

/-- BEACON_RECEIVED (R80). -/
def execBeaconReceived (after : Nat) (chars : List (Option Byte)) (errs : List Nat) (s : State) : Result :=
  whenRunning (State.frameHeard after (linkTimes chars errs)) s

/-- IGNORED_FRAME (R98). -/
def execIgnoredFrame (after : Nat) (chars : List (Option Byte)) (errs : List Nat) (s : State) : Result :=
  whenRunning (State.frameHeard after (linkTimes chars errs)) s

/-- STUCK_LINE (R122). -/
def execStuckLine (s : State) : Result := whenRunning State.stuckLine s

end Sys2Proof.Machine
end

