-- ==== Sys2Proof/Machine/Dispatch.lean ====
section
/-! DEFINITION. The effect of every command on everything but the queue. -/

namespace Sys2Proof.Machine

def exec (i : Instr) (s : State) : Host.Outcome State Fault Refusal :=
  match i with
  | .hardReset => Sys2Proof.Machine.execHardReset s
  | .resetNRelease baud1 baud0 unit => Sys2Proof.Machine.execResetNRelease baud1 baud0 unit s
  | .commandByteReceived after b => Sys2Proof.Machine.execCommandByteReceived after b s
  | .candidateGap => Sys2Proof.Machine.execCandidateGap s
  | .openSession retry tag body => Sys2Proof.Machine.execOpenSession retry tag body s
  | .restart retry tag => Sys2Proof.Machine.execRestart retry tag s
  | .ackReports retry tag n => Sys2Proof.Machine.execAckReports retry tag n s
  | .resendReports retry tag n => Sys2Proof.Machine.execResendReports retry tag n s
  | .configureLink retry tag rate cycleLength share timeout => Sys2Proof.Machine.execConfigureLink retry tag rate cycleLength share timeout s
  | .linkUp retry tag => Sys2Proof.Machine.execLinkUp retry tag s
  | .linkDown retry tag => Sys2Proof.Machine.execLinkDown retry tag s
  | .handover retry tag => Sys2Proof.Machine.execHandover retry tag s
  | .linkStatus retry tag => Sys2Proof.Machine.execLinkStatus retry tag s
  | .define retry tag fields => Sys2Proof.Machine.execDefine retry tag fields s
  | .start retry tag sid triggerKind triggerValue total => Sys2Proof.Machine.execStart retry tag sid triggerKind triggerValue total s
  | .stop retry tag sid => Sys2Proof.Machine.execStop retry tag sid s
  | .pause retry tag sid => Sys2Proof.Machine.execPause retry tag sid s
  | .unpause retry tag sid => Sys2Proof.Machine.execUnpause retry tag sid s
  | .resume retry tag sid => Sys2Proof.Machine.execResume retry tag sid s
  | .resetStream retry tag sid => Sys2Proof.Machine.execResetStream retry tag sid s
  | .release retry tag sid => Sys2Proof.Machine.execRelease retry tag sid s
  | .refill retry tag sid n => Sys2Proof.Machine.execRefill retry tag sid n s
  | .streamStatus retry tag sid => Sys2Proof.Machine.execStreamStatus retry tag sid s
  | .put retry tag sid payload => Sys2Proof.Machine.execPut retry tag sid payload s
  | .take retry tag sid => Sys2Proof.Machine.execTake retry tag sid s
  | .flush retry tag sid => Sys2Proof.Machine.execFlush retry tag sid s
  | .poolStatus retry tag => Sys2Proof.Machine.execPoolStatus retry tag s
  | .loadQuery retry tag first count => Sys2Proof.Machine.execLoadQuery retry tag first count s
  | .setCapture retry tag line edges holdOff => Sys2Proof.Machine.execSetCapture retry tag line edges holdOff s
  | .takeCaptures retry tag count => Sys2Proof.Machine.execTakeCaptures retry tag count s
  | .scheduleMark retry tag line cycle offset level width => Sys2Proof.Machine.execScheduleMark retry tag line cycle offset level width s
  | .cancelMarks retry tag line => Sys2Proof.Machine.execCancelMarks retry tag line s
  | .forceMark retry tag line level => Sys2Proof.Machine.execForceMark retry tag line level s
  | .timeStatus retry tag => Sys2Proof.Machine.execTimeStatus retry tag s
  | .transmitFrameEnd => Sys2Proof.Machine.execTransmitFrameEnd s
  | .restartReset => Sys2Proof.Machine.execRestartReset s
  | .cycleBoundary => Sys2Proof.Machine.execCycleBoundary s
  | .listenEnd => Sys2Proof.Machine.execListenEnd s
  | .takeover => Sys2Proof.Machine.execTakeover s
  | .markFires line => Sys2Proof.Machine.execMarkFires line s
  | .pulseEnd line => Sys2Proof.Machine.execPulseEnd line s
  | .captureEdge after changed level => Sys2Proof.Machine.execCaptureEdge after changed level s
  | .beaconGrant => Sys2Proof.Machine.execBeaconGrant s
  | .cyclicPhaseStart => Sys2Proof.Machine.execCyclicPhaseStart s
  | .headerSend => Sys2Proof.Machine.execHeaderSend s
  | .headerSent => Sys2Proof.Machine.execHeaderSent s
  | .dataFrameSend => Sys2Proof.Machine.execDataFrameSend s
  | .dataFrameSent => Sys2Proof.Machine.execDataFrameSent s
  | .replyWindowExpiry => Sys2Proof.Machine.execReplyWindowExpiry s
  | .nodeAnswerReceived after chars errs => Sys2Proof.Machine.execNodeAnswerReceived after chars errs s
  | .dataLengthRead after c1 c2 err => Sys2Proof.Machine.execDataLengthRead after c1 c2 err s
  | .inboundDataFrameEnd after rest errs => Sys2Proof.Machine.execInboundDataFrameEnd after rest errs s
  | .takenSend => Sys2Proof.Machine.execTakenSend s
  | .takenSent => Sys2Proof.Machine.execTakenSent s
  | .transactionEnd => Sys2Proof.Machine.execTransactionEnd s
  | .beaconReceived after chars errs => Sys2Proof.Machine.execBeaconReceived after chars errs s
  | .ignoredFrame after chars errs => Sys2Proof.Machine.execIgnoredFrame after chars errs s
  | .stuckLine => Sys2Proof.Machine.execStuckLine s

end Sys2Proof.Machine
end

