-- ==== Sys2Proof/Machine/Due.lean ====
section
/-! DEFINITION. The time-driven event that is due, for the steps the block takes on an empty queue (log entry 3). -/

namespace Sys2Proof.Machine

/-- The transmitter has a frame to begin (R165). -/
def State.hasFrame (s : State) : Bool :=
  !s.port.replyQueue.isEmpty || (s.port.sessionOpen && s.reports.nextFrame.isSome)

/-- The command port's due event: the end of a frame on HTXD, a frame to begin, the gap of a candidate. -/
def State.duePort (s : State) : Option Instr :=
  match s.port.htxd with
  | some f => if f.endsAt ≤ s.time.clock then some (if f.restartReply then .restartReset else .transmitFrameEnd) else none
  | none => if s.hasFrame then some .transmitFrameEnd else none

/-- The gap of R153 is due. -/
def State.dueGap (s : State) : Option Instr :=
  if s.port.gapEnd.any fun t => decide (t ≤ s.time.clock) then some .candidateGap else none

/-- The transaction's due event. -/
def State.dueTransaction (s : State) : Option Instr :=
  if s.master.state ≠ .leading then none
  else
    match s.engine.transaction with
    | none => none
    | some tx =>
      if tx.begun then
        if s.ldrv then none
        else
          match tx.phase with
          | .header => some .headerSent
          | .dataOut => some .dataFrameSent
          | .answering => some .takenSent
          | .replyWindow | .receiving | .drain | .closing => none
      else
        match tx.phase with
        | .header => if s.lineIdle then some .headerSend else none
        | .dataOut => if s.lineIdle then some .dataFrameSend else none
        | .answering => if s.lineIdle then some .takenSend else none
        | .closing | .drain => if s.lineIdle then some .transactionEnd else none
        | .replyWindow =>
          if s.windowEnd tx ≤ s.time.clock ∧ s.engine.hearing = false then some .replyWindowExpiry else none
        | .receiving => none

/-- The plan's due event in OPENING (R60, R61). -/
def State.dueOpening (s : State) : Option Instr :=
  match s.opening with
  | none => none
  | some c =>
    match c.beaconStart with
    | none => if s.engine.transaction.isNone && s.lineIdle then some .beaconGrant else none
    | some _ => if s.engine.drivenUntil + s.chars Config.idleGap ≤ s.time.clock then some .cyclicPhaseStart else none

/-- The time-driven row that is due first in this order: the command port, the transaction, the opening of a cycle. The cycle
boundary and the stuck line come with the passing of time itself (log entries 3 and 4). -/
def State.dueCommand (s : State) : Option Instr := ((s.duePort.or s.dueGap).or s.dueTransaction).or s.dueOpening

end Sys2Proof.Machine
end

