-- ==== Sys2Proof/Machine/Step.lean ====
section
/-! DEFINITION. One step of the block: the command at the front of its queue; on an empty queue a time-driven event that is
due, else one microsecond of the reference clock (log entry 3). -/

namespace Sys2Proof.Machine

/-- One microsecond passes, with the cycle boundary or the stuck line that falls at its end; nothing while RESET_N is low. -/
def State.tick (s : State) : State := if s.inReset then s else s.passTime 1

/-- The step on an empty queue. -/
def stepIdle (s : State) : Host.Outcome State Fault Refusal :=
  match (if s.inReset then none else s.dueCommand) with
  | some c => exec c s
  | none => .next s.tick

/-- One step. -/
def step (s : State) : Host.Outcome State Fault Refusal :=
  match s.pending with
  | c :: rest => exec c (s.setPending rest)
  | [] => stepIdle s

/-- The command a word spells put at the front of the queue; the table spells none. -/
def State.withFetchWord (s : State) (nbits w : Nat) : State :=
  match decodeTableWord nbits w with
  | some c => s.setPending (c :: s.pending)
  | none => s

end Sys2Proof.Machine
end

