-- ==== Sys2Proof/Machine/Encode.lean ====
section
/-! DEFINITION. The request frame that each request command stands for: its kind, RETRY, TAG and body, field by field as the
catalogue of 9.3 lays them out (R187). -/

namespace Sys2Proof.Machine

/-- A request frame before its FLAGS, KIND and CHECK are encoded. -/
structure RequestFrame where
  kind : ReqKind
  retry : Bool
  tag : Byte
  body : List Byte
  deriving DecidableEq, Repr

/-- A 2-byte field, most significant byte first (R187). -/
def bytes2 (w : BitVec 16) : List Byte := [w.extractLsb' 8 8, w.extractLsb' 0 8]

/-- A 4-byte field, most significant byte first (R187). -/
def bytes4 (w : BitVec 32) : List Byte :=
  [w.extractLsb' 24 8, w.extractLsb' 16 8, w.extractLsb' 8 8, w.extractLsb' 0 8]

/-- The body of DEFINE (9.3.1). -/
def defineBody (f : DefineFields) : List Byte :=
  [f.sid, f.node, f.port, f.direction, f.kind] ++ bytes2 f.limit ++ bytes2 f.period ++
    [f.phase, f.cadenceW, f.cadenceQ, f.cadenceP, f.endMode, f.closeEmpty, f.retryBudget, f.markCount, f.autopause, f.quota]

/-- The request frame of a command; none for a command that is no request. -/
def requestOf : Instr → Option RequestFrame
  | .openSession retry tag body => some ⟨.openSession, retry, tag, body⟩
  | .restart retry tag => some ⟨.restart, retry, tag, []⟩
  | .ackReports retry tag n => some ⟨.ackReports, retry, tag, [n]⟩
  | .resendReports retry tag n => some ⟨.resendReports, retry, tag, [n]⟩
  | .configureLink retry tag rate cycleLength share timeout => some ⟨.configureLink, retry, tag, [rate] ++ bytes2 cycleLength ++ [share, timeout]⟩
  | .linkUp retry tag => some ⟨.linkUp, retry, tag, []⟩
  | .linkDown retry tag => some ⟨.linkDown, retry, tag, []⟩
  | .handover retry tag => some ⟨.handover, retry, tag, []⟩
  | .linkStatus retry tag => some ⟨.linkStatus, retry, tag, []⟩
  | .define retry tag fields => some ⟨.define, retry, tag, defineBody fields⟩
  | .start retry tag sid triggerKind triggerValue total => some ⟨.start, retry, tag, [sid, triggerKind] ++ bytes2 triggerValue ++ bytes4 total⟩
  | .stop retry tag sid => some ⟨.stop, retry, tag, [sid]⟩
  | .pause retry tag sid => some ⟨.pause, retry, tag, [sid]⟩
  | .unpause retry tag sid => some ⟨.unpause, retry, tag, [sid]⟩
  | .resume retry tag sid => some ⟨.resume, retry, tag, [sid]⟩
  | .resetStream retry tag sid => some ⟨.resetStream, retry, tag, [sid]⟩
  | .release retry tag sid => some ⟨.release, retry, tag, [sid]⟩
  | .refill retry tag sid n => some ⟨.refill, retry, tag, sid :: bytes4 n⟩
  | .streamStatus retry tag sid => some ⟨.streamStatus, retry, tag, [sid]⟩
  | .put retry tag sid payload => some ⟨.put, retry, tag, sid :: payload⟩
  | .take retry tag sid => some ⟨.take, retry, tag, [sid]⟩
  | .flush retry tag sid => some ⟨.flush, retry, tag, [sid]⟩
  | .poolStatus retry tag => some ⟨.poolStatus, retry, tag, []⟩
  | .loadQuery retry tag first count => some ⟨.loadQuery, retry, tag, [first, count]⟩
  | .setCapture retry tag line edges holdOff => some ⟨.setCapture, retry, tag, [line, edges, holdOff]⟩
  | .takeCaptures retry tag count => some ⟨.takeCaptures, retry, tag, [count]⟩
  | .scheduleMark retry tag line cycle offset level width => some ⟨.scheduleMark, retry, tag, [line] ++ bytes2 cycle ++ bytes2 offset ++ [level] ++ bytes2 width⟩
  | .cancelMarks retry tag line => some ⟨.cancelMarks, retry, tag, [line]⟩
  | .forceMark retry tag line level => some ⟨.forceMark, retry, tag, [line, level]⟩
  | .timeStatus retry tag => some ⟨.timeStatus, retry, tag, []⟩
  | .hardReset | .resetNRelease _ _ _ | .commandByteReceived _ _ | .candidateGap | .transmitFrameEnd
  | .restartReset | .cycleBoundary | .listenEnd | .takeover | .markFires _ | .pulseEnd _ | .captureEdge _ _ _
  | .beaconGrant | .cyclicPhaseStart | .headerSend | .headerSent | .dataFrameSend | .dataFrameSent
  | .replyWindowExpiry | .nodeAnswerReceived _ _ _ | .dataLengthRead _ _ _ _ | .inboundDataFrameEnd _ _ _
  | .takenSend | .takenSent | .transactionEnd | .beaconReceived _ _ _ | .ignoredFrame _ _ _ | .stuckLine => none

end Sys2Proof.Machine
end

