-- ==== Sys2Proof/Safety.lean ====
section
/-! DEFINITION. What holds in every state the part can stand in, in the terms of the rules: the laws of time, of the port, of
the report queue, of the link engine and the plan, of segment memory and of the load map; and what it means that a request
enters the window. -/

namespace Sys2Proof.Safety

open Sys2Proof.Machine

/-! ## Requests -/

/-- The part runs, a session is open, and the request passes the admission tests of R155 and R159. -/
abbrev Entered (k : ReqKind) (retry : Bool) (tag : Byte) (s : State) : Prop :=
  s.inReset = false ∧ s.port.restarting = false ∧ s.port.sessionOpen = true ∧
    s.port.admission k.code retry tag = .enter

/-- The state after the reply of an entered request became READY and was handed over when there is room (R160). -/
abbrev replied (k : ReqKind) (tag : Byte) (body : Body) (s : State) : State :=
  s.setPort (s.port.enterReady (replyOf k.code tag body))

/-- The state in which an entered request waits for its deferred reply (R161). -/
abbrev waiting (k : ReqKind) (tag : Byte) (s : State) : State := s.setPort (s.port.enterWaiting k.code tag)

/-- The state after a port reply was offered to the reply queue, which drops it when it holds 8 replies (R167). -/
def portReplied (kind tag : Byte) (frame : List Byte) (s : State) : State :=
  if s.port.replyQueue.length < 8 then
    { s with port := { s.port with replyQueue := s.port.replyQueue ++ [⟨tag, kind, frame, .port⟩] } }
  else s

/-! ## Resets (R170, R171) -/

/-- The values of every block after a reset, as R170, R171 and the rules they name give them. -/
def resetValues (baud : Baud) (unit : UnitId) (epoch : Byte) (cause : HelloCause) (clock : Nat)
    (pending : List Instr) : State where
  port := {
    baud := baud, restarting := false, sessionOpen := false, epoch := epoch, candidate := [], pendingBytes := []
    window := [], history := [], replyQueue := [], htxd := none }
  reports := {
    entries := [{ report := .hello cause, fixed := false, number := none }]
    nextNumber := 0, lostCount := 0, resendMark := none }
  streams := Vector.replicate 16 none
  memory := {
    free := 256, reservation := none
    chains := Vector.replicate 16 { bytes := [], headOffset := 0, heldSize := none, records := [] } }
  plan := { loadMap := Vector.replicate 256 0, pointer := 15, stage := .standby, record := none }
  engine := { transaction := none, drivenUntil := 0, ltxd := [], quiet := 0, busy := 0, hearing := false, control := none }
  master := {
    state := .offline, lastCause := none, unit := unit, rate := .r10, cycleLength := 1000, share := 80, timeout := 4
    lastPartner := none, listenCount := none, silenceCount := 0, silenceLimit := 4, listenRequest := none
    handovers := [], armed := false }
  time := { cycle := 0, offset := 0, clock := clock }
  capture := {
    lines := Vector.replicate 4 { edges := .off, holdOff := 0, lastQualifying := none, lost := false }
    queue := [], sampledAt := none }
  marks := Vector.replicate 4 { resting := .low, current := .low, pulseEnd := none, schedule := [] }
  inReset := false
  pending := pending

/-! ## DEFINE (R3) -/

/-- The seventeen fields of a DEFINE are accepted, field by field (R3). -/
abbrev DefineAccepted (f : DefineFields) : Prop :=
  f.sid.toNat ≤ 15 ∧ 1 ≤ f.node.toNat ∧ f.node.toNat ≤ 30 ∧ f.port.toNat ≤ 15 ∧
  (f.direction = 1 ∨ f.direction = 2) ∧ (f.kind = 1 ∨ f.kind = 2) ∧ 1 ≤ f.limit.toNat ∧ f.limit.toNat ≤ 256 ∧
  (f.kind = 1 → f.period.toNat ∈ periods ∧ f.phase.toNat < f.period.toNat) ∧
  (f.cadenceW ≠ 0 → f.cadenceW.toNat + 1 ≤ f.limit.toNat ∧ 2 ≤ f.cadenceQ.toNat ∧ f.cadenceQ.toNat ≤ 64 ∧
    1 ≤ f.cadenceP.toNat ∧ f.cadenceP.toNat < f.cadenceQ.toNat) ∧
  (f.endMode = 1 ∨ f.endMode = 2 ∨ f.endMode = 3) ∧
  (f.closeEmpty = 0 ∨ (f.closeEmpty = 1 ∧ f.direction = 1 ∧ f.endMode = 1)) ∧
  f.retryBudget.toNat ≤ 15 ∧ f.markCount.toNat ≤ 16 ∧ (f.autopause = 0 ∨ f.autopause = 1) ∧
  f.quota.toNat ≤ 128 ∧
  (if f.direction = 2 then (f.limit.toNat + 63) / 64 else (f.limit.toNat + 126) / 64) ≤ f.quota.toNat

/-- The index of the first field, behind the stream id, that R3 does not accept. -/
def firstRefused (f : DefineFields) : Option Byte :=
  if f.node.toNat < 1 ∨ 30 < f.node.toNat then some 2
  else if 15 < f.port.toNat then some 3
  else if f.direction ≠ 1 ∧ f.direction ≠ 2 then some 4
  else if f.kind ≠ 1 ∧ f.kind ≠ 2 then some 5
  else if f.limit.toNat < 1 ∨ 256 < f.limit.toNat then some 6
  else if f.kind = 1 ∧ f.period.toNat ∉ [1, 2, 4, 8, 16, 32, 64, 128, 256] then some 7
  else if f.kind = 1 ∧ f.period.toNat ≤ f.phase.toNat then some 8
  else if f.cadenceW ≠ 0 ∧ f.limit.toNat < f.cadenceW.toNat + 1 then some 9
  else if f.cadenceW ≠ 0 ∧ (f.cadenceQ.toNat < 2 ∨ 64 < f.cadenceQ.toNat) then some 10
  else if f.cadenceW ≠ 0 ∧ (f.cadenceP.toNat < 1 ∨ f.cadenceQ.toNat ≤ f.cadenceP.toNat) then some 11
  else if f.endMode ≠ 1 ∧ f.endMode ≠ 2 ∧ f.endMode ≠ 3 then some 12
  else if f.closeEmpty ≠ 0 ∧ ¬(f.closeEmpty = 1 ∧ f.direction = 1 ∧ f.endMode = 1) then some 13
  else if 15 < f.retryBudget.toNat then some 14
  else if 16 < f.markCount.toNat then some 15
  else if f.autopause ≠ 0 ∧ f.autopause ≠ 1 then some 16
  else if f.quota.toNat < 1 ∨ 128 < f.quota.toNat then some 17
  else if f.quota.toNat < (if f.direction = 2 then (f.limit.toNat + 63) / 64 else (f.limit.toNat + 126) / 64) then some 17
  else none

/-! ## Failures (R28) -/

/-- The kind of failure an outcome is, if it is one. -/
def failureOf : Outcome → Option FailureKind
  | .silent => some .silent
  | .check => some .check
  | .form => some .form
  | .accepted | .duplicate | .wait | .reject | .overrun | .yielded => none

/-! ## Time (chapter 6), configuration (chapter 5) -/

/-- No stuck line comes within `n` microseconds of one cycle: supervision is off, the busy count stays below 600, or nothing is
being heard and the line has been idle for 2 characters before the count would reach 600 (R103). -/
abbrev NoStuck (n : Nat) (s : State) : Prop :=
  s.master.state.supervised = true →
    s.engine.busy + n < 600 * s.master.rate.charMicros ∨
      (s.engine.hearing = false ∧ s.engine.busy + s.untilIdle ≤ 600 * s.master.rate.charMicros)

/-- The reports of the streams that one event starts, in ascending stream id: STREAM_STARTED, and REFILL_NEEDED behind it for a
REFILL stream at residue 0 (R7, R8). -/
def startReports (hit : StreamRecord → Bool) (s : State) (q : ReportQueue) : ReportQueue :=
  allSids.foldl (fun q i =>
    match s.stream i with
    | some r =>
      if hit r = false then q
      else if r.defn.endMode = .refill ∧ r.residue = 0 then (q.offer (.streamStarted i)).offer (.refillNeeded i)
      else q.offer (.streamStarted i)
    | none => q) q

/-- The part comes to lead at the boundary `b` microseconds from `s`, in the state `t`: link time and the mark lines, the streams
started at the new cycle and the resync pending of each (R31), the reports of the change (R106), the plan in OPENING (R58). -/
def LeadsAtBoundary (b : Nat) (cause : Cause) (s t : State) : Prop :=
  ∀ hit : StreamRecord → Bool,
    hit = (fun r => decide (r.state = .armed ∧ r.trigger = some (.atCycle (s.time.cycle + 1)))) →
    t.time = { cycle := s.time.cycle + 1, offset := 0, clock := s.time.clock + b } ∧
    t.marks = marksRun s.master.cycleLength { cycle := s.time.cycle, offset := s.master.cycleLength }
      { cycle := s.time.cycle + 1, offset := 0 } (s.elapse b).marks ∧
    t.memory = s.memory ∧ t.capture = s.capture ∧ t.engine = { (s.elapse b).engine with busy := 0 } ∧
    t.plan = { s.plan with
      stage := .opening
      record := some {
        cycle := s.time.cycle + 1, beaconStart := none, dueList := [], duePlace := 0, waited := [], late := false
        round := 0, renewed := [], skipped := 0 } } ∧
    t.reports = (startReports hit s s.reports).offer (.mastership .leading cause s.master.lastPartner) ∧
    ∀ i : Sid, t.stream i = (s.stream i).map fun r =>
      { (if hit r then { r with state := .running, trigger := none } else r) with resyncPending := true }

/-- No transaction stands in the phase and hears what comes (R80). -/
abbrev Unheard (ph : Phase) (s : State) : Prop :=
  s.master.state = .leading → s.engine.transaction.all (fun tx => tx.phase != ph || tx.begun) = true

/-- Running forward, `old` precedes the point `p`, and `p` precedes or equals `new` (R131). -/
abbrev Passed (old new p : Point) : Prop :=
  (old.cycle ≠ p.cycle ∨ old.offset < p.offset) ∧
    ((p.cycle - old.cycle).toNat < (new.cycle - old.cycle).toNat ∨ (p.cycle = new.cycle ∧ p.offset ≤ new.offset))

/-- Ranges of the configuration (R107) and of the offset within its cycle (R127). -/
abbrev TimeLaw (s : State) : Prop :=
  250 ≤ s.master.cycleLength ∧ s.master.cycleLength ≤ 8000 ∧
  50 ≤ s.master.share ∧ s.master.share ≤ 90 ∧
  2 ≤ s.master.timeout ∧ s.master.timeout ≤ 16 ∧
  200 ≤ s.master.c ∧ s.master.c ≤ 8000 ∧
  s.time.offset < s.master.cycleLength

/-- The silence count of a follower stays below its limit, and the limit is T or the handover hold 2 T (R117, R119). -/
abbrev FollowLaw (s : State) : Prop :=
  (s.master.silenceLimit = s.master.timeout ∨ s.master.silenceLimit = 2 * s.master.timeout) ∧
  (s.master.state = .following → s.master.silenceCount < s.master.silenceLimit)

/-! ## The command port (chapter 7) -/

/-- The bounds of the window, the history and the reply queue, and their TAGs (R160, R162, R163, R165). -/
abbrev PortLaw (s : State) : Prop :=
  s.port.window.length ≤ Config.windowSize ∧
  (s.port.window.map (·.tag)).Nodup ∧
  s.port.history.length ≤ Config.historySize ∧
  (s.port.history.map (·.tag)).Nodup ∧
  s.port.replyQueue.length ≤ Config.replyQueueSize

/-! ## The report queue (chapter 8) -/

/-- The number the entry at place `k` carries while `sent` entries are sent: consecutive numbers up to the next (R178). -/
def numberAt (q : ReportQueue) (k : Nat) : Option Byte :=
  if k < q.sentCount then some (q.nextNumber - BitVec.ofNat 8 q.sentCount + BitVec.ofNat 8 k) else none

/-- The bounds and the order of the report queue (R173, R174, R176, R178). -/
abbrev ReportLaw (s : State) : Prop :=
  s.reports.ordinary ≤ Config.ordinaryReports ∧
  (s.reports.entries.filter (·.report.isLost)).length ≤ 1 ∧
  s.reports.sentCount ≤ Config.reportWindow ∧
  (s.reports.entries.filterMap (·.report.coalesceKey)).Nodup ∧
  (0 < s.reports.lostCount → s.reports.entries.any (·.report.isLost) = true) ∧
  s.reports.entries.map (·.number) = (List.range s.reports.entries.length).map (numberAt s.reports)

/-! ## Captures and marks (chapter 6) -/

/-- The bounds of the capture queue and of each mark schedule (R136, R140). -/
abbrev QueueLaw (s : State) : Prop :=
  s.capture.queue.length ≤ Config.captureQueue ∧
  ∀ k : Line, (s.marks[k.val]).schedule.length ≤ Config.markEntries

/-! ## The link engine, the plan and the streams (chapters 1, 3, 4, 5) -/

/-- The transaction's stream is RUNNING or PAUSED, and keeps its direction (R38). -/
def inService (tx : Transaction) (r : StreamRecord) : Bool :=
  (r.state == .running || r.state == .paused) && r.defn.direction == tx.direction

/-- Only a leading part has a transaction, a cycle record and a stage other than STANDBY, and only it drives the line (R58,
R78, R81); the stream of a transaction is in service (R38); a STOP waits only on the stream in flight (R13); a beacon or a
closed demand phase leaves no transaction in flight (R57). -/
abbrev LinkLaw (s : State) : Prop :=
  (s.engine.transaction.isSome = true → s.master.state = .leading) ∧
  (s.plan.record.isSome = true ↔ s.master.state = .leading) ∧
  (s.plan.stage = .standby ↔ s.master.state ≠ .leading) ∧
  (s.ldrv = true → s.master.state = .leading) ∧
  (∀ tx, s.engine.transaction = some tx → (s.stream tx.stream).any (inService tx) = true) ∧
  (∀ i : Sid, (s.stream i).any (·.stopPending) = true → s.inFlight i = true) ∧
  (s.plan.stage = .opening → s.plan.record.any (·.beaconStart.isSome) = true → s.engine.transaction = none) ∧
  (s.plan.stage = .closed → s.engine.transaction = none)

/-- While line supervision runs, the busy count is 0 whenever the line has been idle for 2 characters (R103). -/
abbrev IdleLaw (s : State) : Prop :=
  s.master.state.supervised = true → 2 * s.master.rate.charMicros ≤ s.engine.quiet → s.engine.busy = 0

/-! ## Segment memory (chapter 2) -/

/-- Blocks of the reservation. -/
def reservedBlocks (s : State) : Nat := (s.memory.reservation.map (·.blocks)).getD 0

/-- Blocks of the reservation that belong to a stream. -/
def reservedFor (i : Sid) (s : State) : Nat :=
  match s.memory.reservation with
  | some r => if r.stream = i then r.blocks else 0
  | none => 0

/-- Blocks in the free list, the reservation and the chains. -/
def allBlocks (s : State) : Nat :=
  s.memory.free + reservedBlocks s + (s.memory.chains.toList.map Chain.blocks).sum

/-- A chain as its rules keep it: an empty queue of bytes has head offset 0 (R35); a stored segment holds a byte that is not
delivered (R39, R41). -/
def chainOk (c : Chain) : Bool :=
  decide (c.headOffset < 64) && (!c.bytes.isEmpty || c.headOffset == 0) &&
    c.records.all fun r => decide (r.delivered < r.data.length)

/-- A chain holds only what its stream's direction puts there, and nothing for a FREE stream (R34, R35, R39). -/
def chainFits (r : Option StreamRecord) (c : Chain) : Bool :=
  match r with
  | none => c == Chain.empty
  | some r =>
    match r.defn.direction with
    | .outbound => c.records.isEmpty
    | .inbound => c.bytes.isEmpty

/-- The reservation is the one of the inbound transaction in flight, and holds what it has received (R40, R88). -/
def reservationOk (s : State) : Bool :=
  match s.engine.transaction with
  | none => s.memory.reservation == none
  | some tx =>
    match tx.direction with
    | .outbound => s.memory.reservation == none
    | .inbound =>
      s.memory.reservation == some ⟨tx.stream, blocksFor tx.size⟩ && decide (tx.payload.length ≤ tx.size) &&
        (tx.phase != .receiving || tx.received.all fun r => decide (r.2 ≤ tx.size))

/-- Each of the 256 blocks is in one place (R33), and no stream holds more than its quota (R34). -/
abbrev MemoryLaw (s : State) : Prop :=
  allBlocks s = Config.blocks ∧
  (∀ i : Sid, ((s.stream i).map fun r => decide ((s.chain i).blocks + reservedFor i s ≤ r.defn.quota)).getD true = true) ∧
  (∀ i : Sid, chainOk (s.chain i) = true) ∧
  (∀ i : Sid, chainFits (s.stream i) (s.chain i) = true) ∧
  reservationOk s = true

/-! ## The load map (3.6) -/

/-- What a stream adds to an entry of the load map: its cost, while it holds load (R69). -/
def loadOf (r : Nat) (x : Option StreamRecord) : Nat :=
  match x with
  | none => 0
  | some x =>
    match x.defn.kind with
    | .demand => 0
    | .cyclic period phase => if x.holdsLoad && loadEntryOf period phase r then x.defn.cost else 0

/-- A stream holds load exactly in ARMED, RUNNING, PAUSED and HALTED of a CYCLIC stream (R69). -/
def holdsRight (r : StreamRecord) : Bool :=
  r.holdsLoad == (!r.defn.isDemand &&
    (r.state == .armed || r.state == .running || r.state == .paused || r.state == .halted))

/-- A CYCLIC stream has one of the nine periods, and a phase below it (R3). -/
def placeRight (r : StreamRecord) : Bool :=
  match r.defn.kind with
  | .cyclic period phase => periods.contains period && decide (phase < period)
  | .demand => true

/-- Every entry is the sum of the costs of the streams that hold load in it, and within the budget (R69); the entries of a stream
are those of a period and phase that R3 accepts. -/
abbrev LoadLaw (s : State) : Prop :=
  (∀ r : Fin 256, s.plan.loadMap[r] = (allSids.map fun i => loadOf r.val (s.stream i)).sum) ∧
  (∀ r : Fin 256, s.plan.loadMap[r] ≤ s.master.b) ∧
  (∀ i : Sid, (s.stream i).all holdsRight = true) ∧
  (∀ i : Sid, (s.stream i).all placeRight = true)

end Sys2Proof.Safety
end

