-- ==== Sys2Proof/Certificates/Slice0/Obligations.lean ====
section
/-! DEFINITION. The statements about the K16S for the provers: how the queue is served, the laws every step keeps, and what
each command does, family by family. -/

open Sys2Proof Sys2Proof.Machine Sys2Proof.Safety

/-! ## The queue, the outcome of a step, the passing of time -/

/-- A step runs the command at the front of the queue, on the rest of the queue. -/
def Obligations.StepRunsFront : Prop :=
  ∀ (c : Instr) (rest : List Instr) (s : State), s.pending = c :: rest → step s = exec c (s.setPending rest)

/-- On an empty queue the step runs the time-driven row that is due, else one microsecond passes; nothing happens while
RESET_N is low. The model's choice (log entry 3). -/
def Obligations.EmptyQueueStep : Prop :=
  ∀ s : State, s.pending = [] →
    step s = if s.inReset then .next s
      else
        match s.dueCommand with
        | some c => exec c s
        | none => .next (s.passTime 1)

/-- Every command answers a next state and leaves the queue as it is: nothing stops the part. -/
def Obligations.CommandsAnswerNext : Prop :=
  ∀ (c : Instr) (s : State), ∃ t, exec c s = .next t ∧ t.pending = s.pending

/-- The passing of time: a cycle boundary is taken at its instant, the stuck line when the busy count reaches 600, first
where both fall on one instant (the model's choice, log entry 4); between them the offset and the clock rise by 1 each
microsecond, the mark lines go from point to point (MarksFire, with its log entries 41 and 44), the idle and busy counts run
while nothing, a foreign frame or the part's own frame holds the line (log entry 9), and nothing else happens. The times
that a row takes are log entry 2; what the fault of a stuck line does is MastershipChanged, with its log entries (18, 21,
34, 37, 39 and 40). -/
def Obligations.TimePasses : Prop :=
  (∀ (n : Nat) (s : State), TimeLaw s → s.time.offset + n < s.master.cycleLength → NoStuck n s →
    s.passTime n = s.elapse n) ∧
  (∀ (b m : Nat) (s : State), TimeLaw s → s.time.offset + b = s.master.cycleLength → NoStuck b s →
    s.passTime (b + m) = ((s.elapse b).cycleBoundary).passTime m) ∧
  (∀ (k m : Nat) (s : State), TimeLaw s → s.master.state.supervised = true →
    s.engine.busy + k = 600 * s.master.rate.charMicros → s.time.offset + k ≤ s.master.cycleLength →
    (s.engine.hearing = true ∨ k < s.untilIdle) →
    s.passTime (k + m) = ((s.elapse k).faulted .stuckLine).passTime m) ∧
  (∀ (n : Nat) (s : State),
    (s.elapse n).time = { cycle := s.time.cycle, offset := s.time.offset + n, clock := s.time.clock + n } ∧
    (s.elapse n).port = s.port ∧ (s.elapse n).reports = s.reports ∧ (s.elapse n).streams = s.streams ∧
    (s.elapse n).memory = s.memory ∧ (s.elapse n).plan = s.plan ∧ (s.elapse n).master = s.master ∧
    (s.elapse n).capture = s.capture ∧
    (s.elapse n).marks = marksRun s.master.cycleLength { cycle := s.time.cycle, offset := s.time.offset }
      { cycle := s.time.cycle, offset := s.time.offset + n } s.marks ∧
    (s.elapse n).engine = { s.engine with quiet := (s.elapse n).engine.quiet, busy := (s.elapse n).engine.busy } ∧
    (s.engine.hearing = true → 0 < n →
      (s.elapse n).engine.quiet = 0 ∧
      (s.elapse n).engine.busy = (if s.master.state.supervised then s.engine.busy + n else s.engine.busy)) ∧
    (∀ d, s.engine.hearing = false → s.time.clock + d = s.engine.drivenUntil → 0 < d → 0 < n →
      (s.elapse n).engine.quiet = n - d ∧
      (s.elapse n).engine.busy =
        (if s.master.state.supervised then (if 2 * s.master.rate.charMicros ≤ n - d then 0 else s.engine.busy + n)
        else s.engine.busy)) ∧
    (s.engine.hearing = false → s.engine.drivenUntil ≤ s.time.clock →
      (s.elapse n).engine.quiet = s.engine.quiet + n ∧
      (s.elapse n).engine.busy =
        (if s.master.state.supervised then
          (if 2 * s.master.rate.charMicros ≤ s.engine.quiet + n then 0 else s.engine.busy + n)
        else s.engine.busy)))

/-! ## Laws -/

/-- The laws hold at State.reset. The straps of State.reset are the model's choice (log entry 7). -/
def Obligations.LawsAtReset : Prop :=
  TimeLaw State.reset ∧ FollowLaw State.reset ∧ QueueLaw State.reset ∧ PortLaw State.reset ∧ ReportLaw State.reset ∧
    LinkLaw State.reset ∧ IdleLaw State.reset ∧ MemoryLaw State.reset ∧ LoadLaw State.reset

/-- Every step keeps the ranges of the configuration, of the offset and of the silence count, and the bounds of the capture
queue and the mark schedules. -/
def Obligations.TimeLawKept : Prop :=
  ∀ s t : State, TimeLaw s → FollowLaw s → QueueLaw s → step s = .next t → TimeLaw t ∧ FollowLaw t ∧ QueueLaw t

/-- Every step keeps the bounds of the request window, the reply history and the reply queue, and their TAGs apart. -/
def Obligations.PortLawKept : Prop :=
  ∀ s t : State, PortLaw s → step s = .next t → PortLaw t

/-- Every step keeps the bounds, the coalescing and the numbering of the report queue. -/
def Obligations.ReportLawKept : Prop :=
  ∀ s t : State, ReportLaw s → step s = .next t → ReportLaw t

/-- Every step keeps the law of the link engine: only a leading part has a transaction, a cycle record and a driven line;
and, while the line is supervised, the busy count is 0 whenever the line has been idle for 2 characters. -/
def Obligations.LinkLawKept : Prop :=
  ∀ s t : State, step s = .next t → (LinkLaw s → LinkLaw t) ∧ (IdleLaw s → IdleLaw t)

/-- Every step keeps the 256 blocks in one place each, within the quotas. Blocks are counted, not named (log entry 6,
DEDUCED). -/
def Obligations.MemoryLawKept : Prop :=
  ∀ s t : State, LinkLaw s → MemoryLaw s → step s = .next t → MemoryLaw t

/-- Every step keeps the load map equal to the sum of the admitted costs and within the budget, and every CYCLIC stream at a
period and phase that DEFINE accepts. -/
def Obligations.LoadLawKept : Prop :=
  ∀ s t : State, LinkLaw s → LoadLaw s → step s = .next t → LoadLaw t

/-! ## Resets -/

/-- HARD_RESET cuts the frame on HTXD, releases LDRV and drives the marks LOW; that no command but the release has an effect
while RESET_N is low, and that the schedules of the marks empty at once, is the model's reading (log entry 16, DEDUCED).
RESET_N_RELEASE puts every block at its hard reset values, with the rate and the unit id of the straps and HELLO(POWER).
RESTART_RESET, at the end of the RESTART reply, puts every block at its RESTART values: rate and unit id are kept, the epoch
rises by 1, HELLO(RESTART) stands alone. The clock and the queue of commands are the model's own (log entries 2, 7). -/
def Obligations.ResetsTaken : Prop :=
  (∀ s : State, s.inReset = false →
    exec .hardReset s = .next
      { s with
        inReset := true
        port := { s.port with htxd := none }
        engine := { s.engine with drivenUntil := min s.engine.drivenUntil s.time.clock, ltxd := [] }
        marks := Vector.replicate 4 { resting := .low, current := .low, pulseEnd := none, schedule := [] } }) ∧
  (∀ (c : Instr) (s : State), s.inReset = true → (∀ b1 b0 u, c ≠ .resetNRelease b1 b0 u) → exec c s = .next s) ∧
  (∀ (baud1 baud0 unit : Bool) (s : State),
    exec (.resetNRelease baud1 baud0 unit) s = .next
      (resetValues
        (match baud1, baud0 with
          | false, false => .half
          | false, true => .one
          | true, false => .two
          | true, true => .four)
        (if unit then .two else .one) 0 .power s.time.clock s.pending)) ∧
  (∀ (f : Sending) (s : State), s.inReset = false → s.port.htxd = some f → f.restartReply = true →
    exec .restartReset s = .next
      (resetValues s.port.baud s.master.unit (s.port.epoch + 1) .restart (s.time.clock + (f.endsAt - s.time.clock))
        s.pending))

/-! ## Session, window and transmitter -/

/-- OPEN executed: requests, replies and history are forgotten, every report is unsent, the epoch rises, the session is
open, and its reply is the one reply of the queue. An OPEN with RETRY whose TAG is in use is dropped, one that is stored is
answered from the history, and one with a body is refused BAD_FORM 1. Where the TAGs of waiting STOPs stand is log entry 21
(DEDUCED). -/
def Obligations.OpenOpensSession : Prop :=
  ∀ (retry : Bool) (tag : Byte) (s : State), s.inReset = false → s.port.restarting = false →
    ((retry = true → s.port.tagInUse tag = false ∧ ∀ e ∈ s.port.history, ¬(e.tag = tag ∧ e.kind = 0x01)) →
      exec (.openSession retry tag []) s = .next
        { s with
          port := { s.port with
            window := [], history := [], epoch := s.port.epoch + 1, sessionOpen := true
            replyQueue := [{
              tag := tag, kind := 0x01, role := .ordinary
              frame := frame 0x40 0x01 tag [0x00, s.port.epoch + 1, 0x4B, 1, s.master.unit.code, s.master.state.code,
                BitVec.ofNat 8 s.reports.entries.length] }] }
          reports := { s.reports with
            entries := s.reports.entries.map fun e => { e with number := none }
            nextNumber := 0, resendMark := none }
          streams := s.streams.map fun r => r.map fun r => { r with stopTags := [] }
          master := { s.master with
            listenRequest := s.master.listenRequest.map fun _ => none
            handovers := s.master.handovers.map fun _ => none } }) ∧
    (∀ body : List Byte,
      (retry = true → s.port.tagInUse tag = true → exec (.openSession retry tag body) s = .next s) ∧
      (retry = true → s.port.tagInUse tag = false → ∀ e,
        s.port.history.find? (fun e => e.tag == tag && e.kind == 0x01) = some e →
        exec (.openSession retry tag body) s = .next (portReplied e.kind e.tag e.frame s)) ∧
      ((retry = true → s.port.tagInUse tag = false ∧ ∀ e ∈ s.port.history, ¬(e.tag = tag ∧ e.kind = 0x01)) →
        body ≠ [] →
        exec (.openSession retry tag body) s = .next (portReplied 0x01 tag (frame 0x40 0x01 tag [0x20, 1]) s)))

/-- RESTART: the port is RESTARTING, every other request is abandoned, the reply DONE is ready, and from then on every
checked frame is discarded. Where the TAGs of waiting STOPs stand is log entry 21 (DEDUCED). -/
def Obligations.RestartConfirms : Prop :=
  (∀ (retry : Bool) (tag : Byte) (s : State), Entered .restart retry tag s →
    exec (.restart retry tag) s = .next
      { s with
        port := Port.handOver { s.port with
          restarting := true
          window := [{
            tag := tag, kind := 0x02
            reply := some { tag := tag, kind := 0x02, frame := frame 0x40 0x02 tag [0x00], role := .restart } }] }
        streams := s.streams.map fun r => r.map fun r => { r with stopTags := [] }
        master := { s.master with
          listenRequest := s.master.listenRequest.map fun _ => none
          handovers := s.master.handovers.map fun _ => none } }) ∧
  (∀ (flags kind tag : Byte) (body : List Byte) (s : State), s.port.restarting = true →
    disposeFrame flags kind tag body s = s)

/-- Without a session every request but OPEN is answered NO_SESSION, a port reply, and has no other effect; an improper FLAGS
or KIND is answered BAD_FORM 0. -/
def Obligations.NoSessionRefuses : Prop :=
  (∀ (c : Instr) (q : RequestFrame) (s : State), requestOf c = some q → q.kind ≠ .openSession →
    s.inReset = false → s.port.restarting = false → s.port.sessionOpen = false →
    exec c s = .next (portReplied q.kind.code q.tag (frame 0x40 q.kind.code q.tag [0x11]) s)) ∧
  (∀ (flags kind tag : Byte) (body : List Byte) (s : State), s.port.restarting = false →
    ((flags ≠ 0x00 ∧ flags ≠ 0x01) ∨ ∀ k : ReqKind, k.code ≠ kind) →
    disposeFrame flags kind tag body s = portReplied kind tag (frame 0x40 kind tag [0x20, 0x00]) s)

/-- The admission tests of an open session, in their order: TAG in use (dropped with RETRY, TAG_IN_USE without), a stored reply
sent again, BUSY. -/
def Obligations.AdmissionTests : Prop :=
  ∀ (c : Instr) (q : RequestFrame) (s : State), requestOf c = some q → q.kind ≠ .openSession →
    s.inReset = false → s.port.restarting = false → s.port.sessionOpen = true →
    (s.port.tagInUse q.tag = true →
      exec c s = .next
        (if q.retry then s else portReplied q.kind.code q.tag (frame 0x40 q.kind.code q.tag [0x12]) s)) ∧
    (s.port.tagInUse q.tag = false → q.retry = true → ∀ e,
      s.port.history.find? (fun e => e.tag == q.tag && e.kind == q.kind.code) = some e →
      exec c s = .next (portReplied e.kind e.tag e.frame s)) ∧
    (s.port.tagInUse q.tag = false →
      (q.retry = true → ∀ e ∈ s.port.history, ¬(e.tag = q.tag ∧ e.kind = q.kind.code)) →
      4 ≤ s.port.window.length →
      exec c s = .next (portReplied q.kind.code q.tag (frame 0x40 q.kind.code q.tag [0x10]) s))

/-- READY slots hand their replies to the reply queue while it has room for 8: none is dropped, the order in which they became
READY is kept, and the WAITING slots stay. A request answered at once joins the READY slots behind the others; so does a
WAITING one when its deferred reply is made; a reply for no WAITING request is discarded. -/
def Obligations.RepliesHandedOver : Prop :=
  (∀ p : Port,
    p.handOver.replyQueue ++ p.handOver.window.filterMap (·.reply) = p.replyQueue ++ p.window.filterMap (·.reply) ∧
    p.replyQueue <+: p.handOver.replyQueue ∧
    (p.replyQueue.length ≤ 8 →
      p.handOver.replyQueue.length = min 8 (p.replyQueue.length + (p.window.filterMap (·.reply)).length)) ∧
    p.handOver.window.filter (fun x => x.reply.isNone) = p.window.filter (fun x => x.reply.isNone) ∧
    p.handOver.window.filter (fun x => x.reply.isSome) <:+ p.window.filter (fun x => x.reply.isSome) ∧
    p.handOver = { p with replyQueue := p.handOver.replyQueue, window := p.handOver.window }) ∧
  (∀ (r : Reply) (p : Port),
    p.enterReady r = Port.handOver { p with window := p.window ++ [⟨r.tag, r.kind, some r⟩] }) ∧
  (∀ (kind tag : Byte) (p : Port), p.enterWaiting kind tag = { p with window := p.window ++ [⟨tag, kind, none⟩] }) ∧
  (∀ (tag : Byte) (body : Body) (p : Port), (∀ x ∈ p.window, x.tag = tag → x.reply.isSome = true) →
    p.makeReady tag body = p) ∧
  (∀ (tag : Byte) (body : Body) (pre post : List Slot) (x : Slot) (p : Port), p.window = pre ++ x :: post →
    (∀ y ∈ pre, y.tag = tag → y.reply.isSome = true) → x.tag = tag → x.reply = none →
    p.makeReady tag body = Port.handOver { p with
      window := pre ++ post ++ [{
        tag := tag, kind := x.kind
        reply := some { tag := tag, kind := x.kind, frame := frame 0x40 x.kind tag body, role := .ordinary } }] })

/-- TRANSMIT_FRAME_END at an idle transmitter: the reply at the head begins and is stored unless it is a port reply; with no
reply the oldest unsent report of an open session begins, with the next number. With no reply, no mark, and 8 reports sent
or none unsent, and without a session, it stays idle. A frame being sent ends first; the end of the RESTART reply is
RESTART_RESET's. Retransmissions and the first frame of a REPORTS_LOST are ReportFramesFixed's. The moment a frame ends
rounds an odd number of 2.5 microsecond characters up: the model's choice (log entry 17). That the row lets time pass to the
end of a frame is the model's choice too (log entry 2). -/
def Obligations.TransmitterChooses : Prop :=
  (∀ (r : Reply) (rest : List Reply) (s : State), s.inReset = false → s.port.htxd = none → s.port.replyQueue = r :: rest →
    exec .transmitFrameEnd s = .next
      { s with port := Port.handOver { s.port with
          replyQueue := rest
          history :=
            if r.role = .port then s.port.history
            else
              (if (s.port.history.filter (·.tag != r.tag)).length < 8 then s.port.history.filter (·.tag != r.tag)
                else (s.port.history.filter (·.tag != r.tag)).drop 1) ++ [⟨r.tag, r.kind, r.frame⟩]
          htxd := some {
            frame := r.frame
            endsAt := s.time.clock + Baud.charsMicros r.frame.length s.port.baud
            restartReply := r.role == .restart } } }) ∧
  (∀ (pre post : List ReportEntry) (e : ReportEntry) (s : State), s.inReset = false → s.port.htxd = none →
    s.port.replyQueue = [] → s.port.sessionOpen = true → s.reports.resendMark = none →
    s.reports.entries = pre ++ e :: post → (∀ x ∈ pre, x.number.isSome = true) → e.number = none →
    s.reports.sentCount < 8 → (e.report.isLost = false ∨ e.fixed = true) →
    exec .transmitFrameEnd s = .next
      { s with
        reports := { s.reports with
          entries := pre ++ ⟨e.report, true, some s.reports.nextNumber⟩ :: post
          nextNumber := s.reports.nextNumber + 1 }
        port := { s.port with htxd := some {
          frame := frame 0x80 e.report.kindCode s.reports.nextNumber e.report.body
          endsAt := s.time.clock + Baud.charsMicros (e.report.body.length + 7) s.port.baud
          restartReply := false } } }) ∧
  (∀ s : State, s.inReset = false → s.port.htxd = none → s.port.replyQueue = [] →
    (s.port.sessionOpen = false ∨
      (s.reports.resendMark = none ∧
        (8 ≤ s.reports.sentCount ∨ ∀ e ∈ s.reports.entries, e.number.isSome = true))) →
    exec .transmitFrameEnd s = .next s) ∧
  (∀ (f : Sending) (s u : State), s.inReset = false → s.port.htxd = some f → f.restartReply = false →
    u = s.passTime (f.endsAt - s.time.clock) →
    exec .transmitFrameEnd s = exec .transmitFrameEnd (u.setPort { u.port with htxd := none })) ∧
  (∀ (f : Sending) (s : State), s.inReset = false → s.port.htxd = some f → f.restartReply = true →
    exec .transmitFrameEnd s = exec .restartReset s)

/-- The first frame of a REPORTS_LOST takes the lost count as its body, and the lost count becomes 0; a marked entry is sent
again as it was, and the mark moves to the next sent entry. The moment a frame ends rounds an odd number of 2.5 microsecond
characters up: the model's choice (log entry 17). -/
def Obligations.ReportFramesFixed : Prop :=
  (∀ (pre post : List ReportEntry) (e : ReportEntry) (s : State), s.inReset = false → s.port.htxd = none →
    s.port.replyQueue = [] → s.port.sessionOpen = true → s.reports.resendMark = none →
    s.reports.entries = pre ++ e :: post → (∀ x ∈ pre, x.number.isSome = true) → e.number = none →
    s.reports.sentCount < 8 → e.report.isLost = true → e.fixed = false →
    exec .transmitFrameEnd s = .next
      { s with
        reports := { s.reports with
          entries := pre ++ ⟨.reportsLost (some s.reports.lostCount), true, some s.reports.nextNumber⟩ :: post
          nextNumber := s.reports.nextNumber + 1
          lostCount := 0 }
        port := { s.port with htxd := some {
          frame := frame 0x80 0x8E s.reports.nextNumber [BitVec.ofNat 8 s.reports.lostCount]
          endsAt := s.time.clock + Baud.charsMicros 8 s.port.baud
          restartReply := false } } }) ∧
  (∀ (pre post : List ReportEntry) (e : ReportEntry) (n : Byte) (s : State), s.inReset = false → s.port.htxd = none →
    s.port.replyQueue = [] → s.port.sessionOpen = true → s.reports.resendMark = some n →
    s.reports.entries = pre ++ e :: post → (∀ x ∈ pre, x.number ≠ some n) → e.number = some n →
    exec .transmitFrameEnd s = .next
      { s with
        reports := { s.reports with
          resendMark := (post.find? fun x => x.number.isSome).bind (·.number) }
        port := { s.port with htxd := some {
          frame := frame 0x80 e.report.kindCode n e.report.body
          endsAt := s.time.clock + Baud.charsMicros (e.report.body.length + 7) s.port.baud
          restartReply := false } } })

/-! ## The receiver -/

/-- The bytes of a frame, examined in HUNTING, are found as that frame and handed over, whatever its body holds. Bytes that are
pending stay pending and are examined after it, as section 7.11 shows; that R151's "no pending bytes" is no contradiction to
it is the model's reading (log entry 26, DEDUCED from R152 and 7.11). -/
def Obligations.FrameIsFound : Prop :=
  ∀ (flags kind tag : Byte) (body : List Byte) (bytes : List RxByte) (s : State), body.length ≤ 248 →
    s.port.candidate = [] → bytes.map (·.byte) = frame flags kind tag body →
    bytes.foldl (fun s b => s.examine b) s = disposeFrame flags kind tag body s

/-- The frame that spells a request, with its FLAGS, KIND, TAG and body, has the effect of the request's row. That
a row is one checked frame is the model's choice (log entry 1). -/
def Obligations.FrameHasRowsEffect : Prop :=
  ∀ (c : Instr) (q : RequestFrame) (s : State), requestOf c = some q → s.inReset = false →
    exec c s = .next (disposeFrame (if q.retry then 0x01 else 0x00) q.kind.code q.tag q.body s)

/-- The receiver. A byte in HUNTING starts a candidate if it is SOF and is discarded otherwise. A byte joins the candidate
of an IN_FRAME receiver; a LEN outside 3 to 251 abandons it with PORT_ERROR(LENGTH), a complete candidate whose CRC is wrong
with PORT_ERROR(CHECK), and the bytes after its SOF are pending before any others. Pending bytes are examined one by one,
and a candidate that waits while its gap has passed is abandoned with PORT_ERROR(GAP), until nothing is left to do. The rows
COMMAND_BYTE_RECEIVED and CANDIDATE_GAP are made of these; that an overdue gap is settled before the byte is log entry 19,
the rounding of the gap log entry 17. That the row lets time pass to its instant is the model's choice (log entry 2). -/
def Obligations.ReceiverHunts : Prop :=
  (∀ (after : Nat) (b : Byte) (s u : State), s.inReset = false → u = (s.passTime after).settleReceiver →
    exec (.commandByteReceived after b) s = .next ((u.examine ⟨b, u.time.clock⟩).settleReceiver)) ∧
  (∀ (c : List RxByte) (last : RxByte) (s u : State), s.inReset = false → s.port.candidate = c ++ [last] →
    u = s.passTime (last.arrival + Baud.charsMicros 64 s.port.baud - s.time.clock) →
    exec .candidateGap s = .next
      (((u.setPort { u.port with
        candidate := [], pendingBytes := (c ++ [last]).tail ++ u.port.pendingBytes }).offer
          (.portError .gap)).settleReceiver)) ∧
  (∀ (b : RxByte) (s : State), s.port.candidate = [] →
    s.examine b = if b.byte = 0xC3 then s.setPort { s.port with candidate := [b] } else s) ∧
  (∀ (sof b : RxByte) (s : State), s.port.candidate = [sof] →
    s.examine b =
      if 3 ≤ b.byte.toNat ∧ b.byte.toNat ≤ 251 then s.setPort { s.port with candidate := [sof, b] }
      else
        (s.setPort { s.port with candidate := [], pendingBytes := b :: s.port.pendingBytes }).offer
          (.portError .length)) ∧
  (∀ (sof len b : RxByte) (c : List RxByte) (s : State), s.port.candidate = sof :: len :: c → 3 ≤ len.byte.toNat →
    len.byte.toNat ≤ 251 →
    (c.length + 3 < len.byte.toNat + 4 →
      s.examine b = s.setPort { s.port with candidate := sof :: len :: (c ++ [b]) }) ∧
    (∀ (inner : List RxByte) (k1 k2 : RxByte), c.length + 3 = len.byte.toNat + 4 →
      len :: (c ++ [b]) = inner ++ [k1, k2] →
      [k1.byte, k2.byte] ≠ u16 (crc16 (inner.map (·.byte))).toNat →
      s.examine b =
        (s.setPort { s.port with
          candidate := [], pendingBytes := len :: (c ++ [b]) ++ s.port.pendingBytes }).offer (.portError .check))) ∧
  (∀ (b : RxByte) (rest : List RxByte) (s : State), s.port.pendingBytes = b :: rest →
    s.settleReceiver = ((s.setPort { s.port with pendingBytes := rest }).examine b).settleReceiver) ∧
  (∀ s : State, s.port.pendingBytes = [] →
    (∀ last, s.port.candidate.getLast? = some last →
      s.time.clock ≤ last.arrival + Baud.charsMicros 64 s.port.baud) → s.settleReceiver = s) ∧
  (∀ (c : List RxByte) (last : RxByte) (s : State), s.port.pendingBytes = [] → s.port.candidate = c ++ [last] →
    last.arrival + Baud.charsMicros 64 s.port.baud < s.time.clock →
    s.settleReceiver =
      ((s.setPort { s.port with candidate := [], pendingBytes := (c ++ [last]).tail }).offer
        (.portError .gap)).settleReceiver)

/-- The checks that many requests share. The two common checks of the stream requests: an id above 15 is refused BAD_FORM 1,
a FREE stream NO_STREAM. The body length check of every request but OPEN: BAD_FORM with the first field that is not wholly
present, or, when bytes are left over, one more than the number of fields; PUT takes any payload behind its id. Nothing else
changes. A FREE stream has no record (log entry 8, DEDUCED). -/
def Obligations.StreamRequestChecks : Prop :=
  (∀ (c : Instr) (q : RequestFrame) (sid : Byte) (rest : List Byte) (s : State), requestOf c = some q →
    (q.kind = .start ∨ q.kind = .stop ∨ q.kind = .pause ∨ q.kind = .unpause ∨ q.kind = .resume ∨
      q.kind = .resetStream ∨ q.kind = .release ∨ q.kind = .refill ∨ q.kind = .put ∨ q.kind = .take ∨
      q.kind = .flush) →
    q.body = sid :: rest → Entered q.kind q.retry q.tag s →
    (15 < sid.toNat → exec c s = .next (replied q.kind q.tag [0x20, 1] s)) ∧
    (∀ i : Sid, sid.toNat = i.val → s.stream i = none → exec c s = .next (replied q.kind q.tag [0x22] s))) ∧
  (∀ (retry : Bool) (tag sid : Byte) (s : State), Entered .streamStatus retry tag s → 15 < sid.toNat →
    exec (.streamStatus retry tag sid) s = .next (replied .streamStatus tag [0x20, 1] s)) ∧
  (∀ (k : ReqKind) (retry : Bool) (tag : Byte) (body : List Byte) (s : State), Entered k retry tag s →
    k ≠ .openSession →
    (∀ (pre post : List Nat) (n : Nat), k.fields = pre ++ n :: post → pre.sum ≤ body.length →
      body.length < pre.sum + n →
      disposeFrame (if retry then 0x01 else 0x00) k.code tag body s =
        replied k tag [0x20, BitVec.ofNat 8 (pre.length + 1)] s) ∧
    (k ≠ .put → k.fields.sum < body.length →
      disposeFrame (if retry then 0x01 else 0x00) k.code tag body s =
        replied k tag [0x20, BitVec.ofNat 8 (k.fields.length + 1)] s))

/-! ## The report queue -/

/-- ACK_REPORTS removes the sent entries up to number n, or is refused BAD_ACK; RESEND_REPORTS marks entry n. -/
def Obligations.ReportRequests : Prop :=
  (∀ (retry : Bool) (tag n : Byte) (pre post : List ReportEntry) (e : ReportEntry) (s : State),
    Entered .ackReports retry tag s → s.reports.entries = pre ++ e :: post → e.number = some n →
    (∀ x ∈ pre, x.number.isSome = true ∧ x.number ≠ some n) →
    ∀ left : List ReportEntry,
    left = (if 0 < s.reports.lostCount ∧ ∀ x ∈ post, x.report.isLost = false then
        post ++ [{ report := .reportsLost none, fixed := false, number := none }]
      else post) →
    exec (.ackReports retry tag n) s = .next
      (replied .ackReports tag [0x00, BitVec.ofNat 8 (pre.length + 1), BitVec.ofNat 8 left.length]
        { s with reports := { s.reports with
            entries := left
            resendMark :=
              if s.reports.resendMark.any (fun m => post.any (·.number == some m)) then s.reports.resendMark
              else if s.reports.resendMark.isSome then (post.find? fun x => x.number.isSome).bind (·.number)
              else none } })) ∧
  (∀ (retry : Bool) (tag n : Byte) (pre post : List ReportEntry) (e : ReportEntry) (s : State),
    Entered .resendReports retry tag s → s.reports.entries = pre ++ e :: post → e.number = some n →
    (∀ x ∈ pre, x.number ≠ some n) →
    exec (.resendReports retry tag n) s = .next
      (replied .resendReports tag
        [0x00, BitVec.ofNat 8 ((e :: post).filter fun x => x.number.isSome).length]
        { s with reports := { s.reports with resendMark := some n } })) ∧
  (∀ (retry : Bool) (tag n : Byte) (s : State), (∀ x ∈ s.reports.entries, x.number ≠ some n) →
    (Entered .ackReports retry tag s → exec (.ackReports retry tag n) s = .next (replied .ackReports tag [0x26] s)) ∧
    (Entered .resendReports retry tag s →
      exec (.resendReports retry tag n) s = .next (replied .resendReports tag [0x26] s)))

/-- An offered ordinary report is absorbed by a standing entry of its coalescing kind and subject, else dropped and counted
when 47 ordinary entries stand, else it joins the tail. CYCLE_OVERRUN updates a standing one that is not fixed, is absorbed by
one that is, and joins like the others when none stands; what it then carries as its count is the model's reading (log
entry 13, DEDUCED). -/
def Obligations.ReportOffered : Prop :=
  (∀ (r : Report) (q : ReportQueue), r.isLost = false → r.isOverrun = false →
    ((∃ k, r.coalesceKey = some k ∧ ∃ e ∈ q.entries, e.report.coalesceKey = some k) → q.offer r = q) ∧
    ((∀ k, r.coalesceKey = some k → ∀ e ∈ q.entries, e.report.coalesceKey ≠ some k) → 47 ≤ q.ordinary →
      q.offer r = { q with
        lostCount := min 255 (q.lostCount + 1)
        entries :=
          if q.entries.any (·.report.isLost) then q.entries
          else q.entries ++ [⟨.reportsLost none, false, none⟩] }) ∧
    ((∀ k, r.coalesceKey = some k → ∀ e ∈ q.entries, e.report.coalesceKey ≠ some k) → q.ordinary < 47 →
      q.offer r = { q with entries := q.entries ++ [⟨r, false, none⟩] })) ∧
  (∀ (cycle : Cycle) (soFar more : Nat) (q : ReportQueue),
    (∀ (pre post : List ReportEntry) (first : Cycle) (k : Nat) (fixed : Bool) (number : Option Byte),
      q.entries = pre ++ ⟨.cycleOverrun first k, fixed, number⟩ :: post →
      (∀ e ∈ pre ++ post, e.report.isOverrun = false) →
      q.offerOverrun cycle soFar more =
        if fixed then q
        else { q with
          entries := pre ++ ⟨.cycleOverrun first (min 65535 (k + more)), false, number⟩ :: post }) ∧
    ((∀ e ∈ q.entries, e.report.isOverrun = false) → 47 ≤ q.ordinary →
      q.offerOverrun cycle soFar more = { q with
        lostCount := min 255 (q.lostCount + 1)
        entries :=
          if q.entries.any (·.report.isLost) then q.entries
          else q.entries ++ [⟨.reportsLost none, false, none⟩] }) ∧
    ((∀ e ∈ q.entries, e.report.isOverrun = false) → q.ordinary < 47 →
      q.offerOverrun cycle soFar more = { q with
        entries := q.entries ++ [⟨.cycleOverrun cycle (min 65535 soFar), false, none⟩] }))

/-! ## The mastership unit -/

/-- CONFIGURE_LINK in OFFLINE with an empty load map records an accepted configuration, restarts the offset and the idle count,
and answers C and B; it is refused BAD_STATE otherwise, and BAD_FORM with the first field that fails. -/
def Obligations.ConfigureLinkRecords : Prop :=
  ∀ (retry : Bool) (tag rate : Byte) (cycleLength : BitVec 16) (share timeout : Byte) (s : State),
    Entered .configureLink retry tag s →
    ((s.master.state ≠ .offline ∨ ∃ r : Fin 256, s.plan.loadMap[r] ≠ 0) →
      exec (.configureLink retry tag rate cycleLength share timeout) s = .next (replied .configureLink tag [0x21] s)) ∧
    (s.master.state = .offline → (∀ r : Fin 256, s.plan.loadMap[r] = 0) →
      (∀ index : Byte,
        (if rate = 0 ∨ 3 < rate.toNat then index = 1
        else if cycleLength.toNat < 250 ∨ 8000 < cycleLength.toNat then index = 2
        else if share.toNat < 50 ∨ 90 < share.toNat then index = 3
        else if timeout.toNat < 2 ∨ 16 < timeout.toNat then index = 4
        else if (rate = 1 ∧ cycleLength.toNat < 800) ∨ (rate = 2 ∧ cycleLength.toNat < 400) then index = 2
        else False) →
        exec (.configureLink retry tag rate cycleLength share timeout) s = .next
          (replied .configureLink tag [0x20, index] s)) ∧
      (∀ q : LinkRate, rate = q.code → 250 ≤ cycleLength.toNat → cycleLength.toNat ≤ 8000 → 50 ≤ share.toNat →
        share.toNat ≤ 90 → 2 ≤ timeout.toNat → timeout.toNat ≤ 16 → 200 ≤ cycleLength.toNat / q.charMicros →
        exec (.configureLink retry tag rate cycleLength share timeout) s = .next
          (replied .configureLink tag
            ([0x00] ++ u16 (cycleLength.toNat / q.charMicros) ++
              u16 (cycleLength.toNat / q.charMicros * share.toNat / 100 - 8))
            { s with
              master := { s.master with
                rate := q, cycleLength := cycleLength.toNat, share := share.toNat, timeout := timeout.toNat
                silenceLimit := timeout.toNat }
              time := { s.time with offset := 0 }
              engine := { s.engine with quiet := 0 } })))

/-- LINK_UP in OFFLINE enters LISTENING with its reply deferred and queues MASTERSHIP; HANDOVER in LEADING joins the list with its
reply deferred; in every other state each is refused BAD_STATE. The deferred replies, when they are made: the listen request
goes, the list is emptied, and each request that no OPEN or RESTART abandoned is answered, the HANDOVERs in the order in which
they joined the list (the model's choice, log entry 39). -/
def Obligations.LinkRequestsDeferred : Prop :=
  (∀ (retry : Bool) (tag : Byte) (s : State), Entered .linkUp retry tag s →
    (s.master.state = .offline →
      exec (.linkUp retry tag) s = .next
        (waiting .linkUp tag
          { s with
            master := { s.master with
              state := .listening, lastCause := some .linkUp, listenCount := none, listenRequest := some (some tag) }
            reports := s.reports.offer (.mastership .listening .linkUp s.master.lastPartner)
            plan := { s.plan with stage := .standby, record := none }
            engine := { s.engine with busy := 0 } })) ∧
    (s.master.state ≠ .offline → exec (.linkUp retry tag) s = .next (replied .linkUp tag [0x21] s))) ∧
  (∀ (retry : Bool) (tag : Byte) (s : State), Entered .handover retry tag s →
    (s.master.state = .leading →
      exec (.handover retry tag) s = .next
        (waiting .handover tag
          { s with master := { s.master with handovers := s.master.handovers ++ [some tag] } })) ∧
    (s.master.state ≠ .leading → exec (.handover retry tag) s = .next (replied .handover tag [0x21] s))) ∧
  (∀ (body : Body) (s : State),
    (s.master.listenRequest = none → s.settleListen body = s) ∧
    (∀ w, s.master.listenRequest = some w →
      s.settleListen body = { s with
        master := { s.master with listenRequest := none }
        port := (match w with
          | some tag => s.port.makeReady tag body
          | none => s.port) }) ∧
    s.settleHandovers body = { s with
      master := { s.master with handovers := [], armed := false }
      port := (s.master.handovers.filterMap id).foldl (fun p tag => p.makeReady tag body) s.port })

/-- LINK_DOWN in OFFLINE changes nothing; from any other state it takes the part to OFFLINE by the change of
MastershipChanged, the stream in flight too; then a waiting LINK_UP and the waiting HANDOVERs are answered CANCELLED, and
last its own reply is DONE. No transaction, no driven line, no waiting request is left, and every ARMED, RUNNING or PAUSED
stream that is not in flight halts with LINK_LOST. That the silence count keeps its value when FOLLOWING is left is the
model's choice (log entry 34), and so are the order of the HANDOVER replies (log entry 39) and that the replies of waiting
STOPs, which the change makes READY, come before them (log entry 37). Where the TAGs of waiting STOPs stand is log entry 21
(DEDUCED). -/
def Obligations.LinkDownLeaves : Prop :=
  ∀ (retry : Bool) (tag : Byte) (s : State), Entered .linkDown retry tag s →
    (s.master.state = .offline → exec (.linkDown retry tag) s = .next (replied .linkDown tag [0x00] s)) ∧
    (s.master.state ≠ .offline → ∀ v : State,
      v = State.changeMastership .offline .linkDown { s with master := { s.master with listenCount := none } } →
      exec (.linkDown retry tag) s = .next
        (replied .linkDown tag [0x00] ((v.settleListen [0x02, 0x00]).settleHandovers [0x02, 0x00])) ∧
      ((∀ i : Sid, (s.stream i).all (fun r => !r.stopPending) = true) → v.port = s.port)) ∧
    (LinkLaw s → s.master.state ≠ .offline → ∃ t, exec (.linkDown retry tag) s = .next t ∧
      (∀ p : Port,
        p = (State.changeMastership .offline .linkDown
          { s with master := { s.master with listenCount := none } }).port →
        t.port = Port.enterReady
          { tag := tag, kind := 0x12, frame := frame 0x40 0x12 tag [0x00], role := .ordinary }
          ((s.master.handovers.filterMap id).foldl (fun p tag => p.makeReady tag [0x02, 0x00])
            (match s.master.listenRequest with
            | some (some tag) => p.makeReady tag [0x02, 0x00]
            | some none | none => p))) ∧
      t.master = { s.master with
        state := .offline, lastCause := some .linkDown, listenCount := none, listenRequest := none, handovers := []
        armed := false } ∧
      t.engine.transaction = none ∧ t.ldrv = false ∧ t.plan.stage = .standby ∧ t.plan.record = none ∧
      (∀ (i : Sid) (r : StreamRecord), s.stream i = some r → s.inFlight i = false →
        t.stream i = some
          (if r.state = .armed ∨ r.state = .running ∨ r.state = .paused then
            { r with state := .halted, condition := some .linkLost, trigger := none }
          else r)) ∧
      (∀ i : Sid, s.inFlight i = false → t.chain i = s.chain i) ∧
      t.time = s.time ∧ t.marks = s.marks ∧ t.capture = s.capture)

/-- A change of mastership state, in the order of R106. On leaving LEADING the line is released and a transaction in flight
is settled: a decided outcome is applied, an undecided one is YIELDED on the way to FOLLOWING and dropped without outcome on
the way to OFFLINE or FAULTED. Then the state, the cause and the MASTERSHIP report; then the streams: LINK_LOST for each
that is ARMED, RUNNING or PAUSED, in ascending id, with the answers of the STOPs that wait on it (that they become READY
before the other replies of the change is the model's choice, log entry 37), or resync pending on each; then the plan and
the busy count. A fault answers a waiting LINK_UP and the waiting HANDOVERs after that; its LINK_UP reply carries cause and
partner too (log entry 18, DEDUCED). That the silence count keeps its value when FOLLOWING is left for OFFLINE or FAULTED is
the model's choice (log entry 34), that the silence limit does so at a fault or a takeover too (log entry 40), and so is the
order among the STOPs of one stream and among the HANDOVERs (log entry 39). Where the TAGs of waiting STOPs stand is log
entry 21 (DEDUCED). -/
def Obligations.MastershipChanged : Prop :=
  (∀ (new : MastState) (cause : Cause) (s v t : State),
    v = (if s.master.state = .leading then
        match s.engine.transaction with
        | none => s.releaseLine
        | some tx =>
          match tx.decided with
          | some o => s.releaseLine.applyOutcome tx o
          | none =>
            if new = .following then s.releaseLine.applyOutcome tx .yielded else s.releaseLine.dropTransaction
      else s) →
    t = s.changeMastership new cause →
    t.master = { s.master with state := new, lastCause := some cause } ∧
    t.engine = { v.engine with busy := if new.supervised then 0 else v.engine.busy } ∧
    (s.master.state = .leading → t.ldrv = false) ∧
    t.plan = { v.plan with
      stage := if new = .leading then .opening else .standby
      record :=
        if new = .leading then some {
          cycle := v.time.cycle, beaconStart := none, dueList := [], duePlace := 0, waited := [], late := false
          round := 0, renewed := [], skipped := 0 }
        else none } ∧
    (∀ i : Sid, t.stream i = (v.stream i).map fun r =>
      if (new = .offline ∨ new = .faulted) ∧ (r.state = .armed ∨ r.state = .running ∨ r.state = .paused) then
        { r with
          state := .halted, condition := some .linkLost, trigger := none, stopPending := false
          stopTags := if r.stopPending then [] else r.stopTags }
      else if new = .leading then { r with resyncPending := true }
      else r) ∧
    t.reports = (if new = .offline ∨ new = .faulted then
        allSids.foldl (fun q i =>
          match v.stream i with
          | some r =>
            if r.state = .armed ∨ r.state = .running ∨ r.state = .paused then
              q.offer (.streamEnded i .halted (some .linkLost) r.lastFailure r.residue r.accepted)
            else q
          | none => q) (v.reports.offer (.mastership new cause s.master.lastPartner))
      else v.reports.offer (.mastership new cause s.master.lastPartner)) ∧
    t.port = (if new = .offline ∨ new = .faulted then
        allSids.foldl (fun p i =>
          match v.stream i with
          | some r =>
            if (r.state = .armed ∨ r.state = .running ∨ r.state = .paused) ∧ r.stopPending = true then
              r.stopTags.foldl (fun p tag => p.makeReady tag [0x01, 0x07]) p
            else p
          | none => p) v.port
      else v.port) ∧
    t.memory = v.memory ∧ t.time = s.time ∧ t.capture = s.capture ∧ t.marks = s.marks) ∧
  (∀ s : State, s.releaseLine = { s with
    engine := { s.engine with drivenUntil := min s.engine.drivenUntil s.time.clock, ltxd := [] } }) ∧
  (∀ s : State, s.dropTransaction = { s with
    engine := { s.engine with transaction := none }
    memory := { s.memory with free := s.memory.free + reservedBlocks s, reservation := none } }) ∧
  (∀ (cause : Cause) (s : State),
    s.faulted cause =
      ((((s.setMaster { s.master with listenCount := none }).changeMastership .faulted cause).settleListen
        [0x00, 0x04, cause.code, (s.master.lastPartner.map (·.code)).getD 0]).settleHandovers [0x02, 0x04]))

/-- CYCLE_BOUNDARY lets time pass to the end of the current cycle, where the boundary is taken. Where no stuck line comes
first (TimePasses gives that case), v is the moment of the boundary: the cycle number rises by 1 and the offset is 0; the
mark lines take the boundary's points (MarksFire, with its log entries 41 and 44); a listener and a follower count the
boundary; a leader closes its cycle record, arms its handover list and opens a new record; the streams ARMED at the new
cycle run, in every mastership state, with their reports. A record closed in OPENING counts every RUNNING stream due in its
cycle as a skipped slot (periods and phases are those LoadLaw keeps), one closed in CYCLIC every RUNNING stream behind the
due place that was not renewed, any other none. The order of the reports of different blocks, and of several streams, is the
model's choice (log entries 5 and 32), as is the order of boundary and stuck line (log entry 4); the count in CYCLE_OVERRUN
and the record of renewed streams are its reading (log entries 13 and 20, DEDUCED). That the row lets time pass to its
instant is the model's choice (log entry 2). -/
def Obligations.BoundaryAdvances : Prop :=
  (∀ s : State, s.inReset = false →
    exec .cycleBoundary s = .next (s.passTime (s.master.cycleLength - s.time.offset))) ∧
  (∀ (b : Nat) (s v : State) (hit : StreamRecord → Bool), s.inReset = false → 1 ≤ s.master.cycleLength →
    s.time.offset + b = s.master.cycleLength → NoStuck b s → v = s.elapse b →
    hit = (fun r => decide (r.state = .armed ∧ r.trigger = some (.atCycle (s.time.cycle + 1)))) →
    ∃ t, exec .cycleBoundary s = .next t ∧
      t.time = { cycle := s.time.cycle + 1, offset := 0, clock := s.time.clock + b } ∧
      t.marks = marksRun s.master.cycleLength { cycle := s.time.cycle, offset := s.master.cycleLength }
        { cycle := s.time.cycle + 1, offset := 0 } v.marks ∧
      t.memory = s.memory ∧ t.capture = s.capture ∧
      (s.master.state = .following → s.master.silenceCount + 1 < s.master.silenceLimit →
        t.master = { s.master with silenceCount := s.master.silenceCount + 1 }) ∧
      (s.master.state = .listening → s.master.listenCount = none → t.master = { s.master with listenCount := some 0 }) ∧
      (s.master.state = .listening → ∀ k, s.master.listenCount = some k → k + 1 ≤ s.master.timeout →
        t.master = { s.master with listenCount := some (k + 1) }) ∧
      (s.master.state = .leading →
        t.master = { s.master with armed := !s.master.handovers.isEmpty } ∧
        t.plan = { s.plan with
          stage := .opening
          record := some {
            cycle := s.time.cycle + 1, beaconStart := none, dueList := [], duePlace := 0, waited := [], late := false
            round := 0, renewed := [], skipped := 0 } }) ∧
      (s.master.state = .offline ∨ s.master.state = .faulted → t.master = s.master) ∧
      ((s.master.state = .following → s.master.silenceCount + 1 < s.master.silenceLimit) →
        (s.master.state = .listening → ∀ k, s.master.listenCount = some k → k + 1 ≤ s.master.timeout) →
        (s.master.state ≠ .leading → t.plan = s.plan) ∧ t.engine = v.engine ∧ t.port = s.port ∧
        t.reports = startReports hit s (if s.master.state = .leading then v.closeRecord.reports else s.reports) ∧
        ∀ i : Sid, t.stream i = (s.stream i).map fun r =>
          if hit r then { r with state := .running, trigger := none } else r)) ∧
  (∀ (c : CycleRecord) (s : State) (counted : List Sid → State), s.plan.record = some c →
    counted = (fun missed =>
      if missed = [] then s
      else { s with
        plan := { s.plan with record := some { c with late := true, skipped := c.skipped + missed.length } }
        reports := s.reports.offerOverrun c.cycle (c.skipped + missed.length) missed.length }) →
    (s.plan.stage = .opening →
      (∀ i : Sid, (s.stream i).all placeRight = true) →
      ∃ missed : List Sid, missed.Nodup ∧ s.closeRecord = counted missed ∧
        ∀ i : Sid, i ∈ missed ↔ ∃ r period phase, s.stream i = some r ∧ r.state = .running ∧
          r.defn.kind = .cyclic period phase ∧ r.holdsLoad = true ∧ c.cycle.toNat % period = phase) ∧
    (s.plan.stage = .cyclic →
      s.closeRecord = counted ((c.dueList.drop (c.duePlace + 1)).filter fun i =>
        decide (i ∉ c.renewed) && (s.stream i).any fun r => r.state == .running)) ∧
    (s.plan.stage ≠ .opening → s.plan.stage ≠ .cyclic → s.closeRecord = s))

/-- LISTEN_END and TAKEOVER, where no stuck line comes before the boundary: the boundary that brings the count to its limit
takes the part to LEADING with MASTERSHIP, opens the cycle, sets resync pending on every stream, and answers a waiting
LINK_UP. The streams ARMED at the new cycle run; that their reports come before MASTERSHIP, and their order, is the model's
choice (log entries 5 and 32), and so is that a takeover keeps the silence limit, the handover hold too (log entry 40). That
the row lets time pass to its instant is the model's choice (log entry 2). -/
def Obligations.BoundaryLeads : Prop :=
  (∀ (b : Nat) (s : State), s.inReset = false → s.master.state = .listening →
    s.master.listenCount = some s.master.timeout → 1 ≤ s.master.cycleLength →
    s.time.offset + b = s.master.cycleLength → NoStuck b s →
    ∃ t, exec .listenEnd s = .next t ∧ exec .cycleBoundary s = .next t ∧ LeadsAtBoundary b .linkUpLead s t ∧
      t.master = { s.master with
        state := .leading, lastCause := some .linkUpLead, listenCount := none, listenRequest := none } ∧
      t.port = (match s.master.listenRequest with
        | some (some tag) =>
          s.port.makeReady tag [0x00, 0x02, 0x02, (s.master.lastPartner.map (·.code)).getD 0]
        | some none | none => s.port)) ∧
  (∀ (b : Nat) (s : State), s.inReset = false → s.master.state = .following →
    s.master.silenceCount + 1 = s.master.silenceLimit → 1 ≤ s.master.cycleLength →
    s.time.offset + b = s.master.cycleLength → NoStuck b s →
    ∃ t, exec .takeover s = .next t ∧ exec .cycleBoundary s = .next t ∧ LeadsAtBoundary b .takeover s t ∧
      t.master = { s.master with state := .leading, lastCause := some .takeover, silenceCount := 0 } ∧
      t.port = s.port)

/-- A well-formed beacon carries its cycle number in the low 12 bits of two characters, whatever the top 4 are.
BEACON_RECEIVED outside LEADING, at the moment u at which the beacon has been heard whole: a partner beacon makes a listener
follow and answers its LINK_UP, realigns a follower, and sets the last partner in OFFLINE and FAULTED; the time unit takes
its cycle number and the offset of 6 characters. The next state is the realignment of RealignmentPasses, after the change of
MastershipChanged for a listener. A level among its characters that forms none (R77) takes a character time more, and the
offset is 6 characters there too (the model's choice, log entry 43). That the row holds the line for its character times, a
level's too, is the model's choice (log entries 2, 10 and 42), that the realignment comes after the change of mastership too
(log entry 14), and a window that has closed is settled first (log entry 19, DEDUCED). -/
def Obligations.PartnerBeaconHeard : Prop :=
  (∀ (id : UnitId) (hi lo : Byte),
    readBeacon ((0xE1 :: id.code :: hi :: lo :: u16 (crc16 [id.code, hi, lo]).toNat).map some) =
      some (id, (hi ++ lo).setWidth 12)) ∧
  ∀ (after : Nat) (times : List (Option Byte)) (errs : List Nat) (row : List LinkTime) (id : UnitId) (c : Cycle)
    (s v u : State), row = linkTimes times errs → rowSpan row = row.length → readBeacon (heardChars row) = some (id, c) →
    s.inReset = false → s.engine.hearing = false →
    v = (s.passTime after).closeWindow → v.ldrv = false → u = v.passBusy (row.length * s.master.rate.charMicros) →
    id ≠ u.master.unit → u.master.state ≠ .leading →
    ∃ t, exec (.beaconReceived after times errs) s = .next t ∧
      (u.master.state = .following →
        t = State.realign c { u with master := { u.master with
          lastPartner := some id, silenceCount := 0, silenceLimit := u.master.timeout } } ∧
        t.master = { u.master with
          lastPartner := some id, silenceCount := 0, silenceLimit := u.master.timeout } ∧ t.port = u.port ∧
        t.time = { cycle := c, offset := 6 * u.master.rate.charMicros, clock := u.time.clock }) ∧
      (u.master.state = .listening →
        t = (State.realign c (State.changeMastership .following .linkUpFollow { u with master := { u.master with
          lastPartner := some id, silenceCount := 0, silenceLimit := u.master.timeout, listenCount := none } })).settleListen
            [0x00, 0x03, 0x03, id.code] ∧
        t.master = { u.master with
          state := .following, lastCause := some .linkUpFollow, lastPartner := some id, silenceCount := 0
          silenceLimit := u.master.timeout, listenCount := none, listenRequest := none } ∧
        t.port = (match u.master.listenRequest with
          | some (some tag) => u.port.makeReady tag [0x00, 0x03, 0x03, id.code]
          | some none | none => u.port) ∧
        t.time = { cycle := c, offset := 6 * u.master.rate.charMicros, clock := u.time.clock }) ∧
      (u.master.state = .offline ∨ u.master.state = .faulted →
        t = { u with master := { u.master with lastPartner := some id } })

/-- A well-formed beacon (PartnerBeaconHeard) heard while LEADING, at the moment u at which it has been heard whole: unit 1
keeps the link and reports CLASH, and a transaction in its reply window is decided FORM; unit 2 yields, its waiting
HANDOVERs CANCELLED, by the change of MastershipChanged and the realignment of RealignmentPasses. A beacon of the part's own
id faults a part that listens, leads or follows, and changes nothing in OFFLINE and FAULTED. The time of the row's
characters, and of levels among them, is the model's choice (log entries 2, 10 and 42), that the realignment sets 6
characters there too (log entry 43), that the realignment comes after the change too (log entry 14), that a fault keeps the
silence count of a follower and the silence limit too (log entries 34 and 40), and so are the order of the HANDOVER replies
(log entry 39) and that the replies of waiting STOPs, which the change makes READY, come before them (log entry 37). The
LINK_UP reply of a fault is log entry 18, the TAGs of waiting STOPs log entry 21 (DEDUCED); a window that has closed is
settled first (log entry 19, DEDUCED). -/
def Obligations.BeaconWhileLeading : Prop :=
  ∀ (after : Nat) (times : List (Option Byte)) (errs : List Nat) (row : List LinkTime) (id : UnitId) (c : Cycle)
    (s v u : State), row = linkTimes times errs → rowSpan row = row.length → readBeacon (heardChars row) = some (id, c) →
    s.inReset = false → s.engine.hearing = false →
    v = (s.passTime after).closeWindow → v.ldrv = false → u = v.passBusy (row.length * s.master.rate.charMicros) →
    (u.master.state = .leading → u.master.unit = .one → id = .two →
      exec (.beaconReceived after times errs) s = .next
        { u with
          master := { u.master with lastPartner := some .two }
          reports := u.reports.offer (.clash c)
          engine := { u.engine with
            transaction := u.engine.transaction.map fun tx =>
              if tx.phase = .replyWindow ∨ tx.phase = .receiving then
                { tx with decided := some .form, phase := .closing, begun := false }
              else tx } }) ∧
    (u.master.state = .leading → u.master.unit = .two → id = .one →
      ∃ t, exec (.beaconReceived after times errs) s = .next t ∧
        t = (State.realign c (State.changeMastership .following .yield { u with master := { u.master with
          lastPartner := some .one, silenceCount := 0, silenceLimit := u.master.timeout, listenCount := none }
          })).settleHandovers [0x02, 0x03] ∧
        t.master = { u.master with
          state := .following, lastCause := some .yield, lastPartner := some .one, silenceCount := 0
          silenceLimit := u.master.timeout, listenCount := none, handovers := [], armed := false } ∧
        t.engine.transaction = none ∧ t.ldrv = false ∧ t.plan.stage = .standby ∧ t.plan.record = none ∧
        t.time = { cycle := c, offset := 6 * u.master.rate.charMicros, clock := u.time.clock }) ∧
    (u.master.state = .offline ∨ u.master.state = .faulted → id = u.master.unit →
      exec (.beaconReceived after times errs) s = .next u) ∧
    (u.master.state = .listening ∨ u.master.state = .leading ∨ u.master.state = .following → LinkLaw u →
      id = u.master.unit →
      ∃ t, exec (.beaconReceived after times errs) s = .next t ∧ t = u.faulted .idClash ∧
        t.master = { u.master with
          state := .faulted, lastCause := some .idClash, listenCount := none, listenRequest := none, handovers := []
          armed := false } ∧
        t.engine.transaction = none ∧ t.ldrv = false ∧ t.plan.stage = .standby ∧ t.plan.record = none ∧
        t.time = u.time ∧
        (∀ (i : Sid) (r : StreamRecord), u.stream i = some r → u.inFlight i = false →
          t.stream i = some
            (if r.state = .armed ∨ r.state = .running ∨ r.state = .paused then
              { r with state := .halted, condition := some .linkLost, trigger := none }
            else r)))

/-- A realignment to a beacon of cycle c moves the point to (c, 6 characters). Backward, or to the same point, it passes
nothing. Forward it starts the streams ARMED at the cycles whose starts it passes, in ascending id, and each mark line takes
its passed entries and its passed pulse end: the last passed entry decides the levels, a step leaves no pulse, a pulse runs
its full width from the new point; without a passed entry a passed pulse end returns the line to its resting level. That
entries fire from the head, where backward realignments let a later entry's point be met before the head's, is the model's
choice (log entry 41), and so is the order of entries that one boundary would reach (log entry 44); that the offset is 6
characters, however long the beacon was heard, is one too (log entry 43). -/
def Obligations.RealignmentPasses : Prop :=
  ∀ (c : Cycle) (d : Nat) (s t : State) (old new : Point), t = s.realign c →
    old = { cycle := s.time.cycle, offset := s.time.offset } →
    new = { cycle := c, offset := 6 * s.master.rate.charMicros } → d = (c - s.time.cycle).toNat →
    t.time = { s.time with cycle := c, offset := 6 * s.master.rate.charMicros } ∧
    (¬((1 ≤ d ∧ d ≤ 2048) ∨ (d = 0 ∧ old.offset < new.offset)) → t = { s with time := t.time }) ∧
    ((1 ≤ d ∧ d ≤ 2048) ∨ (d = 0 ∧ old.offset < new.offset) →
      t = { s with time := t.time, streams := t.streams, reports := t.reports, marks := t.marks } ∧
      (∀ (i : Sid) (r : StreamRecord), s.stream i = some r →
        ((∃ a : Cycle, r.trigger = some (.atCycle a) ∧ 1 ≤ (a - s.time.cycle).toNat ∧ (a - s.time.cycle).toNat ≤ d) →
          r.state = .armed → t.stream i = some { r with state := .running, trigger := none }) ∧
        ((r.state ≠ .armed ∨
            ¬∃ a : Cycle, r.trigger = some (.atCycle a) ∧ 1 ≤ (a - s.time.cycle).toNat ∧ (a - s.time.cycle).toNat ≤ d) →
          t.stream i = some r)) ∧
      t.reports = allSids.foldl (fun q i =>
        match s.stream i, t.stream i with
        | some r, some r' =>
          if r = r' then q
          else if r.defn.endMode = .refill ∧ r.residue = 0 then
            (q.offer (.streamStarted i)).offer (.refillNeeded i)
          else q.offer (.streamStarted i)
        | _, _ => q) s.reports ∧
      (∀ (k : Line) (pre post : List MarkEntry), (s.marks[k.val]).schedule = pre ++ post →
        (∀ e ∈ pre, Passed old new e.point) → (∀ e ∈ post.head?, ¬Passed old new e.point) →
        (t.marks[k.val]).schedule = post ∧
        (pre = [] → (∀ p, (s.marks[k.val]).pulseEnd = some p → ¬Passed old new p) → t.marks[k.val] = s.marks[k.val]) ∧
        (pre = [] → ∀ p, (s.marks[k.val]).pulseEnd = some p → Passed old new p →
          t.marks[k.val] = { s.marks[k.val] with current := (s.marks[k.val]).resting, pulseEnd := none }) ∧
        (∀ (l : List MarkEntry) (e : MarkEntry), pre = l ++ [e] → 250 ≤ s.master.cycleLength → e.width ≤ 65535 →
          (t.marks[k.val]).current = e.level ∧
          (t.marks[k.val]).resting = (((l ++ [e]).filter fun x => x.width == 0).getLast?.map (·.level)).getD
            (s.marks[k.val]).resting ∧
          (t.marks[k.val]).pulseEnd =
            if e.width = 0 then none
            else some {
              cycle := c + BitVec.ofNat 12 ((new.offset + e.width) / s.master.cycleLength)
              offset := (new.offset + e.width) % s.master.cycleLength })))

/-- STUCK_LINE in LISTENING, LEADING or FOLLOWING takes the part to FAULTED: no transaction, no driven line, waiting
requests settled, and no stream ARMED, RUNNING or PAUSED. Where no boundary comes while the line is held, and the busy count
stands as every step keeps it (IdleLaw, R103), the next state is what a level that holds it so long leaves (State.holdLevel,
FrameIgnored), and where no reply window ends meanwhile either it is the fault of MastershipChanged at the instant the count
is reached: every other field of the mastership record stays, and each ARMED, RUNNING or PAUSED stream that is not in flight
is HALTED with LINK_LOST and every other one not in flight stays as it is. That the row holds the line until the count is
reached, and by a level that forms no character, so that a reply window within it ends SILENT, is the model's choice (log
entries 2 and 42), and so is that a follower's silence count and the silence limit are among the fields that stay (log
entries 34 and 40); so are the order of the HANDOVER replies and of the STOPs' replies before them (log entries 37 and 39).
The LINK_UP reply is log entry 18, the TAGs of waiting STOPs log entry 21 (DEDUCED). -/
def Obligations.StuckLineFaults : Prop :=
  ∀ s : State, s.inReset = false → TimeLaw s → LinkLaw s →
    (s.master.state = .listening ∨ s.master.state = .leading ∨ s.master.state = .following) →
    ∃ t, exec .stuckLine s = .next t ∧ t.master.state = .faulted ∧ t.master.lastCause = some .stuckLine ∧
      t.master.listenCount = none ∧ t.master.listenRequest = none ∧ t.master.handovers = [] ∧ t.master.armed = false ∧
      t.engine.transaction = none ∧ t.ldrv = false ∧ t.plan.stage = .standby ∧ t.plan.record = none ∧
      (∀ i : Sid, (t.stream i).all (fun r => r.state == .idle || r.state == .halted || r.state == .done) = true) ∧
      (IdleLaw s → s.time.offset + (600 * s.master.rate.charMicros - s.engine.busy) < s.master.cycleLength →
        t = s.holdLevel (600 * s.master.rate.charMicros - s.engine.busy) ∧
        t.master = { s.master with
          state := .faulted, lastCause := some .stuckLine, listenCount := none, listenRequest := none, handovers := []
          armed := false } ∧
        t.time = { s.time with
          offset := s.time.offset + (600 * s.master.rate.charMicros - s.engine.busy)
          clock := s.time.clock + (600 * s.master.rate.charMicros - s.engine.busy) } ∧
        ((∀ tx, s.master.state = .leading → s.engine.transaction = some tx → tx.phase = .replyWindow →
            tx.begun = false → s.time.clock + (600 * s.master.rate.charMicros - s.engine.busy) ≤
              tx.windowFrom + 4 * s.master.rate.charMicros) →
          t = State.setHearing s.engine.hearing (State.faulted .stuckLine
            ((s.setHearing true).elapse (600 * s.master.rate.charMicros - s.engine.busy))) ∧
          ∀ (i : Sid) (r : StreamRecord), s.stream i = some r → s.inFlight i = false →
            t.stream i = some
              (if r.state = .armed ∨ r.state = .running ∨ r.state = .paused then
                { r with state := .halted, condition := some .linkLost, trigger := none }
              else r)))

/-! ## The cycle plan -/

/-- BEACON_GRANT in OPENING with no transaction in flight waits, to the moment u, until the line has been idle for 2
characters; then the beacon of the record's cycle is sent, and the cycle is late when it starts after position 8; an armed
handover takes effect in its place and answers every HANDOVER, in the order in which they joined (the model's choice, log
entry 39); nothing else changes. Where the wait runs past a boundary or a stuck line, the record of the cycle at u decides,
and there is no beacon without one. What LTXD holds is log entry 24, the count in CYCLE_OVERRUN log entry 13 (DEDUCED). That
the row lets time pass to its instant is the model's choice (log entry 2). -/
def Obligations.BeaconGranted : Prop :=
  ∀ (c0 : CycleRecord) (s u : State), s.inReset = false → s.master.state = .leading → s.plan.stage = .opening →
    s.plan.record = some c0 → c0.beaconStart = none → s.engine.transaction = none → s.engine.hearing = false →
    u = s.passTime s.untilIdle →
    2 * s.master.rate.charMicros ≤ u.engine.quiet ∧ u.ldrv = false ∧
    (u.master.state ≠ .leading → exec .beaconGrant s = .next u) ∧
    (∀ c : CycleRecord, u.master.state = .leading → u.plan.stage = .opening → u.plan.record = some c →
      ∀ at0 : Nat, at0 = u.time.offset / s.master.rate.charMicros →
      (u.master.armed = false →
        exec .beaconGrant s = .next
          { u with
            plan := { u.plan with record := some { c with
              beaconStart := some at0, late := c.late || decide (8 < at0) } }
            reports := if 8 < at0 then u.reports.offerOverrun c.cycle c.skipped 0 else u.reports
            engine := { u.engine with
              ltxd := beaconFrame u.master.unit c.cycle, quiet := 0
              drivenUntil := u.time.clock + 6 * s.master.rate.charMicros } }) ∧
      (u.master.armed = true → u.engine.transaction = none →
        exec .beaconGrant s = .next
          { u with
            master := { u.master with
              state := .following, lastCause := some .handover, silenceCount := 0, silenceLimit := 2 * u.master.timeout
              handovers := [], armed := false }
            port := u.master.handovers.foldl (fun p w =>
              match w with
              | some tag => p.makeReady tag [0x00, 0x03]
              | none => p) u.port
            reports := u.reports.offer (.mastership .following .handover u.master.lastPartner)
            plan := { u.plan with stage := .standby, record := none }
            engine := { u.engine with ltxd := [], busy := 0 } }))

/-- CYCLIC_PHASE_START, at the moment u 8 characters after the beacon's start, builds the due list: the CYCLIC streams that
hold load and are due in the cycle, by ascending period and then ascending stream id. Periods and phases are those LoadLaw
keeps. The plan serves it in that order: a consideration that gives a grant holds the due place, any other advances it, and
past the end of the list the demand phase begins. After a transaction's end the place behind it comes next. The record of
renewed streams is the model's reading (log entry 20, DEDUCED). That the row lets time pass to its instant is the model's
choice (log entry 2). -/
def Obligations.DueListBuilt : Prop :=
  (∀ (c0 c : CycleRecord) (s u : State), s.inReset = false → s.master.state = .leading → s.plan.stage = .opening →
    s.plan.record = some c0 → c0.beaconStart.isSome = true →
    u = s.passTime (s.engine.drivenUntil + 2 * s.master.rate.charMicros - s.time.clock) →
    u.master.state = .leading → u.plan.stage = .opening → u.plan.record = some c → c.beaconStart.isSome = true →
    (∀ i : Sid, (u.stream i).all placeRight = true) →
    ∃ t due, exec .cyclicPhaseStart s = .next t ∧ t.plan.record.map (·.dueList) = some due ∧
      t = State.serveDue due { u with plan := { u.plan with
        stage := .cyclic, record := some { c with dueList := due, duePlace := 0, renewed := [] } } } ∧
      t.plan.stage ≠ .opening ∧ t.plan.stage ≠ .standby ∧
      (∀ i : Sid, i ∈ due ↔ ∃ r period phase, u.stream i = some r ∧ r.defn.kind = .cyclic period phase ∧
        r.holdsLoad = true ∧ c.cycle.toNat % period = phase) ∧
      due.Pairwise (fun i j => ∀ p q a b r r', u.stream i = some r → u.stream j = some r' →
        r.defn.kind = .cyclic p a → r'.defn.kind = .cyclic q b → p < q ∨ (p = q ∧ i < j))) ∧
  (∀ s : State, State.serveDue [] s =
    State.demandTurn { s with plan := { s.plan with
      stage := .demand, record := s.plan.record.map fun c => { c with round := 0 } } }) ∧
  (∀ (i : Sid) (rest : List Sid) (s t : State),
    (s.considerDue i = (t, .granted) → State.serveDue (i :: rest) s = t) ∧
    (s.considerDue i = (t, .passed) →
      State.serveDue (i :: rest) s = State.serveDue rest { t with plan := { t.plan with
        record := t.plan.record.map fun c => { c with duePlace := c.duePlace + 1 } } })) ∧
  (∀ (c : CycleRecord) (pre rest : List Sid) (i : Sid) (s : State), s.plan.stage = .cyclic → s.plan.record = some c →
    c.dueList = pre ++ i :: rest → c.duePlace = pre.length →
    s.planContinues = State.serveDue rest { s with plan := { s.plan with
      record := some { c with duePlace := c.duePlace + 1 } } }) ∧
  (∀ (c : CycleRecord) (s : State), s.plan.stage = .demand → s.plan.record = some c →
    s.planContinues = s.demandTurn) ∧
  (∀ s : State, s.plan.stage ≠ .cyclic → s.plan.stage ≠ .demand → s.planContinues = s)

/-- The size of the next segment: the base size by limit or cadence, the size by end mode, and segment memory's answer: at rest,
short of data, or the size, which is the held size while one is set. -/
def Obligations.SegmentSized : Prop :=
  ∀ (r : StreamRecord) (c : Chain) (s0 size : Nat),
    s0 = (match r.defn.cadence with
      | none => r.defn.limit
      | some k => if k.denom ≤ r.cadenceAcc + k.numer then k.whole + 1 else k.whole) →
    size = (match r.defn.endMode with
      | .counted => if r.closingPending then 0 else min s0 r.residue
      | .openEnd =>
        if r.defn.direction = .outbound ∧ r.defn.kind = .demand then min s0 c.bytes.length else s0
      | .refill => min s0 r.residue) →
    r.baseSize = s0 ∧ r.nextSize c = size ∧
    r.question c =
      (if r.defn.endMode = .refill ∧ r.residue = 0 ∧ c.heldSize = none then .atRest
      else if r.defn.direction = .inbound then .size size
      else
        match c.heldSize with
        | some n => .size n
        | none =>
          if c.bytes.length < size ∨ (r.defn.endMode = .openEnd ∧ r.defn.kind = .demand ∧ c.bytes = []) then .shortOfData
          else .size size)

/-- The grants. A RUNNING due stream that was not renewed since the list was built is skipped when 20 + L does not fit before
the end guard, at rest or short of data passed over (STARVED when short), and else granted the link, an INBOUND one only with
room for its reservation (NO_ROOM without). A DEMAND candidate likewise by the size of its segment, without STARVED, and the
phase ends when it does not fit. A grant makes the transaction record, holds an OUTBOUND size and reserves an INBOUND one. The
demand search takes one turn of 16 ids from the one after the pointer. That the record holds the grant's cycle number until
its header begins is the model's choice (log entry 33); the record of renewed streams and the count in CYCLE_OVERRUN are its
reading (log entries 13 and 20, DEDUCED). -/
def Obligations.GrantsMade : Prop :=
  (∀ (i : Sid) (r : StreamRecord) (n : Nat) (s : State),
    s.grant i r n = { s with
      engine := { s.engine with transaction := some {
        stream := i, direction := r.defn.direction, node := r.defn.node, port := r.defn.port, size := n
        baseSize := r.baseSize, bitSent := r.seqBit, resync := r.resyncPending, headerCycle := s.time.cycle
        received := none, payload := [], phase := .header, begun := false, windowFrom := 0, decided := none } }
      memory := { s.memory with
        chains :=
          if r.defn.direction = .outbound then
            s.memory.chains.set i.val { s.memory.chains[i.val] with heldSize := some n }
          else s.memory.chains } } ∧
    s.reserve i n = { s with memory := { s.memory with
      free := s.memory.free - (n + 63) / 64, reservation := some { stream := i, blocks := (n + 63) / 64 } } }) ∧
  (∀ (i : Sid) (s : State),
    ((∀ r, s.stream i = some r → r.state = .running → ∃ c, s.plan.record = some c ∧ i ∈ c.renewed) →
      s.considerDue i = (s, .passed)) ∧
    (∀ (c : CycleRecord) (r : StreamRecord), s.plan.record = some c → i ∉ c.renewed → s.stream i = some r →
      r.state = .running →
      (s.master.c - 8 < s.time.offset / s.master.rate.charMicros + (20 + r.defn.limit) →
        s.considerDue i =
          ({ s with
            plan := { s.plan with record := some { c with late := true, skipped := c.skipped + 1 } }
            reports := s.reports.offerOverrun c.cycle (c.skipped + 1) 1 }, .passed)) ∧
      (s.time.offset / s.master.rate.charMicros + (20 + r.defn.limit) ≤ s.master.c - 8 →
        s.considerDue i =
          (match r.question (s.chain i) with
          | .atRest => (s, .passed)
          | .shortOfData => (s.offer (.starved i), .passed)
          | .size n =>
            if r.defn.direction = .outbound then (s.grant i r n, .granted)
            else if (s.chain i).blocks + (n + 63) / 64 ≤ r.defn.quota ∧ (n + 63) / 64 ≤ s.memory.free then
              ((s.reserve i n).grant i r n, .granted)
            else (s.offer (.noRoom i), .passed))))) ∧
  (∀ (i : Sid) (s : State),
    ((∀ r, s.stream i = some r → r.defn.kind = .demand → r.state = .running →
        ∃ c, s.plan.record = some c ∧ i ∈ c.waited) → s.considerDemand i = (s, .passed)) ∧
    (∀ (c : CycleRecord) (r : StreamRecord), s.plan.record = some c → i ∉ c.waited → s.stream i = some r →
      r.defn.kind = .demand → r.state = .running →
      s.considerDemand i =
        (match r.question (s.chain i) with
        | .atRest | .shortOfData => (s, .passed)
        | .size n =>
          if s.master.c - 8 < s.time.offset / s.master.rate.charMicros + (20 + n) then (s, .ended)
          else if r.defn.direction = .outbound then (s.grant i r n, .granted)
          else if (s.chain i).blocks + (n + 63) / 64 ≤ r.defn.quota ∧ (n + 63) / 64 ≤ s.memory.free then
            ((s.reserve i n).grant i r n, .granted)
          else (s.offer (.noRoom i), .passed)))) ∧
  (∀ s : State, s.demandTurn = State.searchDemand 16 (s.plan.pointer + 1) s) ∧
  (∀ (k : Nat) (i : Sid) (s t : State),
    State.searchDemand 0 i s = { s with plan := { s.plan with stage := .closed } } ∧
    (s.considerDemand i = (t, .granted) →
      State.searchDemand (k + 1) i s = { t with plan := { t.plan with
        pointer := i, record := t.plan.record.map fun c => { c with round := 0 } } }) ∧
    (s.considerDemand i = (t, .ended) →
      State.searchDemand (k + 1) i s = { t with plan := { t.plan with stage := .closed } }) ∧
    (s.considerDemand i = (t, .passed) →
      State.searchDemand (k + 1) i s = State.searchDemand k (i + 1) { t with plan := { t.plan with
        record := t.plan.record.map fun c => { c with round := c.round + 1 } } }))

/-! ## The stream table -/

/-- DEFINE of a FREE record writes an accepted definition and moves it to IDLE; an id above 15 is refused BAD_FORM 1, a
record that is not FREE BAD_STATE, and fields that R3 does not accept BAD_FORM with the index of the first field that fails.
A FREE stream without a record, absent counts held as 0 and the note that the due list passes the stream over are log
entries 8 and 20 (DEDUCED) and 25 (the model's choice). -/
def Obligations.DefineWrites : Prop :=
  ∀ (retry : Bool) (tag : Byte) (f : DefineFields) (s : State), Entered .define retry tag s →
    (15 < f.sid.toNat → exec (.define retry tag f) s = .next (replied .define tag [0x20, 1] s)) ∧
    (∀ i : Sid, f.sid.toNat = i.val →
      ((s.stream i).isSome = true → exec (.define retry tag f) s = .next (replied .define tag [0x21] s)) ∧
      (s.stream i = none → ∀ index : Byte, firstRefused f = some index →
        exec (.define retry tag f) s = .next (replied .define tag [0x20, index] s)) ∧
      (s.stream i = none → DefineAccepted f → firstRefused f = none ∧
        exec (.define retry tag f) s = .next
          (replied .define tag [0x00]
            { s with
              streams := s.streams.set i.val (some {
                defn := {
                  node := f.node.toNat, port := f.port.toNat
                  direction := if f.direction = 1 then .outbound else .inbound
                  kind := if f.kind = 1 then .cyclic f.period.toNat f.phase.toNat else .demand
                  limit := f.limit.toNat
                  cadence :=
                    if f.cadenceW = 0 then none else some ⟨f.cadenceW.toNat, f.cadenceQ.toNat, f.cadenceP.toNat⟩
                  endMode := if f.endMode = 1 then .counted else if f.endMode = 2 then .openEnd else .refill
                  closeEmpty := f.closeEmpty == 1
                  retryBudget := if f.retryBudget = 0 then 3 else f.retryBudget.toNat
                  markCount := f.markCount.toNat, autopause := f.autopause == 1, quota := f.quota.toNat }
                state := .idle, total := 0, residue := 0, trigger := none, seqBit := false, resyncPending := true
                closingPending := false, stopPending := false, takenCount := 0, failures := 0, lastFailure := none
                accepted := 0, condition := none, holdsLoad := false, cadenceAcc := 0, stopTags := [] })
              memory := { s.memory with
                chains := s.memory.chains.set i.val { bytes := [], headOffset := 0, heldSize := none, records := [] } }
              plan := { s.plan with record := s.plan.record.map fun c => { c with renewed := i :: c.renewed } } })))

/-- START. In ARMED, RUNNING, PAUSED and HALTED it is refused BAD_STATE; then the checks in their order: trigger kind,
trigger value, the total of a COUNTED INBOUND stream, a cycle that is not ahead, the load. A START that passes starts the
run fields, adds a CYCLIC stream's cost to the load map, clears the held size, and the stream runs or is armed; the due list
of the current cycle passes it over (log entry 20, DEDUCED). Nothing else changes. That an absent total, residue or
accumulator is held as 0 is the model's choice (log entry 25). -/
def Obligations.StartRuns : Prop :=
  ∀ (retry : Bool) (tag sid triggerKind : Byte) (value : BitVec 16) (total : BitVec 32) (i : Sid) (r : StreamRecord)
    (s : State), Entered .start retry tag s → sid.toNat = i.val → s.stream i = some r →
    (r.state = .armed ∨ r.state = .running ∨ r.state = .paused ∨ r.state = .halted →
      exec (.start retry tag sid triggerKind value total) s = .next (replied .start tag [0x21] s)) ∧
    (r.state = .idle ∨ r.state = .done → ∀ refusal : List Byte,
      (if triggerKind = 0 ∨ 3 < triggerKind.toNat then refusal = [0x20, 2]
      else if (triggerKind = 2 ∧ 4095 < value.toNat) ∨ (triggerKind = 3 ∧ 3 < value.toNat) then refusal = [0x20, 3]
      else if r.defn.endMode = .counted ∧ r.defn.direction = .inbound ∧ total = 0 then refusal = [0x20, 4]
      else if triggerKind = 2 ∧ ((value.setWidth 12 - s.time.cycle).toNat = 0 ∨
        2048 < (value.setWidth 12 - s.time.cycle).toNat) then refusal = [0x25]
      else False) →
      exec (.start retry tag sid triggerKind value total) s = .next (replied .start tag refusal s)) ∧
    ((r.state = .idle ∨ r.state = .done) →
    (triggerKind = 1 ∨ (triggerKind = 2 ∧ value.toNat ≤ 4095 ∧ isAhead s.time.cycle (value.setWidth 12) = true) ∨
      (triggerKind = 3 ∧ value.toNat ≤ 3)) →
    (r.defn.endMode = .counted → r.defn.direction = .inbound → total ≠ 0) →
    ((∀ period phase, r.defn.kind = .cyclic period phase →
        ∀ x : Fin 256, x.val % period = phase → s.plan.loadMap[x] + (20 + r.defn.limit) ≤ s.master.b) →
      exec (.start retry tag sid triggerKind value total) s = .next
        (replied .start tag [0x00]
          { s with
            streams := s.streams.set i.val (some { r with
              state := if triggerKind = 1 then .running else .armed
              trigger :=
                if triggerKind = 1 then none
                else if triggerKind = 2 then some (.atCycle (value.setWidth 12))
                else some (.onCapture (Fin.ofNat 4 value.toNat))
              total := if r.defn.endMode = .openEnd then 0 else total.toNat
              residue := if r.defn.endMode = .openEnd then 0 else total.toNat
              seqBit := false, resyncPending := true
              closingPending := r.defn.endMode == .counted && r.defn.direction == .outbound && total == 0
              stopPending := false, takenCount := 0, failures := 0, lastFailure := none, accepted := 0
              condition := none, holdsLoad := !r.defn.isDemand, cadenceAcc := 0 })
            memory := { s.memory with
              chains := s.memory.chains.set i.val { s.memory.chains[i.val] with heldSize := none } }
            plan := { s.plan with
              loadMap := Vector.ofFn fun x : Fin 256 =>
                match r.defn.kind with
                | .cyclic period phase =>
                  if x.val % period = phase then s.plan.loadMap[x] + (20 + r.defn.limit) else s.plan.loadMap[x]
                | .demand => s.plan.loadMap[x]
              record := s.plan.record.map fun c => { c with renewed := i :: c.renewed } }
            reports :=
              if triggerKind = 1 ∧ r.defn.endMode = .refill ∧ total = 0 then s.reports.offer (.refillNeeded i)
              else s.reports })) ∧
    (∀ (period phase : Nat) (x : Fin 256), r.defn.kind = .cyclic period phase → x.val % period = phase →
      s.master.b < s.plan.loadMap[x] + (20 + r.defn.limit) →
      (∀ y : Fin 256, y < x → y.val % period = phase → s.plan.loadMap[y] + (20 + r.defn.limit) ≤ s.master.b) →
      exec (.start retry tag sid triggerKind value total) s = .next
        (replied .start tag ([0x24] ++ u8 x.val ++ u16 s.plan.loadMap[x]) s)))

/-- STOP: BAD_STATE in IDLE; ARMED returns to IDLE without its load, and nothing else changes; RUNNING and PAUSED halt with
STOPPED, or wait while their transaction is in flight; HALTED and DONE answer ENDED. The waiting STOPs of a stream, resolved
after an outcome or a change of mastership was applied: a stream that it has ended answers ENDED with its condition to each,
any other halts with STOPPED and answers DONE to each; that they are answered in the order in which they came is the model's
choice (log entry 39), and where they wait its reading (log entry 21, DEDUCED). -/
def Obligations.StopResolved : Prop :=
  (∀ (retry : Bool) (tag sid : Byte) (i : Sid) (r : StreamRecord) (s : State), Entered .stop retry tag s →
    sid.toNat = i.val → s.stream i = some r →
    (r.state = .idle → exec (.stop retry tag sid) s = .next (replied .stop tag [0x21] s)) ∧
    (r.state = .armed → r.defn.isDemand = true →
      exec (.stop retry tag sid) s = .next
        (replied .stop tag [0x00] (s.setStream i (some { r with state := .idle, trigger := none })))) ∧
    (r.state = .armed → ∀ period phase, r.defn.kind = .cyclic period phase →
      exec (.stop retry tag sid) s = .next
        (replied .stop tag [0x00]
          { s with
            streams := s.streams.set i.val (some { r with state := .idle, trigger := none, holdsLoad := false })
            plan := { s.plan with loadMap := Vector.ofFn fun x : Fin 256 =>
              if r.holdsLoad = true ∧ x.val % period = phase then s.plan.loadMap[x] - (20 + r.defn.limit)
              else s.plan.loadMap[x] } })) ∧
    (r.state = .running ∨ r.state = .paused → s.inFlight i = false →
      exec (.stop retry tag sid) s = .next
        (replied .stop tag [0x00]
          ((s.setStream i (some { r with state := .halted, condition := some .stopped })).offer
            (.streamEnded i .halted (some .stopped) r.lastFailure r.residue r.accepted)))) ∧
    (r.state = .running ∨ r.state = .paused → s.inFlight i = true →
      exec (.stop retry tag sid) s = .next
        (waiting .stop tag
          (s.setStream i (some { r with stopPending := true, stopTags := r.stopTags ++ [tag] })))) ∧
    (r.state = .halted ∨ r.state = .done → ∀ c, r.condition = some c →
      exec (.stop retry tag sid) s = .next (replied .stop tag [0x01, c.code] s))) ∧
  (∀ (i : Sid) (s : State),
    ((s.stream i).all (fun r => !r.stopPending) = true → s.resolveStop i = s) ∧
    (∀ r, s.stream i = some r → r.stopPending = true →
      (r.state = .halted ∨ r.state = .done → ∀ c, r.condition = some c →
        s.resolveStop i = (s.setStream i (some { r with stopPending := false, stopTags := [] })).setPort
          (r.stopTags.foldl (fun p tag => p.makeReady tag [0x01, c.code]) s.port)) ∧
      (r.state = .running ∨ r.state = .paused →
        s.resolveStop i =
          ((s.setStream i (some { r with
            state := .halted, condition := some .stopped, stopPending := false, stopTags := [] })).offer
            (.streamEnded i .halted (some .stopped) r.lastFailure r.residue r.accepted)).setPort
          (r.stopTags.foldl (fun p tag => p.makeReady tag [0x00]) s.port))))

/-- UNPAUSE moves a PAUSED stream to RUNNING and changes nothing else; RESUME moves a HALTED stream to RUNNING, clears its failures
and condition, and queues REFILL_NEEDED for a REFILL stream at residue 0. Each is refused NO_STREAM in FREE and BAD_STATE in
every other state. -/
def Obligations.StreamMoves : Prop :=
  (∀ (retry : Bool) (tag sid : Byte) (i : Sid) (s : State), Entered .unpause retry tag s → sid.toNat = i.val →
    exec (.unpause retry tag sid) s = .next
      (match s.stream i with
        | none => replied .unpause tag [0x22] s
        | some r =>
          if r.state = .paused then
            replied .unpause tag [0x00] (s.setStream i (some { r with state := .running }))
          else replied .unpause tag [0x21] s)) ∧
  (∀ (retry : Bool) (tag sid : Byte) (i : Sid) (s : State), Entered .resume retry tag s → sid.toNat = i.val →
    exec (.resume retry tag sid) s = .next
      (match s.stream i with
        | none => replied .resume tag [0x22] s
        | some r =>
          if r.state = .halted then
            replied .resume tag [0x00]
              { s with
                streams := s.streams.set i.val
                  (some { r with state := .running, failures := 0, lastFailure := none, condition := none })
                reports :=
                  if r.defn.endMode = .refill ∧ r.residue = 0 then s.reports.offer (.refillNeeded i) else s.reports }
          else replied .resume tag [0x21] s))

/-- PAUSE moves a RUNNING stream to PAUSED, leaves a PAUSED one, and is refused BAD_STATE in every other state. REFILL adds n to
the total and the residue of a REFILL stream in RUNNING, PAUSED or HALTED; a stream of another end mode and a total above the
range are refused BAD_FORM 2, any other state BAD_STATE. -/
def Obligations.PauseAndRefill : Prop :=
  (∀ (retry : Bool) (tag sid : Byte) (i : Sid) (r : StreamRecord) (s : State), Entered .pause retry tag s →
    sid.toNat = i.val → s.stream i = some r →
    exec (.pause retry tag sid) s = .next
      (if r.state = .running then replied .pause tag [0x00] (s.setStream i (some { r with state := .paused }))
      else if r.state = .paused then replied .pause tag [0x00] s
      else replied .pause tag [0x21] s)) ∧
  (∀ (retry : Bool) (tag sid : Byte) (n : BitVec 32) (i : Sid) (r : StreamRecord) (s : State),
    Entered .refill retry tag s → sid.toNat = i.val → s.stream i = some r →
    exec (.refill retry tag sid n) s = .next
      (if r.defn.endMode ≠ .refill then replied .refill tag [0x20, 2] s
      else if r.state = .idle ∨ r.state = .armed ∨ r.state = .done then replied .refill tag [0x21] s
      else if 4294967295 < r.total + n.toNat then replied .refill tag [0x20, 2] s
      else replied .refill tag [0x00]
        (s.setStream i (some { r with total := r.total + n.toNat, residue := r.residue + n.toNat }))))

/-- RESET_STREAM returns a HALTED or DONE stream to IDLE, releases its load, clears its run fields and its held size, and
keeps its chain; it is refused NO_STREAM in FREE and BAD_STATE in every other state. That an absent count is held as 0 is
the model's choice (log entry 25). -/
def Obligations.ResetStreamClears : Prop :=
  ∀ (retry : Bool) (tag sid : Byte) (i : Sid) (s : State), Entered .resetStream retry tag s → sid.toNat = i.val →
    (s.stream i = none → exec (.resetStream retry tag sid) s = .next (replied .resetStream tag [0x22] s)) ∧
    (∀ r, s.stream i = some r → r.state ≠ .halted → r.state ≠ .done →
      exec (.resetStream retry tag sid) s = .next (replied .resetStream tag [0x21] s)) ∧
    (∀ r, s.stream i = some r → (r.state = .halted ∨ r.state = .done) →
      exec (.resetStream retry tag sid) s = .next
        (replied .resetStream tag [0x00]
          { s with
            streams := s.streams.set i.val (some { r with
              state := .idle, total := 0, residue := 0, trigger := none, seqBit := false, resyncPending := true
              closingPending := false, stopPending := false, takenCount := 0, failures := 0, lastFailure := none
              accepted := 0, condition := none, holdsLoad := false, cadenceAcc := 0 })
            memory := { s.memory with
              chains := s.memory.chains.set i.val { s.memory.chains[i.val] with heldSize := none } }
            plan := { s.plan with loadMap := Vector.ofFn fun x : Fin 256 =>
              match r.defn.kind with
              | .cyclic period phase =>
                if r.holdsLoad = true ∧ x.val % period = phase then s.plan.loadMap[x] - (20 + r.defn.limit)
                else s.plan.loadMap[x]
              | .demand => s.plan.loadMap[x] } }))

/-- RELEASE of an IDLE, HALTED or DONE stream returns its blocks to the free list, releases its load and leaves it FREE, and
the due list of the current cycle passes it over (log entry 20, DEDUCED); nothing else changes. FLUSH in IDLE, HALTED and
DONE empties the chain, returns its blocks and answers their number; the stream record and the report queue stay as they
are. In ARMED, RUNNING and PAUSED each is refused BAD_STATE. A FREE stream has no record (log entry 8, DEDUCED). -/
def Obligations.ChainsFreed : Prop :=
  (∀ (retry : Bool) (tag sid : Byte) (i : Sid) (r : StreamRecord) (s : State), Entered .release retry tag s →
    sid.toNat = i.val → s.stream i = some r →
    (r.state = .armed ∨ r.state = .running ∨ r.state = .paused →
      exec (.release retry tag sid) s = .next (replied .release tag [0x21] s)) ∧
    (r.state = .idle ∨ r.state = .halted ∨ r.state = .done →
      exec (.release retry tag sid) s = .next
        (replied .release tag [0x00]
          { s with
            streams := s.streams.set i.val none
            memory := { s.memory with
              chains := s.memory.chains.set i.val { bytes := [], headOffset := 0, heldSize := none, records := [] }
              free := s.memory.free + (s.chain i).blocks }
            plan := { s.plan with
              loadMap := Vector.ofFn fun x : Fin 256 =>
                match r.defn.kind with
                | .cyclic period phase =>
                  if r.holdsLoad = true ∧ x.val % period = phase then s.plan.loadMap[x] - (20 + r.defn.limit)
                  else s.plan.loadMap[x]
                | .demand => s.plan.loadMap[x]
              record := s.plan.record.map fun c => { c with renewed := i :: c.renewed } } }))) ∧
  (∀ (retry : Bool) (tag sid : Byte) (i : Sid) (r : StreamRecord) (s : State), Entered .flush retry tag s →
    sid.toNat = i.val → s.stream i = some r →
    exec (.flush retry tag sid) s = .next
      (if r.state = .idle ∨ r.state = .halted ∨ r.state = .done then
        replied .flush tag [0x00, BitVec.ofNat 8 (s.chain i).blocks]
          { s with memory := { s.memory with
            chains := s.memory.chains.set i.val { bytes := [], headOffset := 0, heldSize := none, records := [] }
            free := s.memory.free + (s.chain i).blocks } }
      else replied .flush tag [0x21] s))

/-! ## Segment memory and the status requests -/

/-- PUT appends its payload to an OUTBOUND chain and takes the added blocks; it is refused BAD_STATE on an INBOUND stream, BAD_FORM
2 above 240 bytes, NO_ROOM with limit QUOTA or POOL, all with nothing appended. -/
def Obligations.PutAppends : Prop :=
  ∀ (retry : Bool) (tag sid : Byte) (payload : List Byte) (i : Sid) (r : StreamRecord) (s : State),
    Entered .put retry tag s → sid.toNat = i.val → s.stream i = some r →
    ∀ b h before after : Nat, b = (s.chain i).bytes.length → h = (if b = 0 then 0 else (s.chain i).headOffset) →
      before = (h + b + 63) / 64 → after = (h + b + payload.length + 63) / 64 →
    exec (.put retry tag sid payload) s = .next
      (if r.defn.direction = .inbound then replied .put tag [0x21] s
      else if 240 < payload.length then replied .put tag [0x20, 2] s
      else if r.defn.quota < after then replied .put tag ([0x23, 1] ++ u16 b) s
      else if s.memory.free < after - before then replied .put tag ([0x23, 2] ++ u16 b) s
      else replied .put tag ([0x00] ++ u16 (b + payload.length))
        { s with memory := { s.memory with
          chains := s.memory.chains.set i.val
            { s.memory.chains[i.val] with bytes := (s.chain i).bytes ++ payload, headOffset := h }
          free := s.memory.free - (after - before) } })

/-- TAKE of an INBOUND stream answers the pieces delivered from the head of the chain into 240 bytes of space and the records left,
and returns the delivered blocks; an OUTBOUND stream is refused BAD_STATE. Delivery ends with less than 5 bytes of space or no
record, gives a head record that fits whole and goes on, or gives the part of it that fits. -/
def Obligations.TakeDelivers : Prop :=
  (∀ (retry : Bool) (tag sid : Byte) (i : Sid) (r : StreamRecord) (s : State), Entered .take retry tag s →
    sid.toNat = i.val → s.stream i = some r →
    (r.defn.direction = .outbound → exec (.take retry tag sid) s = .next (replied .take tag [0x21] s)) ∧
    (r.defn.direction = .inbound → ∀ (bytes : List Byte) (left : List SegmentRecord) (freed : Nat),
      takePieces 240 (s.chain i).records = (bytes, left, freed) →
      exec (.take retry tag sid) s = .next
        (replied .take tag ([0x00, BitVec.ofNat 8 left.length] ++ bytes)
          { s with memory := { s.memory with
            chains := s.memory.chains.set i.val { s.memory.chains[i.val] with records := left }
            free := s.memory.free + freed } }))) ∧
  (∀ space : Nat, takePieces space [] = ([], [], 0)) ∧
  (∀ (space : Nat) (x : SegmentRecord) (rest : List SegmentRecord),
    (space < 5 → takePieces space (x :: rest) = ([], x :: rest, 0)) ∧
    (∀ u : Nat, 5 ≤ space → x.data.length = x.delivered + u → u + 4 ≤ space →
      ∀ (bytes : List Byte) (left : List SegmentRecord) (freed : Nat),
      takePieces (space - 4 - u) rest = (bytes, left, freed) →
      takePieces space (x :: rest) =
        ([BitVec.ofNat 8 u, if x.delivered = 0 then 3 else 2] ++ u16 x.cycle.toNat ++ x.data.drop x.delivered ++ bytes,
          left, (x.data.length + 63) / 64 - x.delivered / 64 + freed)) ∧
    (∀ u : Nat, 5 ≤ space → x.data.length = x.delivered + u → space < u + 4 →
      takePieces space (x :: rest) =
        ([BitVec.ofNat 8 (space - 4), if x.delivered = 0 then 1 else 0] ++ u16 x.cycle.toNat ++
            (x.data.drop x.delivered).take (space - 4),
          { x with delivered := x.delivered + (space - 4) } :: rest,
          (x.delivered + (space - 4)) / 64 - x.delivered / 64)))

/-- The status requests answer DONE with the values as they stand and change nothing: LINK_STATUS, POOL_STATUS, LOAD_QUERY,
STREAM_STATUS, TIME_STATUS. LINK_STATUS counts a LINK_UP and HANDOVERs that an OPEN abandoned while the record holds them, and
sends the number of HANDOVERs modulo 256: the model's choices (log entries 35 and 36). -/
def Obligations.StatusRequestsAnswer : Prop :=
  (∀ (retry : Bool) (tag : Byte) (s : State), Entered .linkStatus retry tag s →
    exec (.linkStatus retry tag) s = .next
      (replied .linkStatus tag
        ([0x00, s.master.state.code, (s.master.lastCause.map (·.code)).getD 0, s.master.unit.code, s.master.rate.code] ++
          u16 s.master.cycleLength ++ u8 s.master.share ++ u8 s.master.timeout ++ u16 s.master.c ++ u16 s.master.b ++
          [(s.master.lastPartner.map (·.code)).getD 0] ++ u8 (s.master.listenCount.getD 255) ++
          u8 s.master.silenceCount ++ u8 s.master.silenceLimit ++ [if s.master.listenRequest.isSome then 1 else 0] ++
          u8 s.master.handovers.length ++ [if s.master.armed then 1 else 0] ++ u16 s.time.cycle.toNat) s)) ∧
  (∀ (retry : Bool) (tag : Byte) (s : State), Entered .poolStatus retry tag s →
    exec (.poolStatus retry tag) s = .next
      (replied .poolStatus tag
        ([0x00] ++ u16 s.memory.free ++ u8 (reservedBlocks s) ++
          u8 ((s.memory.reservation.map (·.stream.val)).getD 0) ++
          (List.finRange 16).map (fun i => BitVec.ofNat 8 (s.chain i).blocks)) s)) ∧
  (∀ (retry : Bool) (tag first count : Byte) (s : State), Entered .loadQuery retry tag s →
    exec (.loadQuery retry tag first count) s = .next
      (replied .loadQuery tag
        (if count = 0 ∨ 64 < count.toNat then [0x20, 2]
        else [0x00] ++ u16 s.master.c ++ u16 s.master.b ++
          (List.range count.toNat).flatMap fun k => u16 (s.plan.loadMap[(first.toNat + k) % 256]!)) s)) ∧
  (∀ (retry : Bool) (tag sid : Byte) (i : Sid) (s : State), Entered .streamStatus retry tag s → sid.toNat = i.val →
    (s.stream i = none → exec (.streamStatus retry tag sid) s = .next
      (replied .streamStatus tag ([0x00, sid] ++ List.replicate 47 0) s)) ∧
    (∀ r, s.stream i = some r → exec (.streamStatus retry tag sid) s = .next
      (replied .streamStatus tag
        ([0x00, sid, r.state.code] ++ u8 r.defn.node ++ u8 r.defn.port ++ [r.defn.direction.code] ++
          (match r.defn.kind with
            | .cyclic period phase => [1] ++ u16 r.defn.limit ++ u16 period ++ u8 phase
            | .demand => [2] ++ u16 r.defn.limit ++ [0, 0, 0]) ++
          (match r.defn.cadence with
            | some c => u8 c.whole ++ u8 c.denom ++ u8 c.numer
            | none => [0, 0, 0]) ++
          u8 r.cadenceAcc ++ [r.defn.endMode.code, if r.defn.closeEmpty then 1 else 0] ++ u8 r.defn.retryBudget ++
          u8 r.defn.markCount ++ [if r.defn.autopause then 1 else 0] ++ u8 r.defn.quota ++
          (match r.trigger with
            | none => [0, 0, 0]
            | some (.atCycle c) => [2] ++ u16 c.toNat
            | some (.onCapture k) => [3] ++ u16 k.val) ++
          u32 r.total ++ u32 r.residue ++
          [if r.seqBit then 1 else 0, if r.resyncPending then 1 else 0, if r.closingPending then 1 else 0,
            if r.stopPending then 1 else 0] ++
          u8 r.takenCount ++ u8 r.failures ++
          [(r.lastFailure.map (·.code)).getD 0, (r.condition.map (·.code)).getD 0] ++ u32 r.accepted.toNat ++
          [if r.holdsLoad then 1 else 0] ++ u16 (s.chain i).size ++ u8 (s.chain i).blocks) s))) ∧
  (∀ (retry : Bool) (tag : Byte) (s : State), Entered .timeStatus retry tag s →
    exec (.timeStatus retry tag) s = .next
      (replied .timeStatus tag
        ([0x00] ++ u16 s.time.cycle.toNat ++ u16 s.time.offset ++ u16 s.master.cycleLength ++
          (List.finRange 4).flatMap (fun k =>
            [(s.marks[k]).resting.code, (s.marks[k]).current.code, if (s.marks[k]).pulseEnd.isSome then 1 else 0] ++
              u16 (((s.marks[k]).pulseEnd.map (·.cycle.toNat)).getD 0) ++
              u16 (((s.marks[k]).pulseEnd.map (·.offset)).getD 0) ++ u8 (s.marks[k]).schedule.length) ++
          (List.finRange 4).flatMap (fun k =>
            [(s.capture.lines[k]).edges.code, BitVec.ofNat 8 (s.capture.lines[k]).holdOff,
              if (s.capture.lines[k]).lost then 1 else 0]) ++
          u8 s.capture.queue.length) s))

/-! ## Captures and marks -/

/-- SET_CAPTURE checks line and edges in that order, records edges and hold-off, and leaves the line's last qualifying moment, its
lost flag and the queue as they are. TAKE_CAPTURES removes the oldest records, at most the count, and answers them with the
number left; the lines stay as they are. -/
def Obligations.CaptureRequests : Prop :=
  (∀ (retry : Bool) (tag line edges holdOff : Byte) (s : State), Entered .setCapture retry tag s →
    (3 < line.toNat → exec (.setCapture retry tag line edges holdOff) s = .next (replied .setCapture tag [0x20, 1] s)) ∧
    (line.toNat ≤ 3 → 3 < edges.toNat →
      exec (.setCapture retry tag line edges holdOff) s = .next (replied .setCapture tag [0x20, 2] s)) ∧
    (∀ (k : Line) (e : Edges), line.toNat = k.val → edges = e.code →
      exec (.setCapture retry tag line edges holdOff) s = .next
        (replied .setCapture tag [0x00]
          { s with capture := { s.capture with
            lines := s.capture.lines.set k.val
              { s.capture.lines[k.val] with edges := e, holdOff := holdOff.toNat } } }))) ∧
  (∀ (retry : Bool) (tag count : Byte) (s : State), Entered .takeCaptures retry tag s →
    exec (.takeCaptures retry tag count) s = .next
      (replied .takeCaptures tag
        ([0x00, BitVec.ofNat 8 (s.capture.queue.length - count.toNat),
            BitVec.ofNat 8 (min count.toNat s.capture.queue.length)] ++
          (s.capture.queue.take count.toNat).flatMap fun r =>
            [BitVec.ofNat 8 r.line.val, if r.rise then 1 else 2, if r.lostBefore then 1 else 0] ++ u16 r.cycle.toNat ++
              u16 r.offset)
        { s with capture := { s.capture with queue := s.capture.queue.drop count.toNat } }))

/-- CAPTURE_EDGE: the edges of one sample, a RISE where the new level is high, are taken in ascending line number. A
qualifying edge is stamped with the current point and queued, with CAPTURED when the queue was empty, or dropped with the
lost flag set when the queue holds 32 records, and starts the streams armed on its line with their reports; an edge that
does not qualify changes nothing. That the row is a whole sample, and that a second row at one moment is the next sample, is
the model's choice (log entry 15), and so is the order of the reports of several streams (log entry 32). That time passes
before the sample is the model's choice too (log entry 2). -/
def Obligations.EdgeCaptured : Prop :=
  (∀ (after : Nat) (changed level : BitVec 4) (s v w : State), s.inReset = false → v = s.passTime after →
    w = v.passTime (if v.capture.sampledAt = some v.time.clock then 1 else 0) →
    exec (.captureEdge after changed level) s = .next
      (([0, 1, 2, 3] : List Line).foldl
        (fun (x : State) (k : Line) => if changed.getLsbD k.val then x.edge k (level.getLsbD k.val) else x)
        { w with capture := { w.capture with sampledAt := some w.time.clock } })) ∧
  (∀ (k : Line) (rise : Bool) (s : State) (l : CaptureLine), l = s.capture.lines[k.val] →
    (l.edges.selects rise = false ∨ (∃ m, l.lastQualifying = some m ∧ s.time.clock < m + l.holdOff) →
      s.edge k rise = s) ∧
    (l.edges.selects rise = true → (∀ m, l.lastQualifying = some m → m + l.holdOff ≤ s.time.clock) →
      ∃ t, t = s.edge k rise ∧ t = { s with capture := t.capture, reports := t.reports, streams := t.streams } ∧
        (s.capture.queue.length < 32 →
          t.capture = { s.capture with
            lines := s.capture.lines.set k.val { l with lastQualifying := some s.time.clock, lost := false }
            queue := s.capture.queue ++ [⟨k, rise, s.time.cycle, s.time.offset, l.lost⟩] }) ∧
        (32 ≤ s.capture.queue.length →
          t.capture = { s.capture with
            lines := s.capture.lines.set k.val { l with lastQualifying := some s.time.clock, lost := true } }) ∧
        t.reports = startReports (fun r => decide (r.state = .armed ∧ r.trigger = some (.onCapture k))) s
          (if s.capture.queue = [] then s.reports.offer .captured else s.reports) ∧
        (∀ i : Sid, t.stream i = (s.stream i).map fun r =>
          if r.state = .armed ∧ r.trigger = some (.onCapture k) then { r with state := .running, trigger := none }
          else r)))

/-- SCHEDULE_MARK refuses a bad line, cycle, offset or level BAD_FORM with its index, a cycle that is not ahead LATE, a
point taken already BAD_FORM 3, a fifth entry NO_ROOM; else the line's schedule gains the entry, before the first one that
the current point meets after it. Where backward realignments let that point meet the list in another order than the settled
one, that place is the model's choice (log entry 41), and so is the order of entries that one boundary reaches (log entry
44). -/
def Obligations.ScheduleMarkInserts : Prop :=
  ∀ (retry : Bool) (tag line : Byte) (cycle offset : BitVec 16) (level : Byte) (width : BitVec 16) (s : State),
    Entered .scheduleMark retry tag s →
    (3 < line.toNat → exec (.scheduleMark retry tag line cycle offset level width) s = .next
      (replied .scheduleMark tag [0x20, 1] s)) ∧
    (∀ k : Line, line.toNat = k.val → ∀ m : MarkLine, m = s.marks[k.val] →
      ∃ t, exec (.scheduleMark retry tag line cycle offset level width) s = .next t ∧
        (if 4095 < cycle.toNat then t = replied .scheduleMark tag [0x20, 2] s
        else if s.master.cycleLength ≤ offset.toNat then t = replied .scheduleMark tag [0x20, 3] s
        else if 1 < level.toNat then t = replied .scheduleMark tag [0x20, 4] s
        else if (cycle.setWidth 12 - s.time.cycle).toNat = 0 ∨ 2048 < (cycle.setWidth 12 - s.time.cycle).toNat then
          t = replied .scheduleMark tag [0x25] s
        else if m.schedule.any (fun e => e.point == ⟨cycle.setWidth 12, offset.toNat⟩) = true then
          t = replied .scheduleMark tag [0x20, 3] s
        else if 4 ≤ m.schedule.length then t = replied .scheduleMark tag [0x23] s
        else ∃ pre post, m.schedule = pre ++ post ∧
          (∀ x ∈ pre,
            (x.point.cycle - s.time.cycle).toNat < (cycle.setWidth 12 - s.time.cycle).toNat ∨
            (x.point.cycle = cycle.setWidth 12 ∧ x.point.offset ≤ offset.toNat)) ∧
          (∀ x ∈ post.head?,
            (cycle.setWidth 12 - s.time.cycle).toNat < (x.point.cycle - s.time.cycle).toNat ∨
            (x.point.cycle = cycle.setWidth 12 ∧ offset.toNat < x.point.offset)) ∧
          t = replied .scheduleMark tag [0x00, BitVec.ofNat 8 (m.schedule.length + 1)]
            { s with marks := s.marks.set k.val { m with
              schedule := pre ++ {
                point := { cycle := cycle.setWidth 12, offset := offset.toNat }
                level := if level = 1 then .high else .low
                width := width.toNat } :: post } }))

/-- CANCEL_MARKS removes every entry of the line and answers their number; a running pulse, the levels and the pulse end stay.
FORCE_MARK steps the line to the level at once and ends a running pulse; the schedule is not touched. A field out of range is
refused BAD_FORM with its index, line first. -/
def Obligations.MarkRequests : Prop :=
  (∀ (retry : Bool) (tag line : Byte) (s : State), Entered .cancelMarks retry tag s →
    (3 < line.toNat → exec (.cancelMarks retry tag line) s = .next (replied .cancelMarks tag [0x20, 1] s)) ∧
    (∀ k : Line, line.toNat = k.val →
      exec (.cancelMarks retry tag line) s = .next
        (replied .cancelMarks tag [0x00, BitVec.ofNat 8 (s.marks[k.val]).schedule.length]
          { s with marks := s.marks.set k.val { s.marks[k.val] with schedule := [] } }))) ∧
  (∀ (retry : Bool) (tag line level : Byte) (s : State), Entered .forceMark retry tag s →
    (3 < line.toNat → exec (.forceMark retry tag line level) s = .next (replied .forceMark tag [0x20, 1] s)) ∧
    (line.toNat ≤ 3 → 1 < level.toNat →
      exec (.forceMark retry tag line level) s = .next (replied .forceMark tag [0x20, 2] s)) ∧
    (∀ (k : Line) (l : Level), line.toNat = k.val → level = l.code →
      exec (.forceMark retry tag line level) s = .next
        (replied .forceMark tag [0x00, level]
          { s with marks := s.marks.set k.val { s.marks[k.val] with resting := l, current := l, pulseEnd := none } })))

/-- MARK_FIRES at the point of the head entry, and PULSE_END at the pulse end, both in the current cycle, let time pass to
that point (TimePasses): the entry steps the line or begins a pulse and leaves the schedule; the pulse's end returns the
line to its resting level. A line as the time unit runs from one point to another, a boundary among them or not: the passed
entries leave the head of the schedule, each acting at its point, or at the boundary that ends its cycle where its offset is
at or beyond the cycle length; the last one decides the level, and a pulse ends when its end is passed too. TimePasses and
BoundaryAdvances say from where to where a line runs. That the row lets time pass to its instant is the model's choice (log
entry 2). That entries fire from the head, where backward realignments let a later entry's point be met before the head's,
is the model's choice (log entry 41), and so is the order in which entries fire that one boundary reaches (log entry 44). -/
def Obligations.MarksFire : Prop :=
  (∀ (k : Line) (e : MarkEntry) (rest : List MarkEntry) (s : State), s.inReset = false →
    (s.marks[k.val]).schedule = e :: rest → e.point.cycle = s.time.cycle →
    s.time.offset < e.point.offset → e.point.offset < s.master.cycleLength → 250 ≤ s.master.cycleLength →
    e.width ≤ 65535 →
    (∀ x ∈ rest, x.point.cycle ≠ s.time.cycle ∨ e.point.offset < x.point.offset) →
    ∃ t, exec (.markFires k) s = .next t ∧ t = s.passTime (e.point.offset - s.time.offset) ∧
      t.time.cycle = s.time.cycle ∧ t.time.offset = e.point.offset ∧
      (t.marks[k.val]).schedule = rest ∧ (t.marks[k.val]).current = e.level ∧
      (e.width = 0 → (t.marks[k.val]).resting = e.level ∧ (t.marks[k.val]).pulseEnd = none) ∧
      (e.width ≠ 0 → (t.marks[k.val]).resting = (s.marks[k.val]).resting ∧
        (t.marks[k.val]).pulseEnd = some {
          cycle := e.point.cycle + BitVec.ofNat 12 ((e.point.offset + e.width) / s.master.cycleLength)
          offset := (e.point.offset + e.width) % s.master.cycleLength })) ∧
  (∀ (k : Line) (p : Point) (s : State), s.inReset = false → (s.marks[k.val]).pulseEnd = some p →
    p.cycle = s.time.cycle → s.time.offset < p.offset → p.offset < s.master.cycleLength →
    (∀ x ∈ (s.marks[k.val]).schedule, x.point.cycle ≠ s.time.cycle ∨ p.offset < x.point.offset) →
    ∃ t, exec (.pulseEnd k) s = .next t ∧ t = s.passTime (p.offset - s.time.offset) ∧
      t.time.cycle = s.time.cycle ∧ t.time.offset = p.offset ∧
      t.marks[k.val] = { s.marks[k.val] with current := (s.marks[k.val]).resting, pulseEnd := none }) ∧
  (∀ (k : Line) (cycleLength : Nat) (old new : Point) (marks : Vector MarkLine 4) (m t : MarkLine)
    (pre post : List MarkEntry), m = marks[k.val] → t = (marksRun cycleLength old new marks)[k.val] →
    m.schedule = pre ++ post → (∀ e ∈ pre, Passed old new e.point) → (∀ e ∈ post.head?, ¬Passed old new e.point) →
    t.schedule = post ∧
    (pre = [] → (∀ p, m.pulseEnd = some p → ¬Passed old new p) → t = m) ∧
    (pre = [] → ∀ p, m.pulseEnd = some p → Passed old new p → t = { m with current := m.resting, pulseEnd := none }) ∧
    (∀ (l : List MarkEntry) (e : MarkEntry), pre = l ++ [e] →
      t.resting = ((pre.filter fun x => x.width == 0).getLast?.map (·.level)).getD m.resting ∧
      (e.width = 0 → t.current = e.level ∧ t.pulseEnd = none) ∧
      (e.width ≠ 0 → ∀ at0 p : Point,
        at0 = (if e.point.offset < cycleLength then e.point else { cycle := e.point.cycle + 1, offset := 0 }) →
        p = {
          cycle := at0.cycle + BitVec.ofNat 12 ((at0.offset + e.width) / cycleLength)
          offset := (at0.offset + e.width) % cycleLength } →
        (Passed old new p → t.current = t.resting ∧ t.pulseEnd = none) ∧
        (¬Passed old new p → t.current = e.level ∧ t.pulseEnd = some p))))

/-! ## The link engine -/

/-- HEADER_SEND, DATA_FRAME_SEND and TAKEN_SEND wait, to the moment u, until the line has been idle for 2 characters, the
first such moment, and begin the part's frame: the header with the grant's fields, the data frame with the bytes at the head
of the chain, the answer TAKEN. HEADER_SENT, DATA_FRAME_SENT and TAKEN_SENT come when its last character has been sent: the
phase that follows, and for TAKEN the outcome accepted for a new frame and duplicate for a repeat. A transaction that the
wait has ended (a stuck line) sends nothing. That LTXD holds the whole frame and LDRV the moment of its end is the model's
choice (log entry 24). That each row lets time pass to its instant is the model's choice (log entry 2). -/
def Obligations.FramesGoOut : Prop :=
  (∀ s : State, s.engine.hearing = false →
    (2 * s.master.rate.charMicros ≤ (s.passTime s.untilIdle).engine.quiet ∧ (s.passTime s.untilIdle).ldrv = false) ∧
    (∀ m, m < s.untilIdle →
      (s.elapse m).engine.quiet < 2 * s.master.rate.charMicros ∨ (s.elapse m).ldrv = true)) ∧
  (∀ (tx : Transaction) (s u : State), s.inReset = false → s.master.state = .leading → s.engine.transaction = some tx →
    tx.begun = false → s.engine.hearing = false → u = s.passTime s.untilIdle →
    (tx.phase = .header ∧ u.engine.transaction = some tx ∧ u.master.state = .leading →
      exec .headerSend s = .next (u.setEngine { u.engine with
        quiet := 0, drivenUntil := u.time.clock + 6 * s.master.rate.charMicros
        ltxd := headerFrame tx.node tx.port tx.direction tx.bitSent tx.resync tx.size
        transaction := some { tx with headerCycle := u.time.cycle, begun := true } })) ∧
    (tx.phase = .dataOut ∧ u.engine.transaction = some tx ∧ u.master.state = .leading →
      exec .dataFrameSend s = .next (u.setEngine { u.engine with
        quiet := 0
        drivenUntil := u.time.clock +
          (5 + min tx.size (s.chain tx.stream).bytes.length) * s.master.rate.charMicros
        ltxd := dataFrame tx.bitSent ((s.chain tx.stream).bytes.take tx.size)
        transaction := some { tx with begun := true } })) ∧
    (tx.phase = .answering ∧ u.engine.transaction = some tx ∧ u.master.state = .leading →
      exec .takenSend s = .next (u.setEngine { u.engine with
        quiet := 0, drivenUntil := u.time.clock + 3 * s.master.rate.charMicros, ltxd := [0x1E, 0x59, 0xA6]
        transaction := some { tx with begun := true } })) ∧
    (u.engine.transaction = none →
      (tx.phase = .header → exec .headerSend s = .next u) ∧ (tx.phase = .dataOut → exec .dataFrameSend s = .next u) ∧
      (tx.phase = .answering → exec .takenSend s = .next u))) ∧
  (∀ (tx : Transaction) (s u : State), s.inReset = false → s.master.state = .leading → s.engine.transaction = some tx →
    tx.begun = true → u = s.passTime (s.engine.drivenUntil - s.time.clock) →
    u.engine.transaction = some tx → u.master.state = .leading → u.engine.drivenUntil = s.engine.drivenUntil →
    (tx.phase = .header →
      exec .headerSent s = .next (u.setEngine { u.engine with
        transaction := some { tx with
          phase := if tx.direction = .outbound then .dataOut else .replyWindow
          begun := false, windowFrom := s.engine.drivenUntil } })) ∧
    (tx.phase = .dataOut →
      exec .dataFrameSent s = .next (u.setEngine { u.engine with
        transaction := some { tx with phase := .replyWindow, begun := false, windowFrom := s.engine.drivenUntil } })) ∧
    (tx.phase = .answering → ∀ (bit : Bool) (n : Nat), tx.direction = .inbound → tx.received = some (bit, n) →
      exec .takenSent s = .next (u.setEngine { u.engine with
        transaction := some { tx with
          phase := .closing, begun := false
          decided := some (if tx.resync = true ∨ bit = tx.bitSent then .accepted else .duplicate) } })))

/-- NODE_ANSWER_RECEIVED in the window of 4 characters, with one frame of another kind than data and beacon, levels that
form no character among its characters or not (R77), decides the transaction at the frame's end, the moment u: TAKEN, WAIT
and REJECT as the exchange gives them, FORM for any other frame; a truncated or unrecognised frame ends after 2 idle
characters. A data frame in one row is read as the rows DATA_LENGTH_READ and INBOUND_DATA_FRAME_END read it, its characters
later by the levels among them; what State.dataBegins does is InboundFrameRead. REPLY_WINDOW_EXPIRY decides SILENT at the
end of the window and ends the transaction, since the line is idle. The time of the row's characters and levels is the
model's choice (log entries 2, 10 and 42); that a window that has closed is settled first, and that it holds its fourth
character time, is its reading (log entries 19 and 23, DEDUCED). -/
def Obligations.ReplyDecides : Prop :=
  (∀ (after : Nat) (times : List (Option Byte)) (errs : List Nat) (row : List LinkTime) (chars : List LinkChar)
    (tx : Transaction) (s v w u : State), s.inReset = false → row = linkTimes times errs → chars = heardChars row →
    s.engine.hearing = false → v = s.passTime after →
    v.master.state = .leading → v.engine.transaction = some tx →
    tx.phase = .replyWindow → tx.begun = false →
    v.time.clock ≤ tx.windowFrom + 4 * s.master.rate.charMicros → v.ldrv = false → chars ≠ [] →
    chars.head? ≠ some (some 0x78) → rowSpan row = row.length → readBeacon chars = none →
    w = v.passBusy (row.length * s.master.rate.charMicros) →
    u = (if frameWhole chars then w else w.passTime (2 * s.master.rate.charMicros)) →
    u.engine.transaction = some tx → u.master.state = .leading →
    ∀ o : Outcome,
      (if chars = [some 0x1E, some 0x59, some 0xA6] then o = (if tx.direction = .outbound then .accepted else .form)
      else if chars = [some 0x1E, some 0x6A, some 0x95] then o = .wait
      else if chars = [some 0x1E, some 0x93, some 0x6C] then o = .reject
      else o = .form) →
      exec (.nodeAnswerReceived after times errs) s = .next (u.setEngine { u.engine with
        transaction := some { tx with phase := .closing, decided := some o } })) ∧
  (∀ (after : Nat) (c1 c2 : Byte) (tail : List (Option Byte)) (rest : List Byte) (errs places : List Nat) (err : Bool)
    (row : List LinkTime) (s v t : State), s.inReset = false → s.engine.hearing = false →
    v = (s.passTime after).closeWindow → v.ldrv = false → row = linkTimes ([some 0x78, some c1, some c2] ++ tail) errs →
    0 ∉ errs → err = decide (1 ∈ errs ∨ 2 ∈ errs) → linkChars rest places = heardChars (row.drop 3) →
    rowSpan row = row.length → exec (.dataLengthRead after c1 c2 err) s = .next t →
    exec (.nodeAnswerReceived after ([some 0x78, some c1, some c2] ++ tail) errs) s =
      exec (.inboundDataFrameEnd (tail.length * s.master.rate.charMicros) rest places) t) ∧
  (∀ (after : Nat) (c1 c2 : Byte) (err : Bool) (s : State), s.inReset = false → s.engine.hearing = false →
    exec (.dataLengthRead after c1 c2 err) s = .next (State.dataBegins (3 * s.master.rate.charMicros)
      (if err then none else some (c1, c2)) (s.passTime after).closeWindow)) ∧
  (∀ (f g : List LinkTime) (c1 c2 : LinkChar) (rest : List Byte) (places : List Nat) (control : Option (Byte × Byte))
    (s v t u : State), s.inReset = false → v = s.closeWindow → v.ldrv = false → f.head? ≠ some none →
    f.getLast? ≠ some none → heardChars f = [some 0x78, c1, c2] →
    control = (match c1, c2 with | some b1, some b2 => some (b1, b2) | none, _ | some _, none => none) →
    linkChars rest places = heardChars g → rowSpan (f ++ g) = (f ++ g).length →
    t = State.dataBegins (f.length * s.master.rate.charMicros) control v →
    exec (.inboundDataFrameEnd (g.length * s.master.rate.charMicros) rest places) t = .next u →
    State.hearFrame s (f ++ g) = u) ∧
  (∀ (tx : Transaction) (s u : State), s.inReset = false → s.master.state = .leading →
    s.engine.transaction = some tx → tx.phase = .replyWindow → tx.begun = false → s.engine.hearing = false →
    u = s.passTime (tx.windowFrom + 4 * s.master.rate.charMicros - s.time.clock) →
    u.engine.transaction = some tx → u.master.state = .leading →
    (2 * s.master.rate.charMicros ≤ u.engine.quiet → u.ldrv = false →
      exec .replyWindowExpiry s = .next
        ((u.applyOutcome { tx with phase := .closing, decided := some .silent } .silent).planContinues)) ∧
    ((u.engine.quiet < 2 * s.master.rate.charMicros ∨ u.ldrv = true) →
      exec .replyWindowExpiry s = .next (u.setEngine { u.engine with
        transaction := some { tx with phase := .closing, decided := some .silent } })))

/-- DATA_LENGTH_READ in the window: in an INBOUND transaction a length above the expected size decides OVERRUN and drains,
any other length is received, and a character error in the control characters leaves the length unknown; in an OUTBOUND one
the frame is received to its end (log entry 30, DEDUCED). The same holds for control characters with levels among them
(State.dataBegins). Where nobody waits for it, it holds the line and no more. INBOUND_DATA_FRAME_END, at the moment u of the
frame's end: a good frame is answered, its payload kept when it is new; a bad, erroneous or truncated frame decides CHECK,
and a truncated one or one of unknown length ends after 2 idle characters; in an OUTBOUND transaction it decides FORM;
characters beyond the length make up further frames. A frame that no transaction receives, one that drains among them, ends
without more. A data frame cut before its control characters decides CHECK or FORM in the window (log entry 22, DEDUCED) and
nothing elsewhere. The time of the rows' characters, and that they bring nothing while another data frame is being heard, is
the model's choice (log entries 2, 10, 12 and 42), and so is the part's deafness to the whole of a frame that begins while
it drives the line (log entry 38); the end of the window is its reading (log entries 19 and 23, DEDUCED). -/
def Obligations.InboundFrameRead : Prop :=
  (∀ (after : Nat) (c1 c2 : Byte) (tx : Transaction) (s v u : State), s.inReset = false →
    s.engine.hearing = false → v = s.passTime after → v.master.state = .leading → v.engine.transaction = some tx →
    tx.phase = .replyWindow → tx.begun = false →
    v.time.clock ≤ tx.windowFrom + 4 * s.master.rate.charMicros → v.ldrv = false →
    u = v.passBusy (3 * s.master.rate.charMicros) → u.engine.transaction = some tx → u.master.state = .leading →
    (∀ n : Nat, n = (c1.getLsbD 0).toNat * 256 + c2.toNat →
      exec (.dataLengthRead after c1 c2 false) s = .next (u.setEngine { u.engine with
        hearing := true, control := some (c1, c2)
        transaction := some
          (if tx.direction = .outbound then { tx with phase := .receiving, received := none }
          else if tx.size < n then
            { tx with received := some (c1.getLsbD 7, n), phase := .drain, decided := some .overrun }
          else { tx with received := some (c1.getLsbD 7, n), phase := .receiving }) })) ∧
    exec (.dataLengthRead after c1 c2 true) s = .next (u.setEngine { u.engine with
      hearing := true, control := none
      transaction := some { tx with phase := .receiving, received := none } })) ∧
  (∀ (micros : Nat) (control : Option (Byte × Byte)) (tx : Transaction) (v u : State), v.ldrv = false →
    u = v.passBusy micros → u.engine.transaction = some tx → u.master.state = .leading → tx.phase = .replyWindow →
    tx.begun = false →
    (tx.direction = .outbound ∨ control = none →
      State.dataBegins micros control v = u.setEngine { u.engine with
        hearing := true, control := control, transaction := some { tx with phase := .receiving, received := none } }) ∧
    (tx.direction = .inbound → ∀ (c1 c2 : Byte) (n : Nat), control = some (c1, c2) →
      n = (c1.getLsbD 0).toNat * 256 + c2.toNat →
      State.dataBegins micros control v = u.setEngine { u.engine with
        hearing := true, control := control
        transaction := some
          (if tx.size < n then { tx with received := some (c1.getLsbD 7, n), phase := .drain, decided := some .overrun }
          else { tx with received := some (c1.getLsbD 7, n), phase := .receiving }) })) ∧
  (∀ (after : Nat) (bytes : List Byte) (errs : List Nat) (rest own : List LinkChar) (whole : Bool) (tx : Transaction)
    (s v w u : State), s.inReset = false → rest = linkChars bytes errs →
    s.engine.hearing = true → s.master.state = .leading → s.engine.transaction = some tx → tx.phase = .receiving →
    tx.begun = false →
    (match s.engine.control with
      | some (c1, c2) =>
        own = rest.take ((c1.getLsbD 0).toNat * 256 + c2.toNat + 2) ∧
          whole = decide ((c1.getLsbD 0).toNat * 256 + c2.toNat + 2 ≤ rest.length)
      | none => own = rest ∧ whole = false) →
    v = s.passBusy after → w = v.setEngine { v.engine with hearing := false, control := none } →
    u = (if whole then w else w.passTime (2 * s.master.rate.charMicros)) →
    u.engine.transaction = some tx → u.master.state = .leading →
    (tx.direction = .outbound →
      exec (.inboundDataFrameEnd after bytes errs) s = .next
        (State.hearAll ((rest.drop own.length).map some) (u.setEngine { u.engine with
          transaction := some { tx with phase := .closing, decided := some .form } }))) ∧
    (tx.direction = .inbound → ∀ (c1 c2 : Byte) (bit : Bool) (n : Nat) (data crc : List Byte),
      s.engine.control = some (c1, c2) → tx.received = some (bit, n) →
      n = (c1.getLsbD 0).toNat * 256 + c2.toNat → own = (data ++ crc).map some → data.length = n → crc.length = 2 →
      exec (.inboundDataFrameEnd after bytes errs) s = .next
        (State.hearAll ((rest.drop own.length).map some) (u.setEngine { u.engine with
          transaction := some
            (if crc = u16 (crc16 ([c1, c2] ++ data)).toNat then
              { tx with phase := .answering, payload := if tx.resync = true ∨ bit = tx.bitSent then data else [] }
            else { tx with phase := .closing, decided := some .check }) }))) ∧
    (tx.direction = .inbound →
      (tx.received = none ∨ none ∈ own ∨ ∃ bit n, tx.received = some (bit, n) ∧ own.length < n + 2) →
      exec (.inboundDataFrameEnd after bytes errs) s = .next
        (State.hearAll ((rest.drop own.length).map some) (u.setEngine { u.engine with
          transaction := some { tx with phase := .closing, decided := some .check } })))) ∧
  (∀ (after : Nat) (bytes : List Byte) (errs : List Nat) (rest own : List LinkChar) (whole : Bool) (s v w u : State),
    s.inReset = false → rest = linkChars bytes errs → s.engine.hearing = true →
    (match s.engine.control with
      | some (c1, c2) =>
        own = rest.take ((c1.getLsbD 0).toNat * 256 + c2.toNat + 2) ∧
          whole = decide ((c1.getLsbD 0).toNat * 256 + c2.toNat + 2 ≤ rest.length)
      | none => own = rest ∧ whole = false) →
    v = s.closeWindow.passBusy after → w = v.setEngine { v.engine with hearing := false, control := none } →
    u = (if whole then w else w.passTime (2 * s.master.rate.charMicros)) → Unheard .receiving u →
    exec (.inboundDataFrameEnd after bytes errs) s = .next (State.hearAll ((rest.drop own.length).map some) u)) ∧
  (∀ (after : Nat) (bytes : List Byte) (errs : List Nat) (s u : State), s.inReset = false → s.engine.hearing = false →
    s.engine.control = none → u = (s.closeWindow.passBusy after).passTime (2 * s.master.rate.charMicros) →
    (Unheard .replyWindow u → exec (.inboundDataFrameEnd after bytes errs) s = .next u) ∧
    (∀ tx, u.master.state = .leading → u.engine.transaction = some tx → tx.phase = .replyWindow → tx.begun = false →
      exec (.inboundDataFrameEnd after bytes errs) s = .next (u.setEngine { u.engine with
        transaction := some { tx with
          phase := .closing, decided := some (if tx.direction = .inbound then .check else .form) } }))) ∧
  (∀ (after : Nat) (c1 c2 : Byte) (err : Bool) (s v u : State), s.inReset = false →
    (s.engine.hearing = true → exec (.dataLengthRead after c1 c2 err) s = .next s) ∧
    (s.engine.hearing = false → v = (s.passTime after).closeWindow → u = v.passBusy (3 * s.master.rate.charMicros) →
      (v.ldrv = true ∨ Unheard .replyWindow u) →
      exec (.dataLengthRead after c1 c2 err) s = .next (u.setEngine { u.engine with
        hearing := true, control := if err then none else some (c1, c2) })))

/-- TRANSACTION_END waits, to the moment u, until the line has been idle for 2 characters and hands the decided outcome on:
segment memory, the stream table, the waited set, then a waiting STOP; then the plan goes on. What each outcome but the
accepted one does to the stream record, the reports, the chain, the reservation and the free list, before the STOP is
resolved (StopResolved); nothing else changes. That a WAIT joins the waited set of the record current at the end is the
model's reading (log entry 27, DEDUCED). That the row lets time pass to its instant is the model's choice (log entry 2). -/
def Obligations.OutcomeApplied : Prop :=
  (∀ (tx : Transaction) (o : Outcome) (s u : State), s.inReset = false → s.engine.transaction = some tx →
    (tx.phase = .closing ∨ tx.phase = .drain) → tx.decided = some o → s.engine.hearing = false →
    u = s.passTime s.untilIdle →
    (u.engine.transaction = some tx → exec .transactionEnd s = .next ((u.applyOutcome tx o).planContinues)) ∧
    (u.engine.transaction = none → exec .transactionEnd s = .next u)) ∧
  (∀ (tx : Transaction) (r : StreamRecord) (o : Outcome) (s : State), s.stream tx.stream = some r →
    r.defn.direction = tx.direction → o ≠ .accepted →
    ∃ t : State, s.applyOutcome tx o = t.resolveStop tx.stream ∧
      t.stream tx.stream = some
        (match o with
        | .duplicate => { r with resyncPending := false, failures := 0 }
        | .wait => { r with failures := 0 }
        | .reject => { r with state := .halted, condition := some .rejected }
        | .overrun => { r with state := .halted, condition := some .overrun }
        | .silent | .check | .form =>
          if r.failures + 1 = r.defn.retryBudget then
            { r with
              failures := r.failures + 1, lastFailure := failureOf o, state := .halted
              condition := some .retriesSpent }
          else { r with failures := r.failures + 1, lastFailure := failureOf o }
        | .yielded => { r with lastFailure := some .yielded }
        | .accepted => r) ∧
      t.reports =
        (match o with
        | .reject => s.reports.offer (.streamEnded tx.stream .halted (some .rejected) r.lastFailure r.residue r.accepted)
        | .overrun => s.reports.offer (.streamEnded tx.stream .halted (some .overrun) r.lastFailure r.residue r.accepted)
        | .silent | .check | .form =>
          if r.failures + 1 = r.defn.retryBudget then
            s.reports.offer
              (.streamEnded tx.stream .halted (some .retriesSpent) (failureOf o) r.residue r.accepted)
          else s.reports
        | .duplicate | .wait | .yielded | .accepted => s.reports) ∧
      t.memory = (if tx.direction = .outbound then s.memory
        else { s.memory with free := s.memory.free + reservedBlocks s, reservation := none }) ∧
      t.plan = (if o = .wait ∧ r.defn.kind = .demand then
          { s.plan with record := s.plan.record.map fun c => { c with waited := tx.stream :: c.waited } }
        else s.plan) ∧
      t.engine = { s.engine with transaction := none } ∧ (∀ j, j ≠ tx.stream → t.stream j = s.stream j) ∧
      t = { s with
        streams := t.streams, reports := t.reports, memory := t.memory, plan := t.plan, engine := t.engine })

/-- The accepted outcome, before a waiting STOP is resolved. Memory: an OUTBOUND segment leaves the head of the chain with its
blocks, and the held size clears; an INBOUND one of 1 byte or more is stored from the reservation, the rest of which returns.
The record: sequence bit from the bit carried, accepted count, cadence, residue, failures, taken count; the end checks in their
order; the autopause. The reports, offered in this order: DATA_READY, STREAM_MARK, then STREAM_ENDED, or STREAM_PAUSED and
REFILL_NEEDED (that the pause comes before REFILL_NEEDED is the model's reading, log entry 29, DEDUCED). A stream that is DONE
releases its load. -/
def Obligations.AcceptedApplied : Prop :=
  ∀ (tx : Transaction) (r : StreamRecord) (n rv : Nat) (bit marked : Bool) (p q : StreamRecord) (ended : Option Condition)
    (s : State), s.stream tx.stream = some r → r.defn.direction = tx.direction →
    (if tx.direction = .outbound then n = tx.size ∧ bit = tx.bitSent
    else tx.received = some (bit, n) ∧ tx.payload.length = n ∧
      s.memory.reservation = some { stream := tx.stream, blocks := rv }) →
    marked = decide (1 ≤ r.defn.markCount ∧ r.defn.markCount ≤ r.takenCount + 1) →
    p = { r with
      resyncPending := false, seqBit := !bit, accepted := r.accepted + 1, failures := 0
      residue := if r.defn.endMode = .openEnd then r.residue else r.residue - n
      takenCount := if r.defn.markCount = 0 ∨ marked = true then 0 else r.takenCount + 1
      cadenceAcc :=
        match r.defn.cadence with
        | none => r.cadenceAcc
        | some c =>
          if c.denom ≤ r.cadenceAcc + c.numer then r.cadenceAcc + c.numer - c.denom else r.cadenceAcc + c.numer
      closingPending :=
        if r.defn.endMode ≠ .counted then r.closingPending
        else if r.closingPending = true ∧ n = 0 then false
        else if tx.direction = .outbound ∧ r.defn.closeEmpty = true ∧ r.residue - n = 0 ∧ n = tx.baseSize then true
        else r.closingPending } →
    ended =
      (if r.defn.endMode ≠ .counted then none
      else if r.closingPending = true ∧ n = 0 then some .complete
      else if tx.direction = .outbound ∧ r.defn.closeEmpty = true ∧ r.residue - n = 0 ∧ n = tx.baseSize then none
      else if r.residue - n = 0 ∧ r.closingPending = false then some .complete
      else if r.defn.kind = .demand ∧ tx.direction = .inbound ∧ n < tx.size then some .shortEnd
      else none) →
    q =
      (if ended.isSome then
        { p with state := .done, condition := ended, holdsLoad := r.holdsLoad && r.defn.isDemand }
      else if marked = true ∧ r.defn.autopause = true ∧ r.state = .running then { p with state := .paused }
      else p) →
    ∃ t : State, s.applyOutcome tx .accepted = t.resolveStop tx.stream ∧
      t.stream tx.stream = some q ∧
      t.reports =
        ((if tx.direction = .inbound ∧ 1 ≤ n ∧ (s.chain tx.stream).records = [] then [.dataReady tx.stream] else []) ++
          (if marked then [.streamMark tx.stream] else []) ++
          (if ended.isSome then [.streamEnded tx.stream .done ended r.lastFailure p.residue p.accepted]
          else
            (if q.state = .paused ∧ r.state = .running then [.streamPaused tx.stream] else []) ++
            (if r.defn.endMode = .refill ∧ p.residue = 0 then [.refillNeeded tx.stream] else [])) : List Report).foldl
          (fun x rep => ReportQueue.offer rep x) s.reports ∧
      (tx.direction = .outbound → t.memory = { s.memory with
        chains := s.memory.chains.set tx.stream.val { s.memory.chains[tx.stream.val] with
          bytes := (s.chain tx.stream).bytes.drop n
          headOffset :=
            if (s.chain tx.stream).bytes.length - n = 0 then 0 else ((s.chain tx.stream).headOffset + n) % 64
          heldSize := none }
        free := s.memory.free +
          (if (s.chain tx.stream).bytes.length - n = 0 then
            ((s.chain tx.stream).headOffset + (s.chain tx.stream).bytes.length + 63) / 64
          else ((s.chain tx.stream).headOffset + n) / 64) }) ∧
      (tx.direction = .inbound → t.memory = { s.memory with
        chains :=
          if n = 0 then s.memory.chains
          else s.memory.chains.set tx.stream.val { s.memory.chains[tx.stream.val] with
            records := (s.chain tx.stream).records ++ [{ data := tx.payload, cycle := tx.headerCycle, delivered := 0 }] }
        free := s.memory.free + (rv - (n + 63) / 64), reservation := none }) ∧
      t.plan = { s.plan with loadMap := Vector.ofFn fun x : Fin 256 =>
        match r.defn.kind with
        | .cyclic period phase =>
          if ended.isSome ∧ r.holdsLoad = true ∧ x.val % period = phase then s.plan.loadMap[x] - (20 + r.defn.limit)
          else s.plan.loadMap[x]
        | .demand => s.plan.loadMap[x] } ∧
      t.engine = { s.engine with transaction := none } ∧ (∀ j, j ≠ tx.stream → t.stream j = s.stream j) ∧
      t = { s with
        streams := t.streams, reports := t.reports, memory := t.memory, plan := t.plan, engine := t.engine }

/-- Heard frames, under the three rows that bring them alike, each character with an error where the row names its place:
the characters of a row make up frames one behind another, and a level that forms no character (R77) is a character time
without one: among the characters of a frame it takes its time, before and between frames it belongs to none. Such a level
(State.holdLevel) holds the line for its time and returns the idle count to 0; it is no character of a reply, and a window
that ends within it closes SILENT at its end (R84). A frame that is no well-formed beacon, heard by a part whose transaction
is in no reply window, a data frame among them, and any frame that begins while the part drives the line, has no effect but
the time of its characters and the activity of the line, to the 2 idle characters that end a truncated or unrecognised one.
What a well-formed beacon does is PartnerBeaconHeard and BeaconWhileLeading, and what a data frame does in the window
InboundFrameRead and ReplyDecides. That a row holds the line for its character times, that the frame rows bring such levels,
and that they bring nothing while a data frame is being heard, is the model's choice (log entries 2, 10, 12 and 42), and so
is the part's deafness to the whole of a frame that begins while it drives the line (log entry 38); a window that has
closed, after its fourth character time, is settled first (log entries 19 and 23, DEDUCED). -/
def Obligations.FrameIgnored : Prop :=
  (∀ (after : Nat) (times : List (Option Byte)) (errs : List Nat) (s : State), s.inReset = false →
    (s.engine.hearing = false →
      exec (.ignoredFrame after times errs) s = .next (State.hearAll (linkTimes times errs) (s.passTime after))) ∧
    (s.engine.hearing = true → exec (.ignoredFrame after times errs) s = .next s) ∧
    exec (.beaconReceived after times errs) s = exec (.ignoredFrame after times errs) s ∧
    exec (.nodeAnswerReceived after times errs) s = exec (.ignoredFrame after times errs) s) ∧
  (∀ (times : List (Option Byte)) (errs : List Nat),
    (linkTimes times errs).length = times.length ∧
      ∀ (i : Nat) (x : Option Byte), times[i]? = some x →
        (linkTimes times errs)[i]? = some (x.map fun b => if i ∈ errs then none else some b)) ∧
  (∀ s : State, State.hearAll [] s = s) ∧
  (∀ (f g : List LinkTime) (s : State), f.head? ≠ some none → f.getLast? ≠ some none →
    frameLength (heardChars f) = some (heardChars f).length →
    rowSpan (f ++ g) = f.length ∧ State.hearAll (f ++ g) s = State.hearAll g (State.hearFrame s f)) ∧
  (∀ (f : List LinkTime) (s : State), f ≠ [] → f.head? ≠ some none →
    (∀ n, frameLength (heardChars f) = some n → (heardChars f).length < n) →
    rowSpan f = f.length ∧ State.hearAll f s = State.hearFrame s f) ∧
  (∀ (n : Nat) (g : List LinkTime) (s : State), g.head? ≠ some none →
    rowSpan (List.replicate (n + 1) none ++ g) = n + 1 ∧
    State.hearAll (List.replicate (n + 1) none ++ g) s =
      State.hearAll g (s.holdLevel ((n + 1) * s.master.rate.charMicros))) ∧
  (∀ (row : List LinkTime) (chars : List LinkChar) (s v w u : State), v = s.closeWindow → row.head? ≠ some none →
    chars = heardChars row → (chars.head? ≠ some (some 0x78) ∨ chars.length < 3) →
    w = v.passBusy (row.length * s.master.rate.charMicros) →
    u = (if frameWhole chars then w else w.passTime (2 * s.master.rate.charMicros)) →
    (v.ldrv = true ∨ (readBeacon chars = none ∧ Unheard .replyWindow u)) →
    State.hearFrame s row = u) ∧
  (∀ (f g : List LinkTime) (c1 c2 : LinkChar) (s v a b w u : State), v = s.closeWindow → f.head? ≠ some none →
    f.getLast? ≠ some none → heardChars f = [some 0x78, c1, c2] → a = v.passBusy (f.length * s.master.rate.charMicros) →
    b = a.passBusy (g.length * s.master.rate.charMicros) →
    w = b.setEngine { b.engine with hearing := false, control := none } →
    u = (if frameWhole (heardChars (f ++ g)) then w else w.passTime (2 * s.master.rate.charMicros)) →
    (v.ldrv = true ∨ Unheard .replyWindow a) → Unheard .receiving u →
    State.hearFrame s (f ++ g) = u) ∧
  (∀ s : State,
    ((∀ tx, s.engine.transaction = some tx → tx.phase = .replyWindow →
      s.time.clock ≤ tx.windowFrom + 4 * s.master.rate.charMicros) → s.closeWindow = s)) ∧
  (∀ (tx : Transaction) (s : State), s.master.state = .leading → s.engine.transaction = some tx →
    tx.phase = .replyWindow → tx.begun = false → tx.windowFrom + 4 * s.master.rate.charMicros < s.time.clock →
    s.engine.hearing = false → 2 * s.master.rate.charMicros ≤ s.engine.quiet → s.ldrv = false →
    s.closeWindow = (s.applyOutcome { tx with phase := .closing, decided := some .silent } .silent).planContinues) ∧
  (∀ (m : Nat) (s : State),
    (∀ tx, s.master.state = .leading → s.engine.transaction = some tx → tx.phase = .replyWindow → tx.begun = false →
      s.time.clock + m ≤ tx.windowFrom + 4 * s.master.rate.charMicros) → s.holdLevel m = s.passBusy m) ∧
  (∀ (early m : Nat) (tx : Transaction) (s u : State), s.master.state = .leading → s.engine.transaction = some tx →
    tx.phase = .replyWindow → tx.begun = false → tx.windowFrom + 4 * s.master.rate.charMicros < s.time.clock + m →
    early = tx.windowFrom + 4 * s.master.rate.charMicros - s.time.clock → u = s.passBusy early →
    (Unheard .replyWindow u → s.holdLevel m = u.passBusy (m - early)) ∧
    (u.engine.transaction = some tx → u.master.state = .leading →
      (u.engine.hearing = true ∨ u.ldrv = true ∨ u.engine.quiet < 2 * s.master.rate.charMicros →
        s.holdLevel m = (u.setEngine { u.engine with
          transaction := some { tx with phase := .closing, decided := some .silent } }).passBusy (m - early)) ∧
      (u.engine.hearing = false → u.ldrv = false → 2 * s.master.rate.charMicros ≤ u.engine.quiet →
        s.holdLevel m = State.passBusy (m - early)
          (u.applyOutcome { tx with phase := .closing, decided := some .silent } .silent).planContinues))) ∧
  (∀ (after n : Nat) (errs : List Nat) (s : State), s.inReset = false → s.engine.hearing = false → TimeLaw s →
    ∃ t, exec (.ignoredFrame after (List.replicate (n + 1) none) errs) s = .next t ∧ t.engine.quiet = 0)
end

