-- ==== Sys2Proof/Laws/State.lean ====
section
/-! SUPPORT. One lemma for each field and each update of State: what the update leaves in the field. -/

namespace Sys2Proof.Machine

@[simp] theorem State.setPort_port (p : Port) (s : State) : (s.setPort p).port = p := rfl
@[simp] theorem State.setPort_reports (p : Port) (s : State) : (s.setPort p).reports = s.reports := rfl
@[simp] theorem State.setPort_streams (p : Port) (s : State) : (s.setPort p).streams = s.streams := rfl
@[simp] theorem State.setPort_memory (p : Port) (s : State) : (s.setPort p).memory = s.memory := rfl
@[simp] theorem State.setPort_plan (p : Port) (s : State) : (s.setPort p).plan = s.plan := rfl
@[simp] theorem State.setPort_engine (p : Port) (s : State) : (s.setPort p).engine = s.engine := rfl
@[simp] theorem State.setPort_master (p : Port) (s : State) : (s.setPort p).master = s.master := rfl
@[simp] theorem State.setPort_time (p : Port) (s : State) : (s.setPort p).time = s.time := rfl
@[simp] theorem State.setPort_capture (p : Port) (s : State) : (s.setPort p).capture = s.capture := rfl
@[simp] theorem State.setPort_marks (p : Port) (s : State) : (s.setPort p).marks = s.marks := rfl
@[simp] theorem State.setPort_inReset (p : Port) (s : State) : (s.setPort p).inReset = s.inReset := rfl
@[simp] theorem State.setPort_pending (p : Port) (s : State) : (s.setPort p).pending = s.pending := rfl

@[simp] theorem State.setReports_port (q : ReportQueue) (s : State) : (s.setReports q).port = s.port := rfl
@[simp] theorem State.setReports_reports (q : ReportQueue) (s : State) : (s.setReports q).reports = q := rfl
@[simp] theorem State.setReports_streams (q : ReportQueue) (s : State) : (s.setReports q).streams = s.streams := rfl
@[simp] theorem State.setReports_memory (q : ReportQueue) (s : State) : (s.setReports q).memory = s.memory := rfl
@[simp] theorem State.setReports_plan (q : ReportQueue) (s : State) : (s.setReports q).plan = s.plan := rfl
@[simp] theorem State.setReports_engine (q : ReportQueue) (s : State) : (s.setReports q).engine = s.engine := rfl
@[simp] theorem State.setReports_master (q : ReportQueue) (s : State) : (s.setReports q).master = s.master := rfl
@[simp] theorem State.setReports_time (q : ReportQueue) (s : State) : (s.setReports q).time = s.time := rfl
@[simp] theorem State.setReports_capture (q : ReportQueue) (s : State) : (s.setReports q).capture = s.capture := rfl
@[simp] theorem State.setReports_marks (q : ReportQueue) (s : State) : (s.setReports q).marks = s.marks := rfl
@[simp] theorem State.setReports_inReset (q : ReportQueue) (s : State) : (s.setReports q).inReset = s.inReset := rfl
@[simp] theorem State.setReports_pending (q : ReportQueue) (s : State) : (s.setReports q).pending = s.pending := rfl

@[simp] theorem State.setStreams_port (v : Vector (Option StreamRecord) 16) (s : State) : (s.setStreams v).port = s.port := rfl
@[simp] theorem State.setStreams_reports (v : Vector (Option StreamRecord) 16) (s : State) : (s.setStreams v).reports = s.reports := rfl
@[simp] theorem State.setStreams_streams (v : Vector (Option StreamRecord) 16) (s : State) : (s.setStreams v).streams = v := rfl
@[simp] theorem State.setStreams_memory (v : Vector (Option StreamRecord) 16) (s : State) : (s.setStreams v).memory = s.memory := rfl
@[simp] theorem State.setStreams_plan (v : Vector (Option StreamRecord) 16) (s : State) : (s.setStreams v).plan = s.plan := rfl
@[simp] theorem State.setStreams_engine (v : Vector (Option StreamRecord) 16) (s : State) : (s.setStreams v).engine = s.engine := rfl
@[simp] theorem State.setStreams_master (v : Vector (Option StreamRecord) 16) (s : State) : (s.setStreams v).master = s.master := rfl
@[simp] theorem State.setStreams_time (v : Vector (Option StreamRecord) 16) (s : State) : (s.setStreams v).time = s.time := rfl
@[simp] theorem State.setStreams_capture (v : Vector (Option StreamRecord) 16) (s : State) : (s.setStreams v).capture = s.capture := rfl
@[simp] theorem State.setStreams_marks (v : Vector (Option StreamRecord) 16) (s : State) : (s.setStreams v).marks = s.marks := rfl
@[simp] theorem State.setStreams_inReset (v : Vector (Option StreamRecord) 16) (s : State) : (s.setStreams v).inReset = s.inReset := rfl
@[simp] theorem State.setStreams_pending (v : Vector (Option StreamRecord) 16) (s : State) : (s.setStreams v).pending = s.pending := rfl

@[simp] theorem State.setMemory_port (m : SegmentMemory) (s : State) : (s.setMemory m).port = s.port := rfl
@[simp] theorem State.setMemory_reports (m : SegmentMemory) (s : State) : (s.setMemory m).reports = s.reports := rfl
@[simp] theorem State.setMemory_streams (m : SegmentMemory) (s : State) : (s.setMemory m).streams = s.streams := rfl
@[simp] theorem State.setMemory_memory (m : SegmentMemory) (s : State) : (s.setMemory m).memory = m := rfl
@[simp] theorem State.setMemory_plan (m : SegmentMemory) (s : State) : (s.setMemory m).plan = s.plan := rfl
@[simp] theorem State.setMemory_engine (m : SegmentMemory) (s : State) : (s.setMemory m).engine = s.engine := rfl
@[simp] theorem State.setMemory_master (m : SegmentMemory) (s : State) : (s.setMemory m).master = s.master := rfl
@[simp] theorem State.setMemory_time (m : SegmentMemory) (s : State) : (s.setMemory m).time = s.time := rfl
@[simp] theorem State.setMemory_capture (m : SegmentMemory) (s : State) : (s.setMemory m).capture = s.capture := rfl
@[simp] theorem State.setMemory_marks (m : SegmentMemory) (s : State) : (s.setMemory m).marks = s.marks := rfl
@[simp] theorem State.setMemory_inReset (m : SegmentMemory) (s : State) : (s.setMemory m).inReset = s.inReset := rfl
@[simp] theorem State.setMemory_pending (m : SegmentMemory) (s : State) : (s.setMemory m).pending = s.pending := rfl

@[simp] theorem State.setPlan_port (p : Plan) (s : State) : (s.setPlan p).port = s.port := rfl
@[simp] theorem State.setPlan_reports (p : Plan) (s : State) : (s.setPlan p).reports = s.reports := rfl
@[simp] theorem State.setPlan_streams (p : Plan) (s : State) : (s.setPlan p).streams = s.streams := rfl
@[simp] theorem State.setPlan_memory (p : Plan) (s : State) : (s.setPlan p).memory = s.memory := rfl
@[simp] theorem State.setPlan_plan (p : Plan) (s : State) : (s.setPlan p).plan = p := rfl
@[simp] theorem State.setPlan_engine (p : Plan) (s : State) : (s.setPlan p).engine = s.engine := rfl
@[simp] theorem State.setPlan_master (p : Plan) (s : State) : (s.setPlan p).master = s.master := rfl
@[simp] theorem State.setPlan_time (p : Plan) (s : State) : (s.setPlan p).time = s.time := rfl
@[simp] theorem State.setPlan_capture (p : Plan) (s : State) : (s.setPlan p).capture = s.capture := rfl
@[simp] theorem State.setPlan_marks (p : Plan) (s : State) : (s.setPlan p).marks = s.marks := rfl
@[simp] theorem State.setPlan_inReset (p : Plan) (s : State) : (s.setPlan p).inReset = s.inReset := rfl
@[simp] theorem State.setPlan_pending (p : Plan) (s : State) : (s.setPlan p).pending = s.pending := rfl

@[simp] theorem State.setEngine_port (e : LinkEngine) (s : State) : (s.setEngine e).port = s.port := rfl
@[simp] theorem State.setEngine_reports (e : LinkEngine) (s : State) : (s.setEngine e).reports = s.reports := rfl
@[simp] theorem State.setEngine_streams (e : LinkEngine) (s : State) : (s.setEngine e).streams = s.streams := rfl
@[simp] theorem State.setEngine_memory (e : LinkEngine) (s : State) : (s.setEngine e).memory = s.memory := rfl
@[simp] theorem State.setEngine_plan (e : LinkEngine) (s : State) : (s.setEngine e).plan = s.plan := rfl
@[simp] theorem State.setEngine_engine (e : LinkEngine) (s : State) : (s.setEngine e).engine = e := rfl
@[simp] theorem State.setEngine_master (e : LinkEngine) (s : State) : (s.setEngine e).master = s.master := rfl
@[simp] theorem State.setEngine_time (e : LinkEngine) (s : State) : (s.setEngine e).time = s.time := rfl
@[simp] theorem State.setEngine_capture (e : LinkEngine) (s : State) : (s.setEngine e).capture = s.capture := rfl
@[simp] theorem State.setEngine_marks (e : LinkEngine) (s : State) : (s.setEngine e).marks = s.marks := rfl
@[simp] theorem State.setEngine_inReset (e : LinkEngine) (s : State) : (s.setEngine e).inReset = s.inReset := rfl
@[simp] theorem State.setEngine_pending (e : LinkEngine) (s : State) : (s.setEngine e).pending = s.pending := rfl

@[simp] theorem State.setMaster_port (m : Mastership) (s : State) : (s.setMaster m).port = s.port := rfl
@[simp] theorem State.setMaster_reports (m : Mastership) (s : State) : (s.setMaster m).reports = s.reports := rfl
@[simp] theorem State.setMaster_streams (m : Mastership) (s : State) : (s.setMaster m).streams = s.streams := rfl
@[simp] theorem State.setMaster_memory (m : Mastership) (s : State) : (s.setMaster m).memory = s.memory := rfl
@[simp] theorem State.setMaster_plan (m : Mastership) (s : State) : (s.setMaster m).plan = s.plan := rfl
@[simp] theorem State.setMaster_engine (m : Mastership) (s : State) : (s.setMaster m).engine = s.engine := rfl
@[simp] theorem State.setMaster_master (m : Mastership) (s : State) : (s.setMaster m).master = m := rfl
@[simp] theorem State.setMaster_time (m : Mastership) (s : State) : (s.setMaster m).time = s.time := rfl
@[simp] theorem State.setMaster_capture (m : Mastership) (s : State) : (s.setMaster m).capture = s.capture := rfl
@[simp] theorem State.setMaster_marks (m : Mastership) (s : State) : (s.setMaster m).marks = s.marks := rfl
@[simp] theorem State.setMaster_inReset (m : Mastership) (s : State) : (s.setMaster m).inReset = s.inReset := rfl
@[simp] theorem State.setMaster_pending (m : Mastership) (s : State) : (s.setMaster m).pending = s.pending := rfl

@[simp] theorem State.setTime_port (t : TimeUnit) (s : State) : (s.setTime t).port = s.port := rfl
@[simp] theorem State.setTime_reports (t : TimeUnit) (s : State) : (s.setTime t).reports = s.reports := rfl
@[simp] theorem State.setTime_streams (t : TimeUnit) (s : State) : (s.setTime t).streams = s.streams := rfl
@[simp] theorem State.setTime_memory (t : TimeUnit) (s : State) : (s.setTime t).memory = s.memory := rfl
@[simp] theorem State.setTime_plan (t : TimeUnit) (s : State) : (s.setTime t).plan = s.plan := rfl
@[simp] theorem State.setTime_engine (t : TimeUnit) (s : State) : (s.setTime t).engine = s.engine := rfl
@[simp] theorem State.setTime_master (t : TimeUnit) (s : State) : (s.setTime t).master = s.master := rfl
@[simp] theorem State.setTime_time (t : TimeUnit) (s : State) : (s.setTime t).time = t := rfl
@[simp] theorem State.setTime_capture (t : TimeUnit) (s : State) : (s.setTime t).capture = s.capture := rfl
@[simp] theorem State.setTime_marks (t : TimeUnit) (s : State) : (s.setTime t).marks = s.marks := rfl
@[simp] theorem State.setTime_inReset (t : TimeUnit) (s : State) : (s.setTime t).inReset = s.inReset := rfl
@[simp] theorem State.setTime_pending (t : TimeUnit) (s : State) : (s.setTime t).pending = s.pending := rfl

@[simp] theorem State.setCapture_port (c : CaptureUnit) (s : State) : (s.setCapture c).port = s.port := rfl
@[simp] theorem State.setCapture_reports (c : CaptureUnit) (s : State) : (s.setCapture c).reports = s.reports := rfl
@[simp] theorem State.setCapture_streams (c : CaptureUnit) (s : State) : (s.setCapture c).streams = s.streams := rfl
@[simp] theorem State.setCapture_memory (c : CaptureUnit) (s : State) : (s.setCapture c).memory = s.memory := rfl
@[simp] theorem State.setCapture_plan (c : CaptureUnit) (s : State) : (s.setCapture c).plan = s.plan := rfl
@[simp] theorem State.setCapture_engine (c : CaptureUnit) (s : State) : (s.setCapture c).engine = s.engine := rfl
@[simp] theorem State.setCapture_master (c : CaptureUnit) (s : State) : (s.setCapture c).master = s.master := rfl
@[simp] theorem State.setCapture_time (c : CaptureUnit) (s : State) : (s.setCapture c).time = s.time := rfl
@[simp] theorem State.setCapture_capture (c : CaptureUnit) (s : State) : (s.setCapture c).capture = c := rfl
@[simp] theorem State.setCapture_marks (c : CaptureUnit) (s : State) : (s.setCapture c).marks = s.marks := rfl
@[simp] theorem State.setCapture_inReset (c : CaptureUnit) (s : State) : (s.setCapture c).inReset = s.inReset := rfl
@[simp] theorem State.setCapture_pending (c : CaptureUnit) (s : State) : (s.setCapture c).pending = s.pending := rfl

@[simp] theorem State.setMarks_port (m : Vector MarkLine 4) (s : State) : (s.setMarks m).port = s.port := rfl
@[simp] theorem State.setMarks_reports (m : Vector MarkLine 4) (s : State) : (s.setMarks m).reports = s.reports := rfl
@[simp] theorem State.setMarks_streams (m : Vector MarkLine 4) (s : State) : (s.setMarks m).streams = s.streams := rfl
@[simp] theorem State.setMarks_memory (m : Vector MarkLine 4) (s : State) : (s.setMarks m).memory = s.memory := rfl
@[simp] theorem State.setMarks_plan (m : Vector MarkLine 4) (s : State) : (s.setMarks m).plan = s.plan := rfl
@[simp] theorem State.setMarks_engine (m : Vector MarkLine 4) (s : State) : (s.setMarks m).engine = s.engine := rfl
@[simp] theorem State.setMarks_master (m : Vector MarkLine 4) (s : State) : (s.setMarks m).master = s.master := rfl
@[simp] theorem State.setMarks_time (m : Vector MarkLine 4) (s : State) : (s.setMarks m).time = s.time := rfl
@[simp] theorem State.setMarks_capture (m : Vector MarkLine 4) (s : State) : (s.setMarks m).capture = s.capture := rfl
@[simp] theorem State.setMarks_marks (m : Vector MarkLine 4) (s : State) : (s.setMarks m).marks = m := rfl
@[simp] theorem State.setMarks_inReset (m : Vector MarkLine 4) (s : State) : (s.setMarks m).inReset = s.inReset := rfl
@[simp] theorem State.setMarks_pending (m : Vector MarkLine 4) (s : State) : (s.setMarks m).pending = s.pending := rfl

@[simp] theorem State.setInReset_port (b : Bool) (s : State) : (s.setInReset b).port = s.port := rfl
@[simp] theorem State.setInReset_reports (b : Bool) (s : State) : (s.setInReset b).reports = s.reports := rfl
@[simp] theorem State.setInReset_streams (b : Bool) (s : State) : (s.setInReset b).streams = s.streams := rfl
@[simp] theorem State.setInReset_memory (b : Bool) (s : State) : (s.setInReset b).memory = s.memory := rfl
@[simp] theorem State.setInReset_plan (b : Bool) (s : State) : (s.setInReset b).plan = s.plan := rfl
@[simp] theorem State.setInReset_engine (b : Bool) (s : State) : (s.setInReset b).engine = s.engine := rfl
@[simp] theorem State.setInReset_master (b : Bool) (s : State) : (s.setInReset b).master = s.master := rfl
@[simp] theorem State.setInReset_time (b : Bool) (s : State) : (s.setInReset b).time = s.time := rfl
@[simp] theorem State.setInReset_capture (b : Bool) (s : State) : (s.setInReset b).capture = s.capture := rfl
@[simp] theorem State.setInReset_marks (b : Bool) (s : State) : (s.setInReset b).marks = s.marks := rfl
@[simp] theorem State.setInReset_inReset (b : Bool) (s : State) : (s.setInReset b).inReset = b := rfl
@[simp] theorem State.setInReset_pending (b : Bool) (s : State) : (s.setInReset b).pending = s.pending := rfl

@[simp] theorem State.setPending_port (l : List Instr) (s : State) : (s.setPending l).port = s.port := rfl
@[simp] theorem State.setPending_reports (l : List Instr) (s : State) : (s.setPending l).reports = s.reports := rfl
@[simp] theorem State.setPending_streams (l : List Instr) (s : State) : (s.setPending l).streams = s.streams := rfl
@[simp] theorem State.setPending_memory (l : List Instr) (s : State) : (s.setPending l).memory = s.memory := rfl
@[simp] theorem State.setPending_plan (l : List Instr) (s : State) : (s.setPending l).plan = s.plan := rfl
@[simp] theorem State.setPending_engine (l : List Instr) (s : State) : (s.setPending l).engine = s.engine := rfl
@[simp] theorem State.setPending_master (l : List Instr) (s : State) : (s.setPending l).master = s.master := rfl
@[simp] theorem State.setPending_time (l : List Instr) (s : State) : (s.setPending l).time = s.time := rfl
@[simp] theorem State.setPending_capture (l : List Instr) (s : State) : (s.setPending l).capture = s.capture := rfl
@[simp] theorem State.setPending_marks (l : List Instr) (s : State) : (s.setPending l).marks = s.marks := rfl
@[simp] theorem State.setPending_inReset (l : List Instr) (s : State) : (s.setPending l).inReset = s.inReset := rfl
@[simp] theorem State.setPending_pending (l : List Instr) (s : State) : (s.setPending l).pending = l := rfl

@[simp] theorem State.setPort_stream (p : Port) (s : State) (i : Sid) : (s.setPort p).stream i = s.stream i := rfl
@[simp] theorem State.setPort_chain (p : Port) (s : State) (i : Sid) : (s.setPort p).chain i = s.chain i := rfl
@[simp] theorem State.setReports_stream (q : ReportQueue) (s : State) (i : Sid) : (s.setReports q).stream i = s.stream i := rfl
@[simp] theorem State.setReports_chain (q : ReportQueue) (s : State) (i : Sid) : (s.setReports q).chain i = s.chain i := rfl
@[simp] theorem State.setStreams_chain (v : Vector (Option StreamRecord) 16) (s : State) (i : Sid) : (s.setStreams v).chain i = s.chain i := rfl
@[simp] theorem State.setMemory_stream (m : SegmentMemory) (s : State) (i : Sid) : (s.setMemory m).stream i = s.stream i := rfl
@[simp] theorem State.setPlan_stream (p : Plan) (s : State) (i : Sid) : (s.setPlan p).stream i = s.stream i := rfl
@[simp] theorem State.setPlan_chain (p : Plan) (s : State) (i : Sid) : (s.setPlan p).chain i = s.chain i := rfl
@[simp] theorem State.setEngine_stream (e : LinkEngine) (s : State) (i : Sid) : (s.setEngine e).stream i = s.stream i := rfl
@[simp] theorem State.setEngine_chain (e : LinkEngine) (s : State) (i : Sid) : (s.setEngine e).chain i = s.chain i := rfl
@[simp] theorem State.setMaster_stream (m : Mastership) (s : State) (i : Sid) : (s.setMaster m).stream i = s.stream i := rfl
@[simp] theorem State.setMaster_chain (m : Mastership) (s : State) (i : Sid) : (s.setMaster m).chain i = s.chain i := rfl
@[simp] theorem State.setTime_stream (t : TimeUnit) (s : State) (i : Sid) : (s.setTime t).stream i = s.stream i := rfl
@[simp] theorem State.setTime_chain (t : TimeUnit) (s : State) (i : Sid) : (s.setTime t).chain i = s.chain i := rfl
@[simp] theorem State.setCapture_stream (c : CaptureUnit) (s : State) (i : Sid) : (s.setCapture c).stream i = s.stream i := rfl
@[simp] theorem State.setCapture_chain (c : CaptureUnit) (s : State) (i : Sid) : (s.setCapture c).chain i = s.chain i := rfl
@[simp] theorem State.setMarks_stream (m : Vector MarkLine 4) (s : State) (i : Sid) : (s.setMarks m).stream i = s.stream i := rfl
@[simp] theorem State.setMarks_chain (m : Vector MarkLine 4) (s : State) (i : Sid) : (s.setMarks m).chain i = s.chain i := rfl
@[simp] theorem State.setInReset_stream (b : Bool) (s : State) (i : Sid) : (s.setInReset b).stream i = s.stream i := rfl
@[simp] theorem State.setInReset_chain (b : Bool) (s : State) (i : Sid) : (s.setInReset b).chain i = s.chain i := rfl
@[simp] theorem State.setPending_stream (l : List Instr) (s : State) (i : Sid) : (s.setPending l).stream i = s.stream i := rfl
@[simp] theorem State.setPending_chain (l : List Instr) (s : State) (i : Sid) : (s.setPending l).chain i = s.chain i := rfl

@[simp] theorem State.setStream_port (i : Sid) (r : Option StreamRecord) (s : State) : (s.setStream i r).port = s.port := rfl
@[simp] theorem State.setChain_port (i : Sid) (c : Chain) (n : Nat) (s : State) : (s.setChain i c n).port = s.port := rfl
@[simp] theorem State.setStream_reports (i : Sid) (r : Option StreamRecord) (s : State) : (s.setStream i r).reports = s.reports := rfl
@[simp] theorem State.setChain_reports (i : Sid) (c : Chain) (n : Nat) (s : State) : (s.setChain i c n).reports = s.reports := rfl
@[simp] theorem State.setChain_streams (i : Sid) (c : Chain) (n : Nat) (s : State) : (s.setChain i c n).streams = s.streams := rfl
@[simp] theorem State.setStream_memory (i : Sid) (r : Option StreamRecord) (s : State) : (s.setStream i r).memory = s.memory := rfl
@[simp] theorem State.setStream_plan (i : Sid) (r : Option StreamRecord) (s : State) : (s.setStream i r).plan = s.plan := rfl
@[simp] theorem State.setChain_plan (i : Sid) (c : Chain) (n : Nat) (s : State) : (s.setChain i c n).plan = s.plan := rfl
@[simp] theorem State.setStream_engine (i : Sid) (r : Option StreamRecord) (s : State) : (s.setStream i r).engine = s.engine := rfl
@[simp] theorem State.setChain_engine (i : Sid) (c : Chain) (n : Nat) (s : State) : (s.setChain i c n).engine = s.engine := rfl
@[simp] theorem State.setStream_master (i : Sid) (r : Option StreamRecord) (s : State) : (s.setStream i r).master = s.master := rfl
@[simp] theorem State.setChain_master (i : Sid) (c : Chain) (n : Nat) (s : State) : (s.setChain i c n).master = s.master := rfl
@[simp] theorem State.setStream_time (i : Sid) (r : Option StreamRecord) (s : State) : (s.setStream i r).time = s.time := rfl
@[simp] theorem State.setChain_time (i : Sid) (c : Chain) (n : Nat) (s : State) : (s.setChain i c n).time = s.time := rfl
@[simp] theorem State.setStream_capture (i : Sid) (r : Option StreamRecord) (s : State) : (s.setStream i r).capture = s.capture := rfl
@[simp] theorem State.setChain_capture (i : Sid) (c : Chain) (n : Nat) (s : State) : (s.setChain i c n).capture = s.capture := rfl
@[simp] theorem State.setStream_marks (i : Sid) (r : Option StreamRecord) (s : State) : (s.setStream i r).marks = s.marks := rfl
@[simp] theorem State.setChain_marks (i : Sid) (c : Chain) (n : Nat) (s : State) : (s.setChain i c n).marks = s.marks := rfl
@[simp] theorem State.setStream_inReset (i : Sid) (r : Option StreamRecord) (s : State) : (s.setStream i r).inReset = s.inReset := rfl
@[simp] theorem State.setChain_inReset (i : Sid) (c : Chain) (n : Nat) (s : State) : (s.setChain i c n).inReset = s.inReset := rfl
@[simp] theorem State.setStream_pending (i : Sid) (r : Option StreamRecord) (s : State) : (s.setStream i r).pending = s.pending := rfl
@[simp] theorem State.setChain_pending (i : Sid) (c : Chain) (n : Nat) (s : State) : (s.setChain i c n).pending = s.pending := rfl

@[simp] theorem State.setStream_chain (i j : Sid) (r : Option StreamRecord) (s : State) :
    (s.setStream i r).chain j = s.chain j := rfl

@[simp] theorem State.setChain_stream (i j : Sid) (c : Chain) (n : Nat) (s : State) :
    (s.setChain i c n).stream j = s.stream j := rfl

@[simp] theorem State.setChain_free (i : Sid) (c : Chain) (n : Nat) (s : State) : (s.setChain i c n).memory.free = n := rfl

@[simp] theorem State.setChain_reservation (i : Sid) (c : Chain) (n : Nat) (s : State) :
    (s.setChain i c n).memory.reservation = s.memory.reservation := rfl

@[simp] theorem State.setStream_stream_self (i : Sid) (r : Option StreamRecord) (s : State) :
    (s.setStream i r).stream i = r := by
  simp [State.setStream, State.stream, State.setStreams]

theorem State.setStream_stream_ne {i j : Sid} (h : i ≠ j) (r : Option StreamRecord) (s : State) :
    (s.setStream i r).stream j = s.stream j := by
  simp only [State.setStream, State.stream, State.setStreams]
  exact Vector.getElem_set_ne i.isLt j.isLt (fun e => h (Fin.ext e))

@[simp] theorem State.setChain_chain_self (i : Sid) (c : Chain) (n : Nat) (s : State) : (s.setChain i c n).chain i = c := by
  simp [State.setChain, State.chain, State.setMemory]

theorem State.setChain_chain_ne {i j : Sid} (h : i ≠ j) (c : Chain) (n : Nat) (s : State) :
    (s.setChain i c n).chain j = s.chain j := by
  simp only [State.setChain, State.chain, State.setMemory]
  exact Vector.getElem_set_ne i.isLt j.isLt (fun e => h (Fin.ext e))

end Sys2Proof.Machine
end

