-- ==== Sys2Proof/Laws/Frames.lean ====
section
/-! SUPPORT. Frame lemmas of the shared operations: each operation leaves every block unchanged but the ones it names. -/

set_option linter.unusedTactic false
set_option linter.unreachableTactic false
set_option linter.unnecessarySeqFocus false

namespace Sys2Proof.Machine

/-- A view that each step of a fold keeps is kept by the fold. -/
theorem foldl_keeps {α β γ : Type} (f : α → γ) (g : α → β → α) (h : ∀ a b, f (g a b) = f a) (l : List β) (a : α) :
    f (l.foldl g a) = f a := by
  induction l generalizing a with
  | nil => rfl
  | cons b l ih => rw [List.foldl_cons, ih, h]

@[simp] theorem State.offer_port (r : Report) (s : State) : (s.offer r).port = s.port := rfl
@[simp] theorem State.offer_streams (r : Report) (s : State) : (s.offer r).streams = s.streams := rfl
@[simp] theorem State.offer_memory (r : Report) (s : State) : (s.offer r).memory = s.memory := rfl
@[simp] theorem State.offer_plan (r : Report) (s : State) : (s.offer r).plan = s.plan := rfl
@[simp] theorem State.offer_engine (r : Report) (s : State) : (s.offer r).engine = s.engine := rfl
@[simp] theorem State.offer_master (r : Report) (s : State) : (s.offer r).master = s.master := rfl
@[simp] theorem State.offer_time (r : Report) (s : State) : (s.offer r).time = s.time := rfl
@[simp] theorem State.offer_capture (r : Report) (s : State) : (s.offer r).capture = s.capture := rfl
@[simp] theorem State.offer_marks (r : Report) (s : State) : (s.offer r).marks = s.marks := rfl
@[simp] theorem State.offer_inReset (r : Report) (s : State) : (s.offer r).inReset = s.inReset := rfl
@[simp] theorem State.offer_pending (r : Report) (s : State) : (s.offer r).pending = s.pending := rfl

@[simp] theorem State.answer_reports (tag : Byte) (b : Body) (s : State) : (s.answer tag b).reports = s.reports := rfl
@[simp] theorem State.answer_streams (tag : Byte) (b : Body) (s : State) : (s.answer tag b).streams = s.streams := rfl
@[simp] theorem State.answer_memory (tag : Byte) (b : Body) (s : State) : (s.answer tag b).memory = s.memory := rfl
@[simp] theorem State.answer_plan (tag : Byte) (b : Body) (s : State) : (s.answer tag b).plan = s.plan := rfl
@[simp] theorem State.answer_engine (tag : Byte) (b : Body) (s : State) : (s.answer tag b).engine = s.engine := rfl
@[simp] theorem State.answer_master (tag : Byte) (b : Body) (s : State) : (s.answer tag b).master = s.master := rfl
@[simp] theorem State.answer_time (tag : Byte) (b : Body) (s : State) : (s.answer tag b).time = s.time := rfl
@[simp] theorem State.answer_capture (tag : Byte) (b : Body) (s : State) : (s.answer tag b).capture = s.capture := rfl
@[simp] theorem State.answer_marks (tag : Byte) (b : Body) (s : State) : (s.answer tag b).marks = s.marks := rfl
@[simp] theorem State.answer_inReset (tag : Byte) (b : Body) (s : State) : (s.answer tag b).inReset = s.inReset := rfl
@[simp] theorem State.answer_pending (tag : Byte) (b : Body) (s : State) : (s.answer tag b).pending = s.pending := rfl

@[simp] theorem State.answerWaiter_reports (w : Waiter) (b : Body) (s : State) : (s.answerWaiter w b).reports = s.reports := by cases w <;> rfl
@[simp] theorem State.answerWaiter_streams (w : Waiter) (b : Body) (s : State) : (s.answerWaiter w b).streams = s.streams := by cases w <;> rfl
@[simp] theorem State.answerWaiter_memory (w : Waiter) (b : Body) (s : State) : (s.answerWaiter w b).memory = s.memory := by cases w <;> rfl
@[simp] theorem State.answerWaiter_plan (w : Waiter) (b : Body) (s : State) : (s.answerWaiter w b).plan = s.plan := by cases w <;> rfl
@[simp] theorem State.answerWaiter_engine (w : Waiter) (b : Body) (s : State) : (s.answerWaiter w b).engine = s.engine := by cases w <;> rfl
@[simp] theorem State.answerWaiter_master (w : Waiter) (b : Body) (s : State) : (s.answerWaiter w b).master = s.master := by cases w <;> rfl
@[simp] theorem State.answerWaiter_time (w : Waiter) (b : Body) (s : State) : (s.answerWaiter w b).time = s.time := by cases w <;> rfl
@[simp] theorem State.answerWaiter_capture (w : Waiter) (b : Body) (s : State) : (s.answerWaiter w b).capture = s.capture := by cases w <;> rfl
@[simp] theorem State.answerWaiter_marks (w : Waiter) (b : Body) (s : State) : (s.answerWaiter w b).marks = s.marks := by cases w <;> rfl
@[simp] theorem State.answerWaiter_inReset (w : Waiter) (b : Body) (s : State) : (s.answerWaiter w b).inReset = s.inReset := by cases w <;> rfl
@[simp] theorem State.answerWaiter_pending (w : Waiter) (b : Body) (s : State) : (s.answerWaiter w b).pending = s.pending := by cases w <;> rfl

@[simp] theorem State.settleListen_reports (b : Body) (s : State) : (s.settleListen b).reports = s.reports := by
  simp only [State.settleListen]
  (repeat' split) <;> simp
@[simp] theorem State.settleListen_streams (b : Body) (s : State) : (s.settleListen b).streams = s.streams := by
  simp only [State.settleListen]
  (repeat' split) <;> simp
@[simp] theorem State.settleListen_memory (b : Body) (s : State) : (s.settleListen b).memory = s.memory := by
  simp only [State.settleListen]
  (repeat' split) <;> simp
@[simp] theorem State.settleListen_plan (b : Body) (s : State) : (s.settleListen b).plan = s.plan := by
  simp only [State.settleListen]
  (repeat' split) <;> simp
@[simp] theorem State.settleListen_engine (b : Body) (s : State) : (s.settleListen b).engine = s.engine := by
  simp only [State.settleListen]
  (repeat' split) <;> simp
@[simp] theorem State.settleListen_time (b : Body) (s : State) : (s.settleListen b).time = s.time := by
  simp only [State.settleListen]
  (repeat' split) <;> simp
@[simp] theorem State.settleListen_capture (b : Body) (s : State) : (s.settleListen b).capture = s.capture := by
  simp only [State.settleListen]
  (repeat' split) <;> simp
@[simp] theorem State.settleListen_marks (b : Body) (s : State) : (s.settleListen b).marks = s.marks := by
  simp only [State.settleListen]
  (repeat' split) <;> simp
@[simp] theorem State.settleListen_inReset (b : Body) (s : State) : (s.settleListen b).inReset = s.inReset := by
  simp only [State.settleListen]
  (repeat' split) <;> simp
@[simp] theorem State.settleListen_pending (b : Body) (s : State) : (s.settleListen b).pending = s.pending := by
  simp only [State.settleListen]
  (repeat' split) <;> simp

@[simp] theorem State.abandonRequests_reports (s : State) : (s.abandonRequests).reports = s.reports := rfl
@[simp] theorem State.abandonRequests_memory (s : State) : (s.abandonRequests).memory = s.memory := rfl
@[simp] theorem State.abandonRequests_plan (s : State) : (s.abandonRequests).plan = s.plan := rfl
@[simp] theorem State.abandonRequests_engine (s : State) : (s.abandonRequests).engine = s.engine := rfl
@[simp] theorem State.abandonRequests_time (s : State) : (s.abandonRequests).time = s.time := rfl
@[simp] theorem State.abandonRequests_capture (s : State) : (s.abandonRequests).capture = s.capture := rfl
@[simp] theorem State.abandonRequests_marks (s : State) : (s.abandonRequests).marks = s.marks := rfl
@[simp] theorem State.abandonRequests_inReset (s : State) : (s.abandonRequests).inReset = s.inReset := rfl
@[simp] theorem State.abandonRequests_pending (s : State) : (s.abandonRequests).pending = s.pending := rfl

@[simp] theorem State.returnReservation_port (s : State) : (s.returnReservation).port = s.port := by
  simp only [State.returnReservation]
  (repeat' split) <;> simp
@[simp] theorem State.returnReservation_reports (s : State) : (s.returnReservation).reports = s.reports := by
  simp only [State.returnReservation]
  (repeat' split) <;> simp
@[simp] theorem State.returnReservation_streams (s : State) : (s.returnReservation).streams = s.streams := by
  simp only [State.returnReservation]
  (repeat' split) <;> simp
@[simp] theorem State.returnReservation_plan (s : State) : (s.returnReservation).plan = s.plan := by
  simp only [State.returnReservation]
  (repeat' split) <;> simp
@[simp] theorem State.returnReservation_engine (s : State) : (s.returnReservation).engine = s.engine := by
  simp only [State.returnReservation]
  (repeat' split) <;> simp
@[simp] theorem State.returnReservation_master (s : State) : (s.returnReservation).master = s.master := by
  simp only [State.returnReservation]
  (repeat' split) <;> simp
@[simp] theorem State.returnReservation_time (s : State) : (s.returnReservation).time = s.time := by
  simp only [State.returnReservation]
  (repeat' split) <;> simp
@[simp] theorem State.returnReservation_capture (s : State) : (s.returnReservation).capture = s.capture := by
  simp only [State.returnReservation]
  (repeat' split) <;> simp
@[simp] theorem State.returnReservation_marks (s : State) : (s.returnReservation).marks = s.marks := by
  simp only [State.returnReservation]
  (repeat' split) <;> simp
@[simp] theorem State.returnReservation_inReset (s : State) : (s.returnReservation).inReset = s.inReset := by
  simp only [State.returnReservation]
  (repeat' split) <;> simp
@[simp] theorem State.returnReservation_pending (s : State) : (s.returnReservation).pending = s.pending := by
  simp only [State.returnReservation]
  (repeat' split) <;> simp

@[simp] theorem State.releaseLoad_port (i : Sid) (s : State) : (s.releaseLoad i).port = s.port := by
  simp only [State.releaseLoad]
  (repeat' split) <;> simp
@[simp] theorem State.releaseLoad_reports (i : Sid) (s : State) : (s.releaseLoad i).reports = s.reports := by
  simp only [State.releaseLoad]
  (repeat' split) <;> simp
@[simp] theorem State.releaseLoad_memory (i : Sid) (s : State) : (s.releaseLoad i).memory = s.memory := by
  simp only [State.releaseLoad]
  (repeat' split) <;> simp
@[simp] theorem State.releaseLoad_engine (i : Sid) (s : State) : (s.releaseLoad i).engine = s.engine := by
  simp only [State.releaseLoad]
  (repeat' split) <;> simp
@[simp] theorem State.releaseLoad_master (i : Sid) (s : State) : (s.releaseLoad i).master = s.master := by
  simp only [State.releaseLoad]
  (repeat' split) <;> simp
@[simp] theorem State.releaseLoad_time (i : Sid) (s : State) : (s.releaseLoad i).time = s.time := by
  simp only [State.releaseLoad]
  (repeat' split) <;> simp
@[simp] theorem State.releaseLoad_capture (i : Sid) (s : State) : (s.releaseLoad i).capture = s.capture := by
  simp only [State.releaseLoad]
  (repeat' split) <;> simp
@[simp] theorem State.releaseLoad_marks (i : Sid) (s : State) : (s.releaseLoad i).marks = s.marks := by
  simp only [State.releaseLoad]
  (repeat' split) <;> simp
@[simp] theorem State.releaseLoad_inReset (i : Sid) (s : State) : (s.releaseLoad i).inReset = s.inReset := by
  simp only [State.releaseLoad]
  (repeat' split) <;> simp
@[simp] theorem State.releaseLoad_pending (i : Sid) (s : State) : (s.releaseLoad i).pending = s.pending := by
  simp only [State.releaseLoad]
  (repeat' split) <;> simp

@[simp] theorem State.renew_port (i : Sid) (s : State) : (s.renew i).port = s.port := rfl
@[simp] theorem State.renew_reports (i : Sid) (s : State) : (s.renew i).reports = s.reports := rfl
@[simp] theorem State.renew_streams (i : Sid) (s : State) : (s.renew i).streams = s.streams := rfl
@[simp] theorem State.renew_memory (i : Sid) (s : State) : (s.renew i).memory = s.memory := rfl
@[simp] theorem State.renew_engine (i : Sid) (s : State) : (s.renew i).engine = s.engine := rfl
@[simp] theorem State.renew_master (i : Sid) (s : State) : (s.renew i).master = s.master := rfl
@[simp] theorem State.renew_time (i : Sid) (s : State) : (s.renew i).time = s.time := rfl
@[simp] theorem State.renew_capture (i : Sid) (s : State) : (s.renew i).capture = s.capture := rfl
@[simp] theorem State.renew_marks (i : Sid) (s : State) : (s.renew i).marks = s.marks := rfl
@[simp] theorem State.renew_inReset (i : Sid) (s : State) : (s.renew i).inReset = s.inReset := rfl
@[simp] theorem State.renew_pending (i : Sid) (s : State) : (s.renew i).pending = s.pending := rfl

@[simp] theorem State.endStream_port (i : Sid) (r : StreamRecord) (s : State) : (s.endStream i r).port = s.port := rfl
@[simp] theorem State.endStream_memory (i : Sid) (r : StreamRecord) (s : State) : (s.endStream i r).memory = s.memory := rfl
@[simp] theorem State.endStream_plan (i : Sid) (r : StreamRecord) (s : State) : (s.endStream i r).plan = s.plan := rfl
@[simp] theorem State.endStream_engine (i : Sid) (r : StreamRecord) (s : State) : (s.endStream i r).engine = s.engine := rfl
@[simp] theorem State.endStream_master (i : Sid) (r : StreamRecord) (s : State) : (s.endStream i r).master = s.master := rfl
@[simp] theorem State.endStream_time (i : Sid) (r : StreamRecord) (s : State) : (s.endStream i r).time = s.time := rfl
@[simp] theorem State.endStream_capture (i : Sid) (r : StreamRecord) (s : State) : (s.endStream i r).capture = s.capture := rfl
@[simp] theorem State.endStream_marks (i : Sid) (r : StreamRecord) (s : State) : (s.endStream i r).marks = s.marks := rfl
@[simp] theorem State.endStream_inReset (i : Sid) (r : StreamRecord) (s : State) : (s.endStream i r).inReset = s.inReset := rfl
@[simp] theorem State.endStream_pending (i : Sid) (r : StreamRecord) (s : State) : (s.endStream i r).pending = s.pending := rfl

@[simp] theorem State.halt_port (i : Sid) (r : StreamRecord) (c : Condition) (s : State) : (s.halt i r c).port = s.port := rfl
@[simp] theorem State.halt_memory (i : Sid) (r : StreamRecord) (c : Condition) (s : State) : (s.halt i r c).memory = s.memory := rfl
@[simp] theorem State.halt_plan (i : Sid) (r : StreamRecord) (c : Condition) (s : State) : (s.halt i r c).plan = s.plan := rfl
@[simp] theorem State.halt_engine (i : Sid) (r : StreamRecord) (c : Condition) (s : State) : (s.halt i r c).engine = s.engine := rfl
@[simp] theorem State.halt_master (i : Sid) (r : StreamRecord) (c : Condition) (s : State) : (s.halt i r c).master = s.master := rfl
@[simp] theorem State.halt_time (i : Sid) (r : StreamRecord) (c : Condition) (s : State) : (s.halt i r c).time = s.time := rfl
@[simp] theorem State.halt_capture (i : Sid) (r : StreamRecord) (c : Condition) (s : State) : (s.halt i r c).capture = s.capture := rfl
@[simp] theorem State.halt_marks (i : Sid) (r : StreamRecord) (c : Condition) (s : State) : (s.halt i r c).marks = s.marks := rfl
@[simp] theorem State.halt_inReset (i : Sid) (r : StreamRecord) (c : Condition) (s : State) : (s.halt i r c).inReset = s.inReset := rfl
@[simp] theorem State.halt_pending (i : Sid) (r : StreamRecord) (c : Condition) (s : State) : (s.halt i r c).pending = s.pending := rfl

@[simp] theorem State.offerRefill_port (i : Sid) (r : StreamRecord) (s : State) : (s.offerRefill i r).port = s.port := by
  simp only [State.offerRefill]
  (repeat' split) <;> simp
@[simp] theorem State.offerRefill_streams (i : Sid) (r : StreamRecord) (s : State) : (s.offerRefill i r).streams = s.streams := by
  simp only [State.offerRefill]
  (repeat' split) <;> simp
@[simp] theorem State.offerRefill_memory (i : Sid) (r : StreamRecord) (s : State) : (s.offerRefill i r).memory = s.memory := by
  simp only [State.offerRefill]
  (repeat' split) <;> simp
@[simp] theorem State.offerRefill_plan (i : Sid) (r : StreamRecord) (s : State) : (s.offerRefill i r).plan = s.plan := by
  simp only [State.offerRefill]
  (repeat' split) <;> simp
@[simp] theorem State.offerRefill_engine (i : Sid) (r : StreamRecord) (s : State) : (s.offerRefill i r).engine = s.engine := by
  simp only [State.offerRefill]
  (repeat' split) <;> simp
@[simp] theorem State.offerRefill_master (i : Sid) (r : StreamRecord) (s : State) : (s.offerRefill i r).master = s.master := by
  simp only [State.offerRefill]
  (repeat' split) <;> simp
@[simp] theorem State.offerRefill_time (i : Sid) (r : StreamRecord) (s : State) : (s.offerRefill i r).time = s.time := by
  simp only [State.offerRefill]
  (repeat' split) <;> simp
@[simp] theorem State.offerRefill_capture (i : Sid) (r : StreamRecord) (s : State) : (s.offerRefill i r).capture = s.capture := by
  simp only [State.offerRefill]
  (repeat' split) <;> simp
@[simp] theorem State.offerRefill_marks (i : Sid) (r : StreamRecord) (s : State) : (s.offerRefill i r).marks = s.marks := by
  simp only [State.offerRefill]
  (repeat' split) <;> simp
@[simp] theorem State.offerRefill_inReset (i : Sid) (r : StreamRecord) (s : State) : (s.offerRefill i r).inReset = s.inReset := by
  simp only [State.offerRefill]
  (repeat' split) <;> simp
@[simp] theorem State.offerRefill_pending (i : Sid) (r : StreamRecord) (s : State) : (s.offerRefill i r).pending = s.pending := by
  simp only [State.offerRefill]
  (repeat' split) <;> simp

@[simp] theorem State.trigger_port (i : Sid) (s : State) : (s.trigger i).port = s.port := by
  simp only [State.trigger]
  (repeat' split) <;> simp
@[simp] theorem State.trigger_memory (i : Sid) (s : State) : (s.trigger i).memory = s.memory := by
  simp only [State.trigger]
  (repeat' split) <;> simp
@[simp] theorem State.trigger_plan (i : Sid) (s : State) : (s.trigger i).plan = s.plan := by
  simp only [State.trigger]
  (repeat' split) <;> simp
@[simp] theorem State.trigger_engine (i : Sid) (s : State) : (s.trigger i).engine = s.engine := by
  simp only [State.trigger]
  (repeat' split) <;> simp
@[simp] theorem State.trigger_master (i : Sid) (s : State) : (s.trigger i).master = s.master := by
  simp only [State.trigger]
  (repeat' split) <;> simp
@[simp] theorem State.trigger_time (i : Sid) (s : State) : (s.trigger i).time = s.time := by
  simp only [State.trigger]
  (repeat' split) <;> simp
@[simp] theorem State.trigger_capture (i : Sid) (s : State) : (s.trigger i).capture = s.capture := by
  simp only [State.trigger]
  (repeat' split) <;> simp
@[simp] theorem State.trigger_marks (i : Sid) (s : State) : (s.trigger i).marks = s.marks := by
  simp only [State.trigger]
  (repeat' split) <;> simp
@[simp] theorem State.trigger_inReset (i : Sid) (s : State) : (s.trigger i).inReset = s.inReset := by
  simp only [State.trigger]
  (repeat' split) <;> simp
@[simp] theorem State.trigger_pending (i : Sid) (s : State) : (s.trigger i).pending = s.pending := by
  simp only [State.trigger]
  (repeat' split) <;> simp

@[simp] theorem State.elapse_port (n : Nat) (s : State) : (s.elapse n).port = s.port := rfl
@[simp] theorem State.elapse_reports (n : Nat) (s : State) : (s.elapse n).reports = s.reports := rfl
@[simp] theorem State.elapse_streams (n : Nat) (s : State) : (s.elapse n).streams = s.streams := rfl
@[simp] theorem State.elapse_memory (n : Nat) (s : State) : (s.elapse n).memory = s.memory := rfl
@[simp] theorem State.elapse_plan (n : Nat) (s : State) : (s.elapse n).plan = s.plan := rfl
@[simp] theorem State.elapse_master (n : Nat) (s : State) : (s.elapse n).master = s.master := rfl
@[simp] theorem State.elapse_capture (n : Nat) (s : State) : (s.elapse n).capture = s.capture := rfl
@[simp] theorem State.elapse_inReset (n : Nat) (s : State) : (s.elapse n).inReset = s.inReset := rfl
@[simp] theorem State.elapse_pending (n : Nat) (s : State) : (s.elapse n).pending = s.pending := rfl

@[simp] theorem State.setHearing_port (b : Bool) (s : State) : (s.setHearing b).port = s.port := rfl
@[simp] theorem State.setHearing_reports (b : Bool) (s : State) : (s.setHearing b).reports = s.reports := rfl
@[simp] theorem State.setHearing_streams (b : Bool) (s : State) : (s.setHearing b).streams = s.streams := rfl
@[simp] theorem State.setHearing_memory (b : Bool) (s : State) : (s.setHearing b).memory = s.memory := rfl
@[simp] theorem State.setHearing_plan (b : Bool) (s : State) : (s.setHearing b).plan = s.plan := rfl
@[simp] theorem State.setHearing_master (b : Bool) (s : State) : (s.setHearing b).master = s.master := rfl
@[simp] theorem State.setHearing_time (b : Bool) (s : State) : (s.setHearing b).time = s.time := rfl
@[simp] theorem State.setHearing_capture (b : Bool) (s : State) : (s.setHearing b).capture = s.capture := rfl
@[simp] theorem State.setHearing_marks (b : Bool) (s : State) : (s.setHearing b).marks = s.marks := rfl
@[simp] theorem State.setHearing_inReset (b : Bool) (s : State) : (s.setHearing b).inReset = s.inReset := rfl
@[simp] theorem State.setHearing_pending (b : Bool) (s : State) : (s.setHearing b).pending = s.pending := rfl

@[simp] theorem State.beginFrame_port (l : List Byte) (s : State) : (s.beginFrame l).port = s.port := rfl
@[simp] theorem State.beginFrame_reports (l : List Byte) (s : State) : (s.beginFrame l).reports = s.reports := rfl
@[simp] theorem State.beginFrame_streams (l : List Byte) (s : State) : (s.beginFrame l).streams = s.streams := rfl
@[simp] theorem State.beginFrame_memory (l : List Byte) (s : State) : (s.beginFrame l).memory = s.memory := rfl
@[simp] theorem State.beginFrame_plan (l : List Byte) (s : State) : (s.beginFrame l).plan = s.plan := rfl
@[simp] theorem State.beginFrame_master (l : List Byte) (s : State) : (s.beginFrame l).master = s.master := rfl
@[simp] theorem State.beginFrame_time (l : List Byte) (s : State) : (s.beginFrame l).time = s.time := rfl
@[simp] theorem State.beginFrame_capture (l : List Byte) (s : State) : (s.beginFrame l).capture = s.capture := rfl
@[simp] theorem State.beginFrame_marks (l : List Byte) (s : State) : (s.beginFrame l).marks = s.marks := rfl
@[simp] theorem State.beginFrame_inReset (l : List Byte) (s : State) : (s.beginFrame l).inReset = s.inReset := rfl
@[simp] theorem State.beginFrame_pending (l : List Byte) (s : State) : (s.beginFrame l).pending = s.pending := rfl

@[simp] theorem State.releaseLine_port (s : State) : (s.releaseLine).port = s.port := rfl
@[simp] theorem State.releaseLine_reports (s : State) : (s.releaseLine).reports = s.reports := rfl
@[simp] theorem State.releaseLine_streams (s : State) : (s.releaseLine).streams = s.streams := rfl
@[simp] theorem State.releaseLine_memory (s : State) : (s.releaseLine).memory = s.memory := rfl
@[simp] theorem State.releaseLine_plan (s : State) : (s.releaseLine).plan = s.plan := rfl
@[simp] theorem State.releaseLine_master (s : State) : (s.releaseLine).master = s.master := rfl
@[simp] theorem State.releaseLine_time (s : State) : (s.releaseLine).time = s.time := rfl
@[simp] theorem State.releaseLine_capture (s : State) : (s.releaseLine).capture = s.capture := rfl
@[simp] theorem State.releaseLine_marks (s : State) : (s.releaseLine).marks = s.marks := rfl
@[simp] theorem State.releaseLine_inReset (s : State) : (s.releaseLine).inReset = s.inReset := rfl
@[simp] theorem State.releaseLine_pending (s : State) : (s.releaseLine).pending = s.pending := rfl

@[simp] theorem State.reserve_port (i : Sid) (e : Nat) (s : State) : (s.reserve i e).port = s.port := rfl
@[simp] theorem State.reserve_reports (i : Sid) (e : Nat) (s : State) : (s.reserve i e).reports = s.reports := rfl
@[simp] theorem State.reserve_streams (i : Sid) (e : Nat) (s : State) : (s.reserve i e).streams = s.streams := rfl
@[simp] theorem State.reserve_plan (i : Sid) (e : Nat) (s : State) : (s.reserve i e).plan = s.plan := rfl
@[simp] theorem State.reserve_engine (i : Sid) (e : Nat) (s : State) : (s.reserve i e).engine = s.engine := rfl
@[simp] theorem State.reserve_master (i : Sid) (e : Nat) (s : State) : (s.reserve i e).master = s.master := rfl
@[simp] theorem State.reserve_time (i : Sid) (e : Nat) (s : State) : (s.reserve i e).time = s.time := rfl
@[simp] theorem State.reserve_capture (i : Sid) (e : Nat) (s : State) : (s.reserve i e).capture = s.capture := rfl
@[simp] theorem State.reserve_marks (i : Sid) (e : Nat) (s : State) : (s.reserve i e).marks = s.marks := rfl
@[simp] theorem State.reserve_inReset (i : Sid) (e : Nat) (s : State) : (s.reserve i e).inReset = s.inReset := rfl
@[simp] theorem State.reserve_pending (i : Sid) (e : Nat) (s : State) : (s.reserve i e).pending = s.pending := rfl

@[simp] theorem State.segmentTaken_port (tx : Transaction) (s : State) : (s.segmentTaken tx).port = s.port := rfl
@[simp] theorem State.segmentTaken_reports (tx : Transaction) (s : State) : (s.segmentTaken tx).reports = s.reports := rfl
@[simp] theorem State.segmentTaken_streams (tx : Transaction) (s : State) : (s.segmentTaken tx).streams = s.streams := rfl
@[simp] theorem State.segmentTaken_plan (tx : Transaction) (s : State) : (s.segmentTaken tx).plan = s.plan := rfl
@[simp] theorem State.segmentTaken_engine (tx : Transaction) (s : State) : (s.segmentTaken tx).engine = s.engine := rfl
@[simp] theorem State.segmentTaken_master (tx : Transaction) (s : State) : (s.segmentTaken tx).master = s.master := rfl
@[simp] theorem State.segmentTaken_time (tx : Transaction) (s : State) : (s.segmentTaken tx).time = s.time := rfl
@[simp] theorem State.segmentTaken_capture (tx : Transaction) (s : State) : (s.segmentTaken tx).capture = s.capture := rfl
@[simp] theorem State.segmentTaken_marks (tx : Transaction) (s : State) : (s.segmentTaken tx).marks = s.marks := rfl
@[simp] theorem State.segmentTaken_inReset (tx : Transaction) (s : State) : (s.segmentTaken tx).inReset = s.inReset := rfl
@[simp] theorem State.segmentTaken_pending (tx : Transaction) (s : State) : (s.segmentTaken tx).pending = s.pending := rfl

@[simp] theorem State.segmentStored_port (tx : Transaction) (s : State) : (s.segmentStored tx).port = s.port := by
  simp only [State.segmentStored]
  (repeat' split) <;> simp
@[simp] theorem State.segmentStored_streams (tx : Transaction) (s : State) : (s.segmentStored tx).streams = s.streams := by
  simp only [State.segmentStored]
  (repeat' split) <;> simp
@[simp] theorem State.segmentStored_plan (tx : Transaction) (s : State) : (s.segmentStored tx).plan = s.plan := by
  simp only [State.segmentStored]
  (repeat' split) <;> simp
@[simp] theorem State.segmentStored_engine (tx : Transaction) (s : State) : (s.segmentStored tx).engine = s.engine := by
  simp only [State.segmentStored]
  (repeat' split) <;> simp
@[simp] theorem State.segmentStored_master (tx : Transaction) (s : State) : (s.segmentStored tx).master = s.master := by
  simp only [State.segmentStored]
  (repeat' split) <;> simp
@[simp] theorem State.segmentStored_time (tx : Transaction) (s : State) : (s.segmentStored tx).time = s.time := by
  simp only [State.segmentStored]
  (repeat' split) <;> simp
@[simp] theorem State.segmentStored_capture (tx : Transaction) (s : State) : (s.segmentStored tx).capture = s.capture := by
  simp only [State.segmentStored]
  (repeat' split) <;> simp
@[simp] theorem State.segmentStored_marks (tx : Transaction) (s : State) : (s.segmentStored tx).marks = s.marks := by
  simp only [State.segmentStored]
  (repeat' split) <;> simp
@[simp] theorem State.segmentStored_inReset (tx : Transaction) (s : State) : (s.segmentStored tx).inReset = s.inReset := by
  simp only [State.segmentStored]
  (repeat' split) <;> simp
@[simp] theorem State.segmentStored_pending (tx : Transaction) (s : State) : (s.segmentStored tx).pending = s.pending := by
  simp only [State.segmentStored]
  (repeat' split) <;> simp

@[simp] theorem State.applyToMemory_port (tx : Transaction) (o : Outcome) (s : State) : (s.applyToMemory tx o).port = s.port := by
  simp only [State.applyToMemory]
  (repeat' split) <;> simp
@[simp] theorem State.applyToMemory_streams (tx : Transaction) (o : Outcome) (s : State) : (s.applyToMemory tx o).streams = s.streams := by
  simp only [State.applyToMemory]
  (repeat' split) <;> simp
@[simp] theorem State.applyToMemory_plan (tx : Transaction) (o : Outcome) (s : State) : (s.applyToMemory tx o).plan = s.plan := by
  simp only [State.applyToMemory]
  (repeat' split) <;> simp
@[simp] theorem State.applyToMemory_engine (tx : Transaction) (o : Outcome) (s : State) : (s.applyToMemory tx o).engine = s.engine := by
  simp only [State.applyToMemory]
  (repeat' split) <;> simp
@[simp] theorem State.applyToMemory_master (tx : Transaction) (o : Outcome) (s : State) : (s.applyToMemory tx o).master = s.master := by
  simp only [State.applyToMemory]
  (repeat' split) <;> simp
@[simp] theorem State.applyToMemory_time (tx : Transaction) (o : Outcome) (s : State) : (s.applyToMemory tx o).time = s.time := by
  simp only [State.applyToMemory]
  (repeat' split) <;> simp
@[simp] theorem State.applyToMemory_capture (tx : Transaction) (o : Outcome) (s : State) : (s.applyToMemory tx o).capture = s.capture := by
  simp only [State.applyToMemory]
  (repeat' split) <;> simp
@[simp] theorem State.applyToMemory_marks (tx : Transaction) (o : Outcome) (s : State) : (s.applyToMemory tx o).marks = s.marks := by
  simp only [State.applyToMemory]
  (repeat' split) <;> simp
@[simp] theorem State.applyToMemory_inReset (tx : Transaction) (o : Outcome) (s : State) : (s.applyToMemory tx o).inReset = s.inReset := by
  simp only [State.applyToMemory]
  (repeat' split) <;> simp
@[simp] theorem State.applyToMemory_pending (tx : Transaction) (o : Outcome) (s : State) : (s.applyToMemory tx o).pending = s.pending := by
  simp only [State.applyToMemory]
  (repeat' split) <;> simp

@[simp] theorem State.finish_port (i : Sid) (r : StreamRecord) (c : Condition) (s : State) : (s.finish i r c).port = s.port := by
  simp only [State.finish]
  (repeat' split) <;> simp
@[simp] theorem State.finish_memory (i : Sid) (r : StreamRecord) (c : Condition) (s : State) : (s.finish i r c).memory = s.memory := by
  simp only [State.finish]
  (repeat' split) <;> simp
@[simp] theorem State.finish_engine (i : Sid) (r : StreamRecord) (c : Condition) (s : State) : (s.finish i r c).engine = s.engine := by
  simp only [State.finish]
  (repeat' split) <;> simp
@[simp] theorem State.finish_master (i : Sid) (r : StreamRecord) (c : Condition) (s : State) : (s.finish i r c).master = s.master := by
  simp only [State.finish]
  (repeat' split) <;> simp
@[simp] theorem State.finish_time (i : Sid) (r : StreamRecord) (c : Condition) (s : State) : (s.finish i r c).time = s.time := by
  simp only [State.finish]
  (repeat' split) <;> simp
@[simp] theorem State.finish_capture (i : Sid) (r : StreamRecord) (c : Condition) (s : State) : (s.finish i r c).capture = s.capture := by
  simp only [State.finish]
  (repeat' split) <;> simp
@[simp] theorem State.finish_marks (i : Sid) (r : StreamRecord) (c : Condition) (s : State) : (s.finish i r c).marks = s.marks := by
  simp only [State.finish]
  (repeat' split) <;> simp
@[simp] theorem State.finish_inReset (i : Sid) (r : StreamRecord) (c : Condition) (s : State) : (s.finish i r c).inReset = s.inReset := by
  simp only [State.finish]
  (repeat' split) <;> simp
@[simp] theorem State.finish_pending (i : Sid) (r : StreamRecord) (c : Condition) (s : State) : (s.finish i r c).pending = s.pending := by
  simp only [State.finish]
  (repeat' split) <;> simp

@[simp] theorem State.goOn_port (i : Sid) (r : StreamRecord) (b : Bool) (s : State) : (s.goOn i r b).port = s.port := by
  simp only [State.goOn]
  (repeat' split) <;> simp
@[simp] theorem State.goOn_memory (i : Sid) (r : StreamRecord) (b : Bool) (s : State) : (s.goOn i r b).memory = s.memory := by
  simp only [State.goOn]
  (repeat' split) <;> simp
@[simp] theorem State.goOn_plan (i : Sid) (r : StreamRecord) (b : Bool) (s : State) : (s.goOn i r b).plan = s.plan := by
  simp only [State.goOn]
  (repeat' split) <;> simp
@[simp] theorem State.goOn_engine (i : Sid) (r : StreamRecord) (b : Bool) (s : State) : (s.goOn i r b).engine = s.engine := by
  simp only [State.goOn]
  (repeat' split) <;> simp
@[simp] theorem State.goOn_master (i : Sid) (r : StreamRecord) (b : Bool) (s : State) : (s.goOn i r b).master = s.master := by
  simp only [State.goOn]
  (repeat' split) <;> simp
@[simp] theorem State.goOn_time (i : Sid) (r : StreamRecord) (b : Bool) (s : State) : (s.goOn i r b).time = s.time := by
  simp only [State.goOn]
  (repeat' split) <;> simp
@[simp] theorem State.goOn_capture (i : Sid) (r : StreamRecord) (b : Bool) (s : State) : (s.goOn i r b).capture = s.capture := by
  simp only [State.goOn]
  (repeat' split) <;> simp
@[simp] theorem State.goOn_marks (i : Sid) (r : StreamRecord) (b : Bool) (s : State) : (s.goOn i r b).marks = s.marks := by
  simp only [State.goOn]
  (repeat' split) <;> simp
@[simp] theorem State.goOn_inReset (i : Sid) (r : StreamRecord) (b : Bool) (s : State) : (s.goOn i r b).inReset = s.inReset := by
  simp only [State.goOn]
  (repeat' split) <;> simp
@[simp] theorem State.goOn_pending (i : Sid) (r : StreamRecord) (b : Bool) (s : State) : (s.goOn i r b).pending = s.pending := by
  simp only [State.goOn]
  (repeat' split) <;> simp

@[simp] theorem State.applyAccepted_port (tx : Transaction) (r : StreamRecord) (s : State) : (s.applyAccepted tx r).port = s.port := by
  simp only [State.applyAccepted]
  (repeat' split) <;> simp
@[simp] theorem State.applyAccepted_memory (tx : Transaction) (r : StreamRecord) (s : State) : (s.applyAccepted tx r).memory = s.memory := by
  simp only [State.applyAccepted]
  (repeat' split) <;> simp
@[simp] theorem State.applyAccepted_engine (tx : Transaction) (r : StreamRecord) (s : State) : (s.applyAccepted tx r).engine = s.engine := by
  simp only [State.applyAccepted]
  (repeat' split) <;> simp
@[simp] theorem State.applyAccepted_master (tx : Transaction) (r : StreamRecord) (s : State) : (s.applyAccepted tx r).master = s.master := by
  simp only [State.applyAccepted]
  (repeat' split) <;> simp
@[simp] theorem State.applyAccepted_time (tx : Transaction) (r : StreamRecord) (s : State) : (s.applyAccepted tx r).time = s.time := by
  simp only [State.applyAccepted]
  (repeat' split) <;> simp
@[simp] theorem State.applyAccepted_capture (tx : Transaction) (r : StreamRecord) (s : State) : (s.applyAccepted tx r).capture = s.capture := by
  simp only [State.applyAccepted]
  (repeat' split) <;> simp
@[simp] theorem State.applyAccepted_marks (tx : Transaction) (r : StreamRecord) (s : State) : (s.applyAccepted tx r).marks = s.marks := by
  simp only [State.applyAccepted]
  (repeat' split) <;> simp
@[simp] theorem State.applyAccepted_inReset (tx : Transaction) (r : StreamRecord) (s : State) : (s.applyAccepted tx r).inReset = s.inReset := by
  simp only [State.applyAccepted]
  (repeat' split) <;> simp
@[simp] theorem State.applyAccepted_pending (tx : Transaction) (r : StreamRecord) (s : State) : (s.applyAccepted tx r).pending = s.pending := by
  simp only [State.applyAccepted]
  (repeat' split) <;> simp

@[simp] theorem State.applyFailure_port (i : Sid) (k : FailureKind) (r : StreamRecord) (s : State) : (s.applyFailure i k r).port = s.port := by
  simp only [State.applyFailure]
  (repeat' split) <;> simp
@[simp] theorem State.applyFailure_memory (i : Sid) (k : FailureKind) (r : StreamRecord) (s : State) : (s.applyFailure i k r).memory = s.memory := by
  simp only [State.applyFailure]
  (repeat' split) <;> simp
@[simp] theorem State.applyFailure_plan (i : Sid) (k : FailureKind) (r : StreamRecord) (s : State) : (s.applyFailure i k r).plan = s.plan := by
  simp only [State.applyFailure]
  (repeat' split) <;> simp
@[simp] theorem State.applyFailure_engine (i : Sid) (k : FailureKind) (r : StreamRecord) (s : State) : (s.applyFailure i k r).engine = s.engine := by
  simp only [State.applyFailure]
  (repeat' split) <;> simp
@[simp] theorem State.applyFailure_master (i : Sid) (k : FailureKind) (r : StreamRecord) (s : State) : (s.applyFailure i k r).master = s.master := by
  simp only [State.applyFailure]
  (repeat' split) <;> simp
@[simp] theorem State.applyFailure_time (i : Sid) (k : FailureKind) (r : StreamRecord) (s : State) : (s.applyFailure i k r).time = s.time := by
  simp only [State.applyFailure]
  (repeat' split) <;> simp
@[simp] theorem State.applyFailure_capture (i : Sid) (k : FailureKind) (r : StreamRecord) (s : State) : (s.applyFailure i k r).capture = s.capture := by
  simp only [State.applyFailure]
  (repeat' split) <;> simp
@[simp] theorem State.applyFailure_marks (i : Sid) (k : FailureKind) (r : StreamRecord) (s : State) : (s.applyFailure i k r).marks = s.marks := by
  simp only [State.applyFailure]
  (repeat' split) <;> simp
@[simp] theorem State.applyFailure_inReset (i : Sid) (k : FailureKind) (r : StreamRecord) (s : State) : (s.applyFailure i k r).inReset = s.inReset := by
  simp only [State.applyFailure]
  (repeat' split) <;> simp
@[simp] theorem State.applyFailure_pending (i : Sid) (k : FailureKind) (r : StreamRecord) (s : State) : (s.applyFailure i k r).pending = s.pending := by
  simp only [State.applyFailure]
  (repeat' split) <;> simp

@[simp] theorem State.applyToStream_port (tx : Transaction) (o : Outcome) (s : State) : (s.applyToStream tx o).port = s.port := by
  simp only [State.applyToStream]
  (repeat' split) <;> simp
@[simp] theorem State.applyToStream_memory (tx : Transaction) (o : Outcome) (s : State) : (s.applyToStream tx o).memory = s.memory := by
  simp only [State.applyToStream]
  (repeat' split) <;> simp
@[simp] theorem State.applyToStream_engine (tx : Transaction) (o : Outcome) (s : State) : (s.applyToStream tx o).engine = s.engine := by
  simp only [State.applyToStream]
  (repeat' split) <;> simp
@[simp] theorem State.applyToStream_master (tx : Transaction) (o : Outcome) (s : State) : (s.applyToStream tx o).master = s.master := by
  simp only [State.applyToStream]
  (repeat' split) <;> simp
@[simp] theorem State.applyToStream_time (tx : Transaction) (o : Outcome) (s : State) : (s.applyToStream tx o).time = s.time := by
  simp only [State.applyToStream]
  (repeat' split) <;> simp
@[simp] theorem State.applyToStream_capture (tx : Transaction) (o : Outcome) (s : State) : (s.applyToStream tx o).capture = s.capture := by
  simp only [State.applyToStream]
  (repeat' split) <;> simp
@[simp] theorem State.applyToStream_marks (tx : Transaction) (o : Outcome) (s : State) : (s.applyToStream tx o).marks = s.marks := by
  simp only [State.applyToStream]
  (repeat' split) <;> simp
@[simp] theorem State.applyToStream_inReset (tx : Transaction) (o : Outcome) (s : State) : (s.applyToStream tx o).inReset = s.inReset := by
  simp only [State.applyToStream]
  (repeat' split) <;> simp
@[simp] theorem State.applyToStream_pending (tx : Transaction) (o : Outcome) (s : State) : (s.applyToStream tx o).pending = s.pending := by
  simp only [State.applyToStream]
  (repeat' split) <;> simp

@[simp] theorem State.joinWaited_port (tx : Transaction) (o : Outcome) (s : State) : (s.joinWaited tx o).port = s.port := by
  simp only [State.joinWaited]
  (repeat' split) <;> simp
@[simp] theorem State.joinWaited_reports (tx : Transaction) (o : Outcome) (s : State) : (s.joinWaited tx o).reports = s.reports := by
  simp only [State.joinWaited]
  (repeat' split) <;> simp
@[simp] theorem State.joinWaited_streams (tx : Transaction) (o : Outcome) (s : State) : (s.joinWaited tx o).streams = s.streams := by
  simp only [State.joinWaited]
  (repeat' split) <;> simp
@[simp] theorem State.joinWaited_memory (tx : Transaction) (o : Outcome) (s : State) : (s.joinWaited tx o).memory = s.memory := by
  simp only [State.joinWaited]
  (repeat' split) <;> simp
@[simp] theorem State.joinWaited_engine (tx : Transaction) (o : Outcome) (s : State) : (s.joinWaited tx o).engine = s.engine := by
  simp only [State.joinWaited]
  (repeat' split) <;> simp
@[simp] theorem State.joinWaited_master (tx : Transaction) (o : Outcome) (s : State) : (s.joinWaited tx o).master = s.master := by
  simp only [State.joinWaited]
  (repeat' split) <;> simp
@[simp] theorem State.joinWaited_time (tx : Transaction) (o : Outcome) (s : State) : (s.joinWaited tx o).time = s.time := by
  simp only [State.joinWaited]
  (repeat' split) <;> simp
@[simp] theorem State.joinWaited_capture (tx : Transaction) (o : Outcome) (s : State) : (s.joinWaited tx o).capture = s.capture := by
  simp only [State.joinWaited]
  (repeat' split) <;> simp
@[simp] theorem State.joinWaited_marks (tx : Transaction) (o : Outcome) (s : State) : (s.joinWaited tx o).marks = s.marks := by
  simp only [State.joinWaited]
  (repeat' split) <;> simp
@[simp] theorem State.joinWaited_inReset (tx : Transaction) (o : Outcome) (s : State) : (s.joinWaited tx o).inReset = s.inReset := by
  simp only [State.joinWaited]
  (repeat' split) <;> simp
@[simp] theorem State.joinWaited_pending (tx : Transaction) (o : Outcome) (s : State) : (s.joinWaited tx o).pending = s.pending := by
  simp only [State.joinWaited]
  (repeat' split) <;> simp

@[simp] theorem State.dropTransaction_port (s : State) : (s.dropTransaction).port = s.port := by
  simp only [State.dropTransaction]
  (repeat' split) <;> simp
@[simp] theorem State.dropTransaction_reports (s : State) : (s.dropTransaction).reports = s.reports := by
  simp only [State.dropTransaction]
  (repeat' split) <;> simp
@[simp] theorem State.dropTransaction_streams (s : State) : (s.dropTransaction).streams = s.streams := by
  simp only [State.dropTransaction]
  (repeat' split) <;> simp
@[simp] theorem State.dropTransaction_plan (s : State) : (s.dropTransaction).plan = s.plan := by
  simp only [State.dropTransaction]
  (repeat' split) <;> simp
@[simp] theorem State.dropTransaction_master (s : State) : (s.dropTransaction).master = s.master := by
  simp only [State.dropTransaction]
  (repeat' split) <;> simp
@[simp] theorem State.dropTransaction_time (s : State) : (s.dropTransaction).time = s.time := by
  simp only [State.dropTransaction]
  (repeat' split) <;> simp
@[simp] theorem State.dropTransaction_capture (s : State) : (s.dropTransaction).capture = s.capture := by
  simp only [State.dropTransaction]
  (repeat' split) <;> simp
@[simp] theorem State.dropTransaction_marks (s : State) : (s.dropTransaction).marks = s.marks := by
  simp only [State.dropTransaction]
  (repeat' split) <;> simp
@[simp] theorem State.dropTransaction_inReset (s : State) : (s.dropTransaction).inReset = s.inReset := by
  simp only [State.dropTransaction]
  (repeat' split) <;> simp
@[simp] theorem State.dropTransaction_pending (s : State) : (s.dropTransaction).pending = s.pending := by
  simp only [State.dropTransaction]
  (repeat' split) <;> simp

@[simp] theorem State.mapRecord_port (f : CycleRecord → CycleRecord) (s : State) : (s.mapRecord f).port = s.port := rfl
@[simp] theorem State.mapRecord_reports (f : CycleRecord → CycleRecord) (s : State) : (s.mapRecord f).reports = s.reports := rfl
@[simp] theorem State.mapRecord_streams (f : CycleRecord → CycleRecord) (s : State) : (s.mapRecord f).streams = s.streams := rfl
@[simp] theorem State.mapRecord_memory (f : CycleRecord → CycleRecord) (s : State) : (s.mapRecord f).memory = s.memory := rfl
@[simp] theorem State.mapRecord_engine (f : CycleRecord → CycleRecord) (s : State) : (s.mapRecord f).engine = s.engine := rfl
@[simp] theorem State.mapRecord_master (f : CycleRecord → CycleRecord) (s : State) : (s.mapRecord f).master = s.master := rfl
@[simp] theorem State.mapRecord_time (f : CycleRecord → CycleRecord) (s : State) : (s.mapRecord f).time = s.time := rfl
@[simp] theorem State.mapRecord_capture (f : CycleRecord → CycleRecord) (s : State) : (s.mapRecord f).capture = s.capture := rfl
@[simp] theorem State.mapRecord_marks (f : CycleRecord → CycleRecord) (s : State) : (s.mapRecord f).marks = s.marks := rfl
@[simp] theorem State.mapRecord_inReset (f : CycleRecord → CycleRecord) (s : State) : (s.mapRecord f).inReset = s.inReset := rfl
@[simp] theorem State.mapRecord_pending (f : CycleRecord → CycleRecord) (s : State) : (s.mapRecord f).pending = s.pending := rfl

@[simp] theorem State.enterStage_port (st : Stage) (s : State) : (s.enterStage st).port = s.port := rfl
@[simp] theorem State.enterStage_reports (st : Stage) (s : State) : (s.enterStage st).reports = s.reports := rfl
@[simp] theorem State.enterStage_streams (st : Stage) (s : State) : (s.enterStage st).streams = s.streams := rfl
@[simp] theorem State.enterStage_memory (st : Stage) (s : State) : (s.enterStage st).memory = s.memory := rfl
@[simp] theorem State.enterStage_engine (st : Stage) (s : State) : (s.enterStage st).engine = s.engine := rfl
@[simp] theorem State.enterStage_master (st : Stage) (s : State) : (s.enterStage st).master = s.master := rfl
@[simp] theorem State.enterStage_time (st : Stage) (s : State) : (s.enterStage st).time = s.time := rfl
@[simp] theorem State.enterStage_capture (st : Stage) (s : State) : (s.enterStage st).capture = s.capture := rfl
@[simp] theorem State.enterStage_marks (st : Stage) (s : State) : (s.enterStage st).marks = s.marks := rfl
@[simp] theorem State.enterStage_inReset (st : Stage) (s : State) : (s.enterStage st).inReset = s.inReset := rfl
@[simp] theorem State.enterStage_pending (st : Stage) (s : State) : (s.enterStage st).pending = s.pending := rfl

@[simp] theorem State.noteLate_port (n : Nat) (s : State) : (s.noteLate n).port = s.port := by
  simp only [State.noteLate]
  (repeat' split) <;> simp
@[simp] theorem State.noteLate_streams (n : Nat) (s : State) : (s.noteLate n).streams = s.streams := by
  simp only [State.noteLate]
  (repeat' split) <;> simp
@[simp] theorem State.noteLate_memory (n : Nat) (s : State) : (s.noteLate n).memory = s.memory := by
  simp only [State.noteLate]
  (repeat' split) <;> simp
@[simp] theorem State.noteLate_engine (n : Nat) (s : State) : (s.noteLate n).engine = s.engine := by
  simp only [State.noteLate]
  (repeat' split) <;> simp
@[simp] theorem State.noteLate_master (n : Nat) (s : State) : (s.noteLate n).master = s.master := by
  simp only [State.noteLate]
  (repeat' split) <;> simp
@[simp] theorem State.noteLate_time (n : Nat) (s : State) : (s.noteLate n).time = s.time := by
  simp only [State.noteLate]
  (repeat' split) <;> simp
@[simp] theorem State.noteLate_capture (n : Nat) (s : State) : (s.noteLate n).capture = s.capture := by
  simp only [State.noteLate]
  (repeat' split) <;> simp
@[simp] theorem State.noteLate_marks (n : Nat) (s : State) : (s.noteLate n).marks = s.marks := by
  simp only [State.noteLate]
  (repeat' split) <;> simp
@[simp] theorem State.noteLate_inReset (n : Nat) (s : State) : (s.noteLate n).inReset = s.inReset := by
  simp only [State.noteLate]
  (repeat' split) <;> simp
@[simp] theorem State.noteLate_pending (n : Nat) (s : State) : (s.noteLate n).pending = s.pending := by
  simp only [State.noteLate]
  (repeat' split) <;> simp

@[simp] theorem State.grant_port (i : Sid) (r : StreamRecord) (n : Nat) (s : State) : (s.grant i r n).port = s.port := by
  simp only [State.grant]
  (repeat' split) <;> simp
@[simp] theorem State.grant_reports (i : Sid) (r : StreamRecord) (n : Nat) (s : State) : (s.grant i r n).reports = s.reports := by
  simp only [State.grant]
  (repeat' split) <;> simp
@[simp] theorem State.grant_streams (i : Sid) (r : StreamRecord) (n : Nat) (s : State) : (s.grant i r n).streams = s.streams := by
  simp only [State.grant]
  (repeat' split) <;> simp
@[simp] theorem State.grant_plan (i : Sid) (r : StreamRecord) (n : Nat) (s : State) : (s.grant i r n).plan = s.plan := by
  simp only [State.grant]
  (repeat' split) <;> simp
@[simp] theorem State.grant_master (i : Sid) (r : StreamRecord) (n : Nat) (s : State) : (s.grant i r n).master = s.master := by
  simp only [State.grant]
  (repeat' split) <;> simp
@[simp] theorem State.grant_time (i : Sid) (r : StreamRecord) (n : Nat) (s : State) : (s.grant i r n).time = s.time := by
  simp only [State.grant]
  (repeat' split) <;> simp
@[simp] theorem State.grant_capture (i : Sid) (r : StreamRecord) (n : Nat) (s : State) : (s.grant i r n).capture = s.capture := by
  simp only [State.grant]
  (repeat' split) <;> simp
@[simp] theorem State.grant_marks (i : Sid) (r : StreamRecord) (n : Nat) (s : State) : (s.grant i r n).marks = s.marks := by
  simp only [State.grant]
  (repeat' split) <;> simp
@[simp] theorem State.grant_inReset (i : Sid) (r : StreamRecord) (n : Nat) (s : State) : (s.grant i r n).inReset = s.inReset := by
  simp only [State.grant]
  (repeat' split) <;> simp
@[simp] theorem State.grant_pending (i : Sid) (r : StreamRecord) (n : Nat) (s : State) : (s.grant i r n).pending = s.pending := by
  simp only [State.grant]
  (repeat' split) <;> simp

@[simp] theorem State.considerDue_port (i : Sid) (s : State) : ((s.considerDue i).1).port = s.port := by
  simp only [State.considerDue]
  (repeat' split) <;> simp
@[simp] theorem State.considerDue_streams (i : Sid) (s : State) : ((s.considerDue i).1).streams = s.streams := by
  simp only [State.considerDue]
  (repeat' split) <;> simp
@[simp] theorem State.considerDue_master (i : Sid) (s : State) : ((s.considerDue i).1).master = s.master := by
  simp only [State.considerDue]
  (repeat' split) <;> simp
@[simp] theorem State.considerDue_time (i : Sid) (s : State) : ((s.considerDue i).1).time = s.time := by
  simp only [State.considerDue]
  (repeat' split) <;> simp
@[simp] theorem State.considerDue_capture (i : Sid) (s : State) : ((s.considerDue i).1).capture = s.capture := by
  simp only [State.considerDue]
  (repeat' split) <;> simp
@[simp] theorem State.considerDue_marks (i : Sid) (s : State) : ((s.considerDue i).1).marks = s.marks := by
  simp only [State.considerDue]
  (repeat' split) <;> simp
@[simp] theorem State.considerDue_inReset (i : Sid) (s : State) : ((s.considerDue i).1).inReset = s.inReset := by
  simp only [State.considerDue]
  (repeat' split) <;> simp
@[simp] theorem State.considerDue_pending (i : Sid) (s : State) : ((s.considerDue i).1).pending = s.pending := by
  simp only [State.considerDue]
  (repeat' split) <;> simp

@[simp] theorem State.considerDemand_port (i : Sid) (s : State) : ((s.considerDemand i).1).port = s.port := by
  simp only [State.considerDemand]
  (repeat' split) <;> simp
@[simp] theorem State.considerDemand_streams (i : Sid) (s : State) : ((s.considerDemand i).1).streams = s.streams := by
  simp only [State.considerDemand]
  (repeat' split) <;> simp
@[simp] theorem State.considerDemand_master (i : Sid) (s : State) : ((s.considerDemand i).1).master = s.master := by
  simp only [State.considerDemand]
  (repeat' split) <;> simp
@[simp] theorem State.considerDemand_time (i : Sid) (s : State) : ((s.considerDemand i).1).time = s.time := by
  simp only [State.considerDemand]
  (repeat' split) <;> simp
@[simp] theorem State.considerDemand_capture (i : Sid) (s : State) : ((s.considerDemand i).1).capture = s.capture := by
  simp only [State.considerDemand]
  (repeat' split) <;> simp
@[simp] theorem State.considerDemand_marks (i : Sid) (s : State) : ((s.considerDemand i).1).marks = s.marks := by
  simp only [State.considerDemand]
  (repeat' split) <;> simp
@[simp] theorem State.considerDemand_inReset (i : Sid) (s : State) : ((s.considerDemand i).1).inReset = s.inReset := by
  simp only [State.considerDemand]
  (repeat' split) <;> simp
@[simp] theorem State.considerDemand_pending (i : Sid) (s : State) : ((s.considerDemand i).1).pending = s.pending := by
  simp only [State.considerDemand]
  (repeat' split) <;> simp

@[simp] theorem State.pointAt_port (i : Sid) (s : State) : (s.pointAt i).port = s.port := rfl
@[simp] theorem State.pointAt_reports (i : Sid) (s : State) : (s.pointAt i).reports = s.reports := rfl
@[simp] theorem State.pointAt_streams (i : Sid) (s : State) : (s.pointAt i).streams = s.streams := rfl
@[simp] theorem State.pointAt_memory (i : Sid) (s : State) : (s.pointAt i).memory = s.memory := rfl
@[simp] theorem State.pointAt_engine (i : Sid) (s : State) : (s.pointAt i).engine = s.engine := rfl
@[simp] theorem State.pointAt_master (i : Sid) (s : State) : (s.pointAt i).master = s.master := rfl
@[simp] theorem State.pointAt_time (i : Sid) (s : State) : (s.pointAt i).time = s.time := rfl
@[simp] theorem State.pointAt_capture (i : Sid) (s : State) : (s.pointAt i).capture = s.capture := rfl
@[simp] theorem State.pointAt_marks (i : Sid) (s : State) : (s.pointAt i).marks = s.marks := rfl
@[simp] theorem State.pointAt_inReset (i : Sid) (s : State) : (s.pointAt i).inReset = s.inReset := rfl
@[simp] theorem State.pointAt_pending (i : Sid) (s : State) : (s.pointAt i).pending = s.pending := rfl

@[simp] theorem State.decideOutcome_port (o : Outcome) (ph : Phase) (s : State) : (s.decideOutcome o ph).port = s.port := rfl
@[simp] theorem State.decideOutcome_reports (o : Outcome) (ph : Phase) (s : State) : (s.decideOutcome o ph).reports = s.reports := rfl
@[simp] theorem State.decideOutcome_streams (o : Outcome) (ph : Phase) (s : State) : (s.decideOutcome o ph).streams = s.streams := rfl
@[simp] theorem State.decideOutcome_memory (o : Outcome) (ph : Phase) (s : State) : (s.decideOutcome o ph).memory = s.memory := rfl
@[simp] theorem State.decideOutcome_plan (o : Outcome) (ph : Phase) (s : State) : (s.decideOutcome o ph).plan = s.plan := rfl
@[simp] theorem State.decideOutcome_master (o : Outcome) (ph : Phase) (s : State) : (s.decideOutcome o ph).master = s.master := rfl
@[simp] theorem State.decideOutcome_time (o : Outcome) (ph : Phase) (s : State) : (s.decideOutcome o ph).time = s.time := rfl
@[simp] theorem State.decideOutcome_capture (o : Outcome) (ph : Phase) (s : State) : (s.decideOutcome o ph).capture = s.capture := rfl
@[simp] theorem State.decideOutcome_marks (o : Outcome) (ph : Phase) (s : State) : (s.decideOutcome o ph).marks = s.marks := rfl
@[simp] theorem State.decideOutcome_inReset (o : Outcome) (ph : Phase) (s : State) : (s.decideOutcome o ph).inReset = s.inReset := rfl
@[simp] theorem State.decideOutcome_pending (o : Outcome) (ph : Phase) (s : State) : (s.decideOutcome o ph).pending = s.pending := rfl

@[simp] theorem State.openRecord_port (s : State) : (s.openRecord).port = s.port := rfl
@[simp] theorem State.openRecord_reports (s : State) : (s.openRecord).reports = s.reports := rfl
@[simp] theorem State.openRecord_streams (s : State) : (s.openRecord).streams = s.streams := rfl
@[simp] theorem State.openRecord_memory (s : State) : (s.openRecord).memory = s.memory := rfl
@[simp] theorem State.openRecord_engine (s : State) : (s.openRecord).engine = s.engine := rfl
@[simp] theorem State.openRecord_master (s : State) : (s.openRecord).master = s.master := rfl
@[simp] theorem State.openRecord_time (s : State) : (s.openRecord).time = s.time := rfl
@[simp] theorem State.openRecord_capture (s : State) : (s.openRecord).capture = s.capture := rfl
@[simp] theorem State.openRecord_marks (s : State) : (s.openRecord).marks = s.marks := rfl
@[simp] theorem State.openRecord_inReset (s : State) : (s.openRecord).inReset = s.inReset := rfl
@[simp] theorem State.openRecord_pending (s : State) : (s.openRecord).pending = s.pending := rfl

@[simp] theorem State.standBy_port (s : State) : (s.standBy).port = s.port := rfl
@[simp] theorem State.standBy_reports (s : State) : (s.standBy).reports = s.reports := rfl
@[simp] theorem State.standBy_streams (s : State) : (s.standBy).streams = s.streams := rfl
@[simp] theorem State.standBy_memory (s : State) : (s.standBy).memory = s.memory := rfl
@[simp] theorem State.standBy_engine (s : State) : (s.standBy).engine = s.engine := rfl
@[simp] theorem State.standBy_master (s : State) : (s.standBy).master = s.master := rfl
@[simp] theorem State.standBy_time (s : State) : (s.standBy).time = s.time := rfl
@[simp] theorem State.standBy_capture (s : State) : (s.standBy).capture = s.capture := rfl
@[simp] theorem State.standBy_marks (s : State) : (s.standBy).marks = s.marks := rfl
@[simp] theorem State.standBy_inReset (s : State) : (s.standBy).inReset = s.inReset := rfl
@[simp] theorem State.standBy_pending (s : State) : (s.standBy).pending = s.pending := rfl

@[simp] theorem State.closeRecord_port (s : State) : (s.closeRecord).port = s.port := by
  simp only [State.closeRecord]
  (repeat' split) <;> simp
@[simp] theorem State.closeRecord_streams (s : State) : (s.closeRecord).streams = s.streams := by
  simp only [State.closeRecord]
  (repeat' split) <;> simp
@[simp] theorem State.closeRecord_memory (s : State) : (s.closeRecord).memory = s.memory := by
  simp only [State.closeRecord]
  (repeat' split) <;> simp
@[simp] theorem State.closeRecord_engine (s : State) : (s.closeRecord).engine = s.engine := by
  simp only [State.closeRecord]
  (repeat' split) <;> simp
@[simp] theorem State.closeRecord_master (s : State) : (s.closeRecord).master = s.master := by
  simp only [State.closeRecord]
  (repeat' split) <;> simp
@[simp] theorem State.closeRecord_time (s : State) : (s.closeRecord).time = s.time := by
  simp only [State.closeRecord]
  (repeat' split) <;> simp
@[simp] theorem State.closeRecord_capture (s : State) : (s.closeRecord).capture = s.capture := by
  simp only [State.closeRecord]
  (repeat' split) <;> simp
@[simp] theorem State.closeRecord_marks (s : State) : (s.closeRecord).marks = s.marks := by
  simp only [State.closeRecord]
  (repeat' split) <;> simp
@[simp] theorem State.closeRecord_inReset (s : State) : (s.closeRecord).inReset = s.inReset := by
  simp only [State.closeRecord]
  (repeat' split) <;> simp
@[simp] theorem State.closeRecord_pending (s : State) : (s.closeRecord).pending = s.pending := by
  simp only [State.closeRecord]
  (repeat' split) <;> simp

@[simp] theorem State.resyncAll_port (s : State) : (s.resyncAll).port = s.port := rfl
@[simp] theorem State.resyncAll_reports (s : State) : (s.resyncAll).reports = s.reports := rfl
@[simp] theorem State.resyncAll_memory (s : State) : (s.resyncAll).memory = s.memory := rfl
@[simp] theorem State.resyncAll_plan (s : State) : (s.resyncAll).plan = s.plan := rfl
@[simp] theorem State.resyncAll_engine (s : State) : (s.resyncAll).engine = s.engine := rfl
@[simp] theorem State.resyncAll_master (s : State) : (s.resyncAll).master = s.master := rfl
@[simp] theorem State.resyncAll_time (s : State) : (s.resyncAll).time = s.time := rfl
@[simp] theorem State.resyncAll_capture (s : State) : (s.resyncAll).capture = s.capture := rfl
@[simp] theorem State.resyncAll_marks (s : State) : (s.resyncAll).marks = s.marks := rfl
@[simp] theorem State.resyncAll_inReset (s : State) : (s.resyncAll).inReset = s.inReset := rfl
@[simp] theorem State.resyncAll_pending (s : State) : (s.resyncAll).pending = s.pending := rfl

@[simp] theorem State.triggerAll_port (t : StreamRecord → Bool) (s : State) : (s.triggerAll t).port = s.port := by
  simp only [State.triggerAll]
  rw [foldl_keeps (fun s : State => s.port) _ (by intros; (repeat' split) <;> simp)]
  (try simp)
@[simp] theorem State.triggerAll_memory (t : StreamRecord → Bool) (s : State) : (s.triggerAll t).memory = s.memory := by
  simp only [State.triggerAll]
  rw [foldl_keeps (fun s : State => s.memory) _ (by intros; (repeat' split) <;> simp)]
  (try simp)
@[simp] theorem State.triggerAll_plan (t : StreamRecord → Bool) (s : State) : (s.triggerAll t).plan = s.plan := by
  simp only [State.triggerAll]
  rw [foldl_keeps (fun s : State => s.plan) _ (by intros; (repeat' split) <;> simp)]
  (try simp)
@[simp] theorem State.triggerAll_engine (t : StreamRecord → Bool) (s : State) : (s.triggerAll t).engine = s.engine := by
  simp only [State.triggerAll]
  rw [foldl_keeps (fun s : State => s.engine) _ (by intros; (repeat' split) <;> simp)]
  (try simp)
@[simp] theorem State.triggerAll_master (t : StreamRecord → Bool) (s : State) : (s.triggerAll t).master = s.master := by
  simp only [State.triggerAll]
  rw [foldl_keeps (fun s : State => s.master) _ (by intros; (repeat' split) <;> simp)]
  (try simp)
@[simp] theorem State.triggerAll_time (t : StreamRecord → Bool) (s : State) : (s.triggerAll t).time = s.time := by
  simp only [State.triggerAll]
  rw [foldl_keeps (fun s : State => s.time) _ (by intros; (repeat' split) <;> simp)]
  (try simp)
@[simp] theorem State.triggerAll_capture (t : StreamRecord → Bool) (s : State) : (s.triggerAll t).capture = s.capture := by
  simp only [State.triggerAll]
  rw [foldl_keeps (fun s : State => s.capture) _ (by intros; (repeat' split) <;> simp)]
  (try simp)
@[simp] theorem State.triggerAll_marks (t : StreamRecord → Bool) (s : State) : (s.triggerAll t).marks = s.marks := by
  simp only [State.triggerAll]
  rw [foldl_keeps (fun s : State => s.marks) _ (by intros; (repeat' split) <;> simp)]
  (try simp)
@[simp] theorem State.triggerAll_inReset (t : StreamRecord → Bool) (s : State) : (s.triggerAll t).inReset = s.inReset := by
  simp only [State.triggerAll]
  rw [foldl_keeps (fun s : State => s.inReset) _ (by intros; (repeat' split) <;> simp)]
  (try simp)
@[simp] theorem State.triggerAll_pending (t : StreamRecord → Bool) (s : State) : (s.triggerAll t).pending = s.pending := by
  simp only [State.triggerAll]
  rw [foldl_keeps (fun s : State => s.pending) _ (by intros; (repeat' split) <;> simp)]
  (try simp)

@[simp] theorem State.passCycleStarts_port (a b : Cycle) (s : State) : (s.passCycleStarts a b).port = s.port := by
  simp only [State.passCycleStarts]
  (repeat' split) <;> simp
@[simp] theorem State.passCycleStarts_memory (a b : Cycle) (s : State) : (s.passCycleStarts a b).memory = s.memory := by
  simp only [State.passCycleStarts]
  (repeat' split) <;> simp
@[simp] theorem State.passCycleStarts_plan (a b : Cycle) (s : State) : (s.passCycleStarts a b).plan = s.plan := by
  simp only [State.passCycleStarts]
  (repeat' split) <;> simp
@[simp] theorem State.passCycleStarts_engine (a b : Cycle) (s : State) : (s.passCycleStarts a b).engine = s.engine := by
  simp only [State.passCycleStarts]
  (repeat' split) <;> simp
@[simp] theorem State.passCycleStarts_master (a b : Cycle) (s : State) : (s.passCycleStarts a b).master = s.master := by
  simp only [State.passCycleStarts]
  (repeat' split) <;> simp
@[simp] theorem State.passCycleStarts_time (a b : Cycle) (s : State) : (s.passCycleStarts a b).time = s.time := by
  simp only [State.passCycleStarts]
  (repeat' split) <;> simp
@[simp] theorem State.passCycleStarts_capture (a b : Cycle) (s : State) : (s.passCycleStarts a b).capture = s.capture := by
  simp only [State.passCycleStarts]
  (repeat' split) <;> simp
@[simp] theorem State.passCycleStarts_marks (a b : Cycle) (s : State) : (s.passCycleStarts a b).marks = s.marks := by
  simp only [State.passCycleStarts]
  (repeat' split) <;> simp
@[simp] theorem State.passCycleStarts_inReset (a b : Cycle) (s : State) : (s.passCycleStarts a b).inReset = s.inReset := by
  simp only [State.passCycleStarts]
  (repeat' split) <;> simp
@[simp] theorem State.passCycleStarts_pending (a b : Cycle) (s : State) : (s.passCycleStarts a b).pending = s.pending := by
  simp only [State.passCycleStarts]
  (repeat' split) <;> simp

@[simp] theorem State.settleHandovers_reports (b : Body) (s : State) : (s.settleHandovers b).reports = s.reports := by
  simp only [State.settleHandovers]
  rw [foldl_keeps (fun s : State => s.reports) _ (by intros; (repeat' split) <;> simp)]
  (try simp)
@[simp] theorem State.settleHandovers_streams (b : Body) (s : State) : (s.settleHandovers b).streams = s.streams := by
  simp only [State.settleHandovers]
  rw [foldl_keeps (fun s : State => s.streams) _ (by intros; (repeat' split) <;> simp)]
  (try simp)
@[simp] theorem State.settleHandovers_memory (b : Body) (s : State) : (s.settleHandovers b).memory = s.memory := by
  simp only [State.settleHandovers]
  rw [foldl_keeps (fun s : State => s.memory) _ (by intros; (repeat' split) <;> simp)]
  (try simp)
@[simp] theorem State.settleHandovers_plan (b : Body) (s : State) : (s.settleHandovers b).plan = s.plan := by
  simp only [State.settleHandovers]
  rw [foldl_keeps (fun s : State => s.plan) _ (by intros; (repeat' split) <;> simp)]
  (try simp)
@[simp] theorem State.settleHandovers_engine (b : Body) (s : State) : (s.settleHandovers b).engine = s.engine := by
  simp only [State.settleHandovers]
  rw [foldl_keeps (fun s : State => s.engine) _ (by intros; (repeat' split) <;> simp)]
  (try simp)
@[simp] theorem State.settleHandovers_time (b : Body) (s : State) : (s.settleHandovers b).time = s.time := by
  simp only [State.settleHandovers]
  rw [foldl_keeps (fun s : State => s.time) _ (by intros; (repeat' split) <;> simp)]
  (try simp)
@[simp] theorem State.settleHandovers_capture (b : Body) (s : State) : (s.settleHandovers b).capture = s.capture := by
  simp only [State.settleHandovers]
  rw [foldl_keeps (fun s : State => s.capture) _ (by intros; (repeat' split) <;> simp)]
  (try simp)
@[simp] theorem State.settleHandovers_marks (b : Body) (s : State) : (s.settleHandovers b).marks = s.marks := by
  simp only [State.settleHandovers]
  rw [foldl_keeps (fun s : State => s.marks) _ (by intros; (repeat' split) <;> simp)]
  (try simp)
@[simp] theorem State.settleHandovers_inReset (b : Body) (s : State) : (s.settleHandovers b).inReset = s.inReset := by
  simp only [State.settleHandovers]
  rw [foldl_keeps (fun s : State => s.inReset) _ (by intros; (repeat' split) <;> simp)]
  (try simp)
@[simp] theorem State.settleHandovers_pending (b : Body) (s : State) : (s.settleHandovers b).pending = s.pending := by
  simp only [State.settleHandovers]
  rw [foldl_keeps (fun s : State => s.pending) _ (by intros; (repeat' split) <;> simp)]
  (try simp)

@[simp] theorem State.resolveStop_memory (i : Sid) (s : State) : (s.resolveStop i).memory = s.memory := by
  simp only [State.resolveStop]
  (repeat' split) <;> (try rw [foldl_keeps (fun s : State => s.memory) _ (by intros; simp)]) <;> simp
@[simp] theorem State.resolveStop_plan (i : Sid) (s : State) : (s.resolveStop i).plan = s.plan := by
  simp only [State.resolveStop]
  (repeat' split) <;> (try rw [foldl_keeps (fun s : State => s.plan) _ (by intros; simp)]) <;> simp
@[simp] theorem State.resolveStop_engine (i : Sid) (s : State) : (s.resolveStop i).engine = s.engine := by
  simp only [State.resolveStop]
  (repeat' split) <;> (try rw [foldl_keeps (fun s : State => s.engine) _ (by intros; simp)]) <;> simp
@[simp] theorem State.resolveStop_master (i : Sid) (s : State) : (s.resolveStop i).master = s.master := by
  simp only [State.resolveStop]
  (repeat' split) <;> (try rw [foldl_keeps (fun s : State => s.master) _ (by intros; simp)]) <;> simp
@[simp] theorem State.resolveStop_time (i : Sid) (s : State) : (s.resolveStop i).time = s.time := by
  simp only [State.resolveStop]
  (repeat' split) <;> (try rw [foldl_keeps (fun s : State => s.time) _ (by intros; simp)]) <;> simp
@[simp] theorem State.resolveStop_capture (i : Sid) (s : State) : (s.resolveStop i).capture = s.capture := by
  simp only [State.resolveStop]
  (repeat' split) <;> (try rw [foldl_keeps (fun s : State => s.capture) _ (by intros; simp)]) <;> simp
@[simp] theorem State.resolveStop_marks (i : Sid) (s : State) : (s.resolveStop i).marks = s.marks := by
  simp only [State.resolveStop]
  (repeat' split) <;> (try rw [foldl_keeps (fun s : State => s.marks) _ (by intros; simp)]) <;> simp
@[simp] theorem State.resolveStop_inReset (i : Sid) (s : State) : (s.resolveStop i).inReset = s.inReset := by
  simp only [State.resolveStop]
  (repeat' split) <;> (try rw [foldl_keeps (fun s : State => s.inReset) _ (by intros; simp)]) <;> simp
@[simp] theorem State.resolveStop_pending (i : Sid) (s : State) : (s.resolveStop i).pending = s.pending := by
  simp only [State.resolveStop]
  (repeat' split) <;> (try rw [foldl_keeps (fun s : State => s.pending) _ (by intros; simp)]) <;> simp

@[simp] theorem State.applyOutcome_master (tx : Transaction) (o : Outcome) (s : State) : (s.applyOutcome tx o).master = s.master := by
  simp only [State.applyOutcome]
  (repeat' split) <;> simp
@[simp] theorem State.applyOutcome_time (tx : Transaction) (o : Outcome) (s : State) : (s.applyOutcome tx o).time = s.time := by
  simp only [State.applyOutcome]
  (repeat' split) <;> simp
@[simp] theorem State.applyOutcome_capture (tx : Transaction) (o : Outcome) (s : State) : (s.applyOutcome tx o).capture = s.capture := by
  simp only [State.applyOutcome]
  (repeat' split) <;> simp
@[simp] theorem State.applyOutcome_marks (tx : Transaction) (o : Outcome) (s : State) : (s.applyOutcome tx o).marks = s.marks := by
  simp only [State.applyOutcome]
  (repeat' split) <;> simp
@[simp] theorem State.applyOutcome_inReset (tx : Transaction) (o : Outcome) (s : State) : (s.applyOutcome tx o).inReset = s.inReset := by
  simp only [State.applyOutcome]
  (repeat' split) <;> simp
@[simp] theorem State.applyOutcome_pending (tx : Transaction) (o : Outcome) (s : State) : (s.applyOutcome tx o).pending = s.pending := by
  simp only [State.applyOutcome]
  (repeat' split) <;> simp

@[simp] theorem State.searchDemand_port (k : Nat) (i : Sid) (s : State) : (State.searchDemand k i s).port = s.port := by
  induction k generalizing i s with
  | zero => simp [State.searchDemand]
  | succ k ih =>
    have h := State.considerDemand_port i s
    simp only [State.searchDemand]
    split <;> rename_i e <;> rw [e] at h <;> simp_all
@[simp] theorem State.searchDemand_streams (k : Nat) (i : Sid) (s : State) : (State.searchDemand k i s).streams = s.streams := by
  induction k generalizing i s with
  | zero => simp [State.searchDemand]
  | succ k ih =>
    have h := State.considerDemand_streams i s
    simp only [State.searchDemand]
    split <;> rename_i e <;> rw [e] at h <;> simp_all
@[simp] theorem State.searchDemand_master (k : Nat) (i : Sid) (s : State) : (State.searchDemand k i s).master = s.master := by
  induction k generalizing i s with
  | zero => simp [State.searchDemand]
  | succ k ih =>
    have h := State.considerDemand_master i s
    simp only [State.searchDemand]
    split <;> rename_i e <;> rw [e] at h <;> simp_all
@[simp] theorem State.searchDemand_time (k : Nat) (i : Sid) (s : State) : (State.searchDemand k i s).time = s.time := by
  induction k generalizing i s with
  | zero => simp [State.searchDemand]
  | succ k ih =>
    have h := State.considerDemand_time i s
    simp only [State.searchDemand]
    split <;> rename_i e <;> rw [e] at h <;> simp_all
@[simp] theorem State.searchDemand_capture (k : Nat) (i : Sid) (s : State) : (State.searchDemand k i s).capture = s.capture := by
  induction k generalizing i s with
  | zero => simp [State.searchDemand]
  | succ k ih =>
    have h := State.considerDemand_capture i s
    simp only [State.searchDemand]
    split <;> rename_i e <;> rw [e] at h <;> simp_all
@[simp] theorem State.searchDemand_marks (k : Nat) (i : Sid) (s : State) : (State.searchDemand k i s).marks = s.marks := by
  induction k generalizing i s with
  | zero => simp [State.searchDemand]
  | succ k ih =>
    have h := State.considerDemand_marks i s
    simp only [State.searchDemand]
    split <;> rename_i e <;> rw [e] at h <;> simp_all
@[simp] theorem State.searchDemand_inReset (k : Nat) (i : Sid) (s : State) : (State.searchDemand k i s).inReset = s.inReset := by
  induction k generalizing i s with
  | zero => simp [State.searchDemand]
  | succ k ih =>
    have h := State.considerDemand_inReset i s
    simp only [State.searchDemand]
    split <;> rename_i e <;> rw [e] at h <;> simp_all
@[simp] theorem State.searchDemand_pending (k : Nat) (i : Sid) (s : State) : (State.searchDemand k i s).pending = s.pending := by
  induction k generalizing i s with
  | zero => simp [State.searchDemand]
  | succ k ih =>
    have h := State.considerDemand_pending i s
    simp only [State.searchDemand]
    split <;> rename_i e <;> rw [e] at h <;> simp_all

@[simp] theorem State.demandTurn_port (s : State) : (s.demandTurn).port = s.port := by
  simp only [State.demandTurn]
  (repeat' split) <;> simp
@[simp] theorem State.demandTurn_streams (s : State) : (s.demandTurn).streams = s.streams := by
  simp only [State.demandTurn]
  (repeat' split) <;> simp
@[simp] theorem State.demandTurn_master (s : State) : (s.demandTurn).master = s.master := by
  simp only [State.demandTurn]
  (repeat' split) <;> simp
@[simp] theorem State.demandTurn_time (s : State) : (s.demandTurn).time = s.time := by
  simp only [State.demandTurn]
  (repeat' split) <;> simp
@[simp] theorem State.demandTurn_capture (s : State) : (s.demandTurn).capture = s.capture := by
  simp only [State.demandTurn]
  (repeat' split) <;> simp
@[simp] theorem State.demandTurn_marks (s : State) : (s.demandTurn).marks = s.marks := by
  simp only [State.demandTurn]
  (repeat' split) <;> simp
@[simp] theorem State.demandTurn_inReset (s : State) : (s.demandTurn).inReset = s.inReset := by
  simp only [State.demandTurn]
  (repeat' split) <;> simp
@[simp] theorem State.demandTurn_pending (s : State) : (s.demandTurn).pending = s.pending := by
  simp only [State.demandTurn]
  (repeat' split) <;> simp

@[simp] theorem State.enterDemand_port (s : State) : (s.enterDemand).port = s.port := by
  simp only [State.enterDemand]
  (repeat' split) <;> simp
@[simp] theorem State.enterDemand_streams (s : State) : (s.enterDemand).streams = s.streams := by
  simp only [State.enterDemand]
  (repeat' split) <;> simp
@[simp] theorem State.enterDemand_master (s : State) : (s.enterDemand).master = s.master := by
  simp only [State.enterDemand]
  (repeat' split) <;> simp
@[simp] theorem State.enterDemand_time (s : State) : (s.enterDemand).time = s.time := by
  simp only [State.enterDemand]
  (repeat' split) <;> simp
@[simp] theorem State.enterDemand_capture (s : State) : (s.enterDemand).capture = s.capture := by
  simp only [State.enterDemand]
  (repeat' split) <;> simp
@[simp] theorem State.enterDemand_marks (s : State) : (s.enterDemand).marks = s.marks := by
  simp only [State.enterDemand]
  (repeat' split) <;> simp
@[simp] theorem State.enterDemand_inReset (s : State) : (s.enterDemand).inReset = s.inReset := by
  simp only [State.enterDemand]
  (repeat' split) <;> simp
@[simp] theorem State.enterDemand_pending (s : State) : (s.enterDemand).pending = s.pending := by
  simp only [State.enterDemand]
  (repeat' split) <;> simp

@[simp] theorem State.serveDue_port (l : List Sid) (s : State) : (State.serveDue l s).port = s.port := by
  induction l generalizing s with
  | nil => simp [State.serveDue]
  | cons i l ih =>
    have h := State.considerDue_port i s
    simp only [State.serveDue]
    split <;> rename_i e <;> rw [e] at h <;> simp_all
@[simp] theorem State.serveDue_streams (l : List Sid) (s : State) : (State.serveDue l s).streams = s.streams := by
  induction l generalizing s with
  | nil => simp [State.serveDue]
  | cons i l ih =>
    have h := State.considerDue_streams i s
    simp only [State.serveDue]
    split <;> rename_i e <;> rw [e] at h <;> simp_all
@[simp] theorem State.serveDue_master (l : List Sid) (s : State) : (State.serveDue l s).master = s.master := by
  induction l generalizing s with
  | nil => simp [State.serveDue]
  | cons i l ih =>
    have h := State.considerDue_master i s
    simp only [State.serveDue]
    split <;> rename_i e <;> rw [e] at h <;> simp_all
@[simp] theorem State.serveDue_time (l : List Sid) (s : State) : (State.serveDue l s).time = s.time := by
  induction l generalizing s with
  | nil => simp [State.serveDue]
  | cons i l ih =>
    have h := State.considerDue_time i s
    simp only [State.serveDue]
    split <;> rename_i e <;> rw [e] at h <;> simp_all
@[simp] theorem State.serveDue_capture (l : List Sid) (s : State) : (State.serveDue l s).capture = s.capture := by
  induction l generalizing s with
  | nil => simp [State.serveDue]
  | cons i l ih =>
    have h := State.considerDue_capture i s
    simp only [State.serveDue]
    split <;> rename_i e <;> rw [e] at h <;> simp_all
@[simp] theorem State.serveDue_marks (l : List Sid) (s : State) : (State.serveDue l s).marks = s.marks := by
  induction l generalizing s with
  | nil => simp [State.serveDue]
  | cons i l ih =>
    have h := State.considerDue_marks i s
    simp only [State.serveDue]
    split <;> rename_i e <;> rw [e] at h <;> simp_all
@[simp] theorem State.serveDue_inReset (l : List Sid) (s : State) : (State.serveDue l s).inReset = s.inReset := by
  induction l generalizing s with
  | nil => simp [State.serveDue]
  | cons i l ih =>
    have h := State.considerDue_inReset i s
    simp only [State.serveDue]
    split <;> rename_i e <;> rw [e] at h <;> simp_all
@[simp] theorem State.serveDue_pending (l : List Sid) (s : State) : (State.serveDue l s).pending = s.pending := by
  induction l generalizing s with
  | nil => simp [State.serveDue]
  | cons i l ih =>
    have h := State.considerDue_pending i s
    simp only [State.serveDue]
    split <;> rename_i e <;> rw [e] at h <;> simp_all

@[simp] theorem State.enterCyclic_port (s : State) : (s.enterCyclic).port = s.port := by
  simp only [State.enterCyclic]
  (repeat' split) <;> simp
@[simp] theorem State.enterCyclic_streams (s : State) : (s.enterCyclic).streams = s.streams := by
  simp only [State.enterCyclic]
  (repeat' split) <;> simp
@[simp] theorem State.enterCyclic_master (s : State) : (s.enterCyclic).master = s.master := by
  simp only [State.enterCyclic]
  (repeat' split) <;> simp
@[simp] theorem State.enterCyclic_time (s : State) : (s.enterCyclic).time = s.time := by
  simp only [State.enterCyclic]
  (repeat' split) <;> simp
@[simp] theorem State.enterCyclic_capture (s : State) : (s.enterCyclic).capture = s.capture := by
  simp only [State.enterCyclic]
  (repeat' split) <;> simp
@[simp] theorem State.enterCyclic_marks (s : State) : (s.enterCyclic).marks = s.marks := by
  simp only [State.enterCyclic]
  (repeat' split) <;> simp
@[simp] theorem State.enterCyclic_inReset (s : State) : (s.enterCyclic).inReset = s.inReset := by
  simp only [State.enterCyclic]
  (repeat' split) <;> simp
@[simp] theorem State.enterCyclic_pending (s : State) : (s.enterCyclic).pending = s.pending := by
  simp only [State.enterCyclic]
  (repeat' split) <;> simp

@[simp] theorem State.planContinues_port (s : State) : (s.planContinues).port = s.port := by
  simp only [State.planContinues]
  (repeat' split) <;> simp
@[simp] theorem State.planContinues_streams (s : State) : (s.planContinues).streams = s.streams := by
  simp only [State.planContinues]
  (repeat' split) <;> simp
@[simp] theorem State.planContinues_master (s : State) : (s.planContinues).master = s.master := by
  simp only [State.planContinues]
  (repeat' split) <;> simp
@[simp] theorem State.planContinues_time (s : State) : (s.planContinues).time = s.time := by
  simp only [State.planContinues]
  (repeat' split) <;> simp
@[simp] theorem State.planContinues_capture (s : State) : (s.planContinues).capture = s.capture := by
  simp only [State.planContinues]
  (repeat' split) <;> simp
@[simp] theorem State.planContinues_marks (s : State) : (s.planContinues).marks = s.marks := by
  simp only [State.planContinues]
  (repeat' split) <;> simp
@[simp] theorem State.planContinues_inReset (s : State) : (s.planContinues).inReset = s.inReset := by
  simp only [State.planContinues]
  (repeat' split) <;> simp
@[simp] theorem State.planContinues_pending (s : State) : (s.planContinues).pending = s.pending := by
  simp only [State.planContinues]
  (repeat' split) <;> simp

@[simp] theorem State.settleTransaction_master (m : MastState) (s : State) : (s.settleTransaction m).master = s.master := by
  simp only [State.settleTransaction]
  (repeat' split) <;> simp
@[simp] theorem State.settleTransaction_time (m : MastState) (s : State) : (s.settleTransaction m).time = s.time := by
  simp only [State.settleTransaction]
  (repeat' split) <;> simp
@[simp] theorem State.settleTransaction_capture (m : MastState) (s : State) : (s.settleTransaction m).capture = s.capture := by
  simp only [State.settleTransaction]
  (repeat' split) <;> simp
@[simp] theorem State.settleTransaction_marks (m : MastState) (s : State) : (s.settleTransaction m).marks = s.marks := by
  simp only [State.settleTransaction]
  (repeat' split) <;> simp
@[simp] theorem State.settleTransaction_inReset (m : MastState) (s : State) : (s.settleTransaction m).inReset = s.inReset := by
  simp only [State.settleTransaction]
  (repeat' split) <;> simp
@[simp] theorem State.settleTransaction_pending (m : MastState) (s : State) : (s.settleTransaction m).pending = s.pending := by
  simp only [State.settleTransaction]
  (repeat' split) <;> simp

@[simp] theorem State.loseLink_memory (i : Sid) (s : State) : (s.loseLink i).memory = s.memory := by
  simp only [State.loseLink]
  (repeat' split) <;> simp
@[simp] theorem State.loseLink_plan (i : Sid) (s : State) : (s.loseLink i).plan = s.plan := by
  simp only [State.loseLink]
  (repeat' split) <;> simp
@[simp] theorem State.loseLink_engine (i : Sid) (s : State) : (s.loseLink i).engine = s.engine := by
  simp only [State.loseLink]
  (repeat' split) <;> simp
@[simp] theorem State.loseLink_master (i : Sid) (s : State) : (s.loseLink i).master = s.master := by
  simp only [State.loseLink]
  (repeat' split) <;> simp
@[simp] theorem State.loseLink_time (i : Sid) (s : State) : (s.loseLink i).time = s.time := by
  simp only [State.loseLink]
  (repeat' split) <;> simp
@[simp] theorem State.loseLink_capture (i : Sid) (s : State) : (s.loseLink i).capture = s.capture := by
  simp only [State.loseLink]
  (repeat' split) <;> simp
@[simp] theorem State.loseLink_marks (i : Sid) (s : State) : (s.loseLink i).marks = s.marks := by
  simp only [State.loseLink]
  (repeat' split) <;> simp
@[simp] theorem State.loseLink_inReset (i : Sid) (s : State) : (s.loseLink i).inReset = s.inReset := by
  simp only [State.loseLink]
  (repeat' split) <;> simp
@[simp] theorem State.loseLink_pending (i : Sid) (s : State) : (s.loseLink i).pending = s.pending := by
  simp only [State.loseLink]
  (repeat' split) <;> simp

@[simp] theorem State.loseAll_memory (s : State) : (s.loseAll).memory = s.memory := by
  simp only [State.loseAll]
  rw [foldl_keeps (fun s : State => s.memory) _ (by intros; (repeat' split) <;> simp)]
  (try simp)
@[simp] theorem State.loseAll_plan (s : State) : (s.loseAll).plan = s.plan := by
  simp only [State.loseAll]
  rw [foldl_keeps (fun s : State => s.plan) _ (by intros; (repeat' split) <;> simp)]
  (try simp)
@[simp] theorem State.loseAll_engine (s : State) : (s.loseAll).engine = s.engine := by
  simp only [State.loseAll]
  rw [foldl_keeps (fun s : State => s.engine) _ (by intros; (repeat' split) <;> simp)]
  (try simp)
@[simp] theorem State.loseAll_master (s : State) : (s.loseAll).master = s.master := by
  simp only [State.loseAll]
  rw [foldl_keeps (fun s : State => s.master) _ (by intros; (repeat' split) <;> simp)]
  (try simp)
@[simp] theorem State.loseAll_time (s : State) : (s.loseAll).time = s.time := by
  simp only [State.loseAll]
  rw [foldl_keeps (fun s : State => s.time) _ (by intros; (repeat' split) <;> simp)]
  (try simp)
@[simp] theorem State.loseAll_capture (s : State) : (s.loseAll).capture = s.capture := by
  simp only [State.loseAll]
  rw [foldl_keeps (fun s : State => s.capture) _ (by intros; (repeat' split) <;> simp)]
  (try simp)
@[simp] theorem State.loseAll_marks (s : State) : (s.loseAll).marks = s.marks := by
  simp only [State.loseAll]
  rw [foldl_keeps (fun s : State => s.marks) _ (by intros; (repeat' split) <;> simp)]
  (try simp)
@[simp] theorem State.loseAll_inReset (s : State) : (s.loseAll).inReset = s.inReset := by
  simp only [State.loseAll]
  rw [foldl_keeps (fun s : State => s.inReset) _ (by intros; (repeat' split) <;> simp)]
  (try simp)
@[simp] theorem State.loseAll_pending (s : State) : (s.loseAll).pending = s.pending := by
  simp only [State.loseAll]
  rw [foldl_keeps (fun s : State => s.pending) _ (by intros; (repeat' split) <;> simp)]
  (try simp)

@[simp] theorem State.streamsFollow_memory (m : MastState) (s : State) : (s.streamsFollow m).memory = s.memory := by
  simp only [State.streamsFollow]
  (repeat' split) <;> simp
@[simp] theorem State.streamsFollow_plan (m : MastState) (s : State) : (s.streamsFollow m).plan = s.plan := by
  simp only [State.streamsFollow]
  (repeat' split) <;> simp
@[simp] theorem State.streamsFollow_engine (m : MastState) (s : State) : (s.streamsFollow m).engine = s.engine := by
  simp only [State.streamsFollow]
  (repeat' split) <;> simp
@[simp] theorem State.streamsFollow_master (m : MastState) (s : State) : (s.streamsFollow m).master = s.master := by
  simp only [State.streamsFollow]
  (repeat' split) <;> simp
@[simp] theorem State.streamsFollow_time (m : MastState) (s : State) : (s.streamsFollow m).time = s.time := by
  simp only [State.streamsFollow]
  (repeat' split) <;> simp
@[simp] theorem State.streamsFollow_capture (m : MastState) (s : State) : (s.streamsFollow m).capture = s.capture := by
  simp only [State.streamsFollow]
  (repeat' split) <;> simp
@[simp] theorem State.streamsFollow_marks (m : MastState) (s : State) : (s.streamsFollow m).marks = s.marks := by
  simp only [State.streamsFollow]
  (repeat' split) <;> simp
@[simp] theorem State.streamsFollow_inReset (m : MastState) (s : State) : (s.streamsFollow m).inReset = s.inReset := by
  simp only [State.streamsFollow]
  (repeat' split) <;> simp
@[simp] theorem State.streamsFollow_pending (m : MastState) (s : State) : (s.streamsFollow m).pending = s.pending := by
  simp only [State.streamsFollow]
  (repeat' split) <;> simp

@[simp] theorem State.planFollows_port (m : MastState) (s : State) : (s.planFollows m).port = s.port := by
  simp only [State.planFollows]
  (repeat' split) <;> simp
@[simp] theorem State.planFollows_reports (m : MastState) (s : State) : (s.planFollows m).reports = s.reports := by
  simp only [State.planFollows]
  (repeat' split) <;> simp
@[simp] theorem State.planFollows_streams (m : MastState) (s : State) : (s.planFollows m).streams = s.streams := by
  simp only [State.planFollows]
  (repeat' split) <;> simp
@[simp] theorem State.planFollows_memory (m : MastState) (s : State) : (s.planFollows m).memory = s.memory := by
  simp only [State.planFollows]
  (repeat' split) <;> simp
@[simp] theorem State.planFollows_master (m : MastState) (s : State) : (s.planFollows m).master = s.master := by
  simp only [State.planFollows]
  (repeat' split) <;> simp
@[simp] theorem State.planFollows_time (m : MastState) (s : State) : (s.planFollows m).time = s.time := by
  simp only [State.planFollows]
  (repeat' split) <;> simp
@[simp] theorem State.planFollows_capture (m : MastState) (s : State) : (s.planFollows m).capture = s.capture := by
  simp only [State.planFollows]
  (repeat' split) <;> simp
@[simp] theorem State.planFollows_marks (m : MastState) (s : State) : (s.planFollows m).marks = s.marks := by
  simp only [State.planFollows]
  (repeat' split) <;> simp
@[simp] theorem State.planFollows_inReset (m : MastState) (s : State) : (s.planFollows m).inReset = s.inReset := by
  simp only [State.planFollows]
  (repeat' split) <;> simp
@[simp] theorem State.planFollows_pending (m : MastState) (s : State) : (s.planFollows m).pending = s.pending := by
  simp only [State.planFollows]
  (repeat' split) <;> simp

@[simp] theorem State.leaveLeading_master (m : MastState) (s : State) : (s.leaveLeading m).master = s.master := by
  simp only [State.leaveLeading]
  (repeat' split) <;> simp
@[simp] theorem State.leaveLeading_time (m : MastState) (s : State) : (s.leaveLeading m).time = s.time := by
  simp only [State.leaveLeading]
  (repeat' split) <;> simp
@[simp] theorem State.leaveLeading_capture (m : MastState) (s : State) : (s.leaveLeading m).capture = s.capture := by
  simp only [State.leaveLeading]
  (repeat' split) <;> simp
@[simp] theorem State.leaveLeading_marks (m : MastState) (s : State) : (s.leaveLeading m).marks = s.marks := by
  simp only [State.leaveLeading]
  (repeat' split) <;> simp
@[simp] theorem State.leaveLeading_inReset (m : MastState) (s : State) : (s.leaveLeading m).inReset = s.inReset := by
  simp only [State.leaveLeading]
  (repeat' split) <;> simp
@[simp] theorem State.leaveLeading_pending (m : MastState) (s : State) : (s.leaveLeading m).pending = s.pending := by
  simp only [State.leaveLeading]
  (repeat' split) <;> simp

@[simp] theorem State.changeMastership_time (m : MastState) (c : Cause) (s : State) : (s.changeMastership m c).time = s.time := by
  simp only [State.changeMastership]
  (repeat' split) <;> simp
@[simp] theorem State.changeMastership_capture (m : MastState) (c : Cause) (s : State) : (s.changeMastership m c).capture = s.capture := by
  simp only [State.changeMastership]
  (repeat' split) <;> simp
@[simp] theorem State.changeMastership_marks (m : MastState) (c : Cause) (s : State) : (s.changeMastership m c).marks = s.marks := by
  simp only [State.changeMastership]
  (repeat' split) <;> simp
@[simp] theorem State.changeMastership_inReset (m : MastState) (c : Cause) (s : State) : (s.changeMastership m c).inReset = s.inReset := by
  simp only [State.changeMastership]
  (repeat' split) <;> simp
@[simp] theorem State.changeMastership_pending (m : MastState) (c : Cause) (s : State) : (s.changeMastership m c).pending = s.pending := by
  simp only [State.changeMastership]
  (repeat' split) <;> simp

@[simp] theorem State.masterBoundary_time (s : State) : (s.masterBoundary).time = s.time := by
  simp only [State.masterBoundary]
  (repeat' split) <;> simp
@[simp] theorem State.masterBoundary_capture (s : State) : (s.masterBoundary).capture = s.capture := by
  simp only [State.masterBoundary]
  (repeat' split) <;> simp
@[simp] theorem State.masterBoundary_marks (s : State) : (s.masterBoundary).marks = s.marks := by
  simp only [State.masterBoundary]
  (repeat' split) <;> simp
@[simp] theorem State.masterBoundary_inReset (s : State) : (s.masterBoundary).inReset = s.inReset := by
  simp only [State.masterBoundary]
  (repeat' split) <;> simp
@[simp] theorem State.masterBoundary_pending (s : State) : (s.masterBoundary).pending = s.pending := by
  simp only [State.masterBoundary]
  (repeat' split) <;> simp

@[simp] theorem State.planBoundary_port (s : State) : (s.planBoundary).port = s.port := by
  simp only [State.planBoundary]
  (repeat' split) <;> simp
@[simp] theorem State.planBoundary_streams (s : State) : (s.planBoundary).streams = s.streams := by
  simp only [State.planBoundary]
  (repeat' split) <;> simp
@[simp] theorem State.planBoundary_memory (s : State) : (s.planBoundary).memory = s.memory := by
  simp only [State.planBoundary]
  (repeat' split) <;> simp
@[simp] theorem State.planBoundary_engine (s : State) : (s.planBoundary).engine = s.engine := by
  simp only [State.planBoundary]
  (repeat' split) <;> simp
@[simp] theorem State.planBoundary_master (s : State) : (s.planBoundary).master = s.master := by
  simp only [State.planBoundary]
  (repeat' split) <;> simp
@[simp] theorem State.planBoundary_time (s : State) : (s.planBoundary).time = s.time := by
  simp only [State.planBoundary]
  (repeat' split) <;> simp
@[simp] theorem State.planBoundary_capture (s : State) : (s.planBoundary).capture = s.capture := by
  simp only [State.planBoundary]
  (repeat' split) <;> simp
@[simp] theorem State.planBoundary_marks (s : State) : (s.planBoundary).marks = s.marks := by
  simp only [State.planBoundary]
  (repeat' split) <;> simp
@[simp] theorem State.planBoundary_inReset (s : State) : (s.planBoundary).inReset = s.inReset := by
  simp only [State.planBoundary]
  (repeat' split) <;> simp
@[simp] theorem State.planBoundary_pending (s : State) : (s.planBoundary).pending = s.pending := by
  simp only [State.planBoundary]
  (repeat' split) <;> simp

@[simp] theorem State.timeBoundary_port (s : State) : (s.timeBoundary).port = s.port := rfl
@[simp] theorem State.timeBoundary_reports (s : State) : (s.timeBoundary).reports = s.reports := rfl
@[simp] theorem State.timeBoundary_streams (s : State) : (s.timeBoundary).streams = s.streams := rfl
@[simp] theorem State.timeBoundary_memory (s : State) : (s.timeBoundary).memory = s.memory := rfl
@[simp] theorem State.timeBoundary_plan (s : State) : (s.timeBoundary).plan = s.plan := rfl
@[simp] theorem State.timeBoundary_engine (s : State) : (s.timeBoundary).engine = s.engine := rfl
@[simp] theorem State.timeBoundary_master (s : State) : (s.timeBoundary).master = s.master := rfl
@[simp] theorem State.timeBoundary_capture (s : State) : (s.timeBoundary).capture = s.capture := rfl
@[simp] theorem State.timeBoundary_inReset (s : State) : (s.timeBoundary).inReset = s.inReset := rfl
@[simp] theorem State.timeBoundary_pending (s : State) : (s.timeBoundary).pending = s.pending := rfl

@[simp] theorem State.cycleBoundary_capture (s : State) : (s.cycleBoundary).capture = s.capture := by
  simp only [State.cycleBoundary]
  (repeat' split) <;> simp
@[simp] theorem State.cycleBoundary_inReset (s : State) : (s.cycleBoundary).inReset = s.inReset := by
  simp only [State.cycleBoundary]
  (repeat' split) <;> simp
@[simp] theorem State.cycleBoundary_pending (s : State) : (s.cycleBoundary).pending = s.pending := by
  simp only [State.cycleBoundary]
  (repeat' split) <;> simp

@[simp] theorem State.realign_port (c : Cycle) (s : State) : (s.realign c).port = s.port := by
  simp only [State.realign]
  (repeat' split) <;> simp
@[simp] theorem State.realign_memory (c : Cycle) (s : State) : (s.realign c).memory = s.memory := by
  simp only [State.realign]
  (repeat' split) <;> simp
@[simp] theorem State.realign_plan (c : Cycle) (s : State) : (s.realign c).plan = s.plan := by
  simp only [State.realign]
  (repeat' split) <;> simp
@[simp] theorem State.realign_engine (c : Cycle) (s : State) : (s.realign c).engine = s.engine := by
  simp only [State.realign]
  (repeat' split) <;> simp
@[simp] theorem State.realign_master (c : Cycle) (s : State) : (s.realign c).master = s.master := by
  simp only [State.realign]
  (repeat' split) <;> simp
@[simp] theorem State.realign_capture (c : Cycle) (s : State) : (s.realign c).capture = s.capture := by
  simp only [State.realign]
  (repeat' split) <;> simp
@[simp] theorem State.realign_inReset (c : Cycle) (s : State) : (s.realign c).inReset = s.inReset := by
  simp only [State.realign]
  (repeat' split) <;> simp
@[simp] theorem State.realign_pending (c : Cycle) (s : State) : (s.realign c).pending = s.pending := by
  simp only [State.realign]
  (repeat' split) <;> simp

@[simp] theorem State.follow_capture (u : UnitId) (c : Cycle) (k : Cause) (s : State) : (s.follow u c k).capture = s.capture := by
  simp only [State.follow]
  (repeat' split) <;> simp
@[simp] theorem State.follow_inReset (u : UnitId) (c : Cycle) (k : Cause) (s : State) : (s.follow u c k).inReset = s.inReset := by
  simp only [State.follow]
  (repeat' split) <;> simp
@[simp] theorem State.follow_pending (u : UnitId) (c : Cycle) (k : Cause) (s : State) : (s.follow u c k).pending = s.pending := by
  simp only [State.follow]
  (repeat' split) <;> simp

@[simp] theorem State.faulted_time (k : Cause) (s : State) : (s.faulted k).time = s.time := by
  simp only [State.faulted]
  (repeat' split) <;> simp
@[simp] theorem State.faulted_capture (k : Cause) (s : State) : (s.faulted k).capture = s.capture := by
  simp only [State.faulted]
  (repeat' split) <;> simp
@[simp] theorem State.faulted_marks (k : Cause) (s : State) : (s.faulted k).marks = s.marks := by
  simp only [State.faulted]
  (repeat' split) <;> simp
@[simp] theorem State.faulted_inReset (k : Cause) (s : State) : (s.faulted k).inReset = s.inReset := by
  simp only [State.faulted]
  (repeat' split) <;> simp
@[simp] theorem State.faulted_pending (k : Cause) (s : State) : (s.faulted k).pending = s.pending := by
  simp only [State.faulted]
  (repeat' split) <;> simp

/-- What `elapse`, a boundary and a stuck line preserve, the passing of time preserves: the rule of its invariants. -/
theorem State.advance_preserves {P : State → Prop} (he : ∀ n s, P s → P (State.elapse n s))
    (hb : ∀ s, P s → P (State.cycleBoundary s)) (hf : ∀ s, P s → P (State.faulted .stuckLine s)) (k n : Nat) (s : State)
    (h : P s) : P (s.advance k n) := by
  induction k generalizing n s with
  | zero => exact he n s h
  | succ k ih =>
    simp only [State.advance]
    split
    · exact ih _ _ (hf _ (he _ _ h))
    · split
      · exact ih _ _ (hb _ (he _ _ h))
      · exact he n s h

theorem State.passTime_preserves {P : State → Prop} (he : ∀ n s, P s → P (State.elapse n s))
    (hb : ∀ s, P s → P (State.cycleBoundary s)) (hf : ∀ s, P s → P (State.faulted .stuckLine s)) (n : Nat) (s : State)
    (h : P s) : P (s.passTime n) := State.advance_preserves he hb hf _ n s h

/-- A view that the passing of quiet time, a boundary and a stuck line keep is kept by the passing of time (R103, R127). -/
theorem State.passTime_keeps {γ : Type} (f : State → γ) (he : ∀ n s, f (State.elapse n s) = f s)
    (hb : ∀ s, f (State.cycleBoundary s) = f s) (hf : ∀ s, f (State.faulted .stuckLine s) = f s) (n : Nat) (s : State) :
    f (s.passTime n) = f s :=
  State.passTime_preserves (P := fun t => f t = f s) (fun n t h => (he n t).trans h) (fun t h => (hb t).trans h)
    (fun t h => (hf t).trans h) n s rfl

@[simp] theorem State.passTime_capture (n : Nat) (s : State) : (s.passTime n).capture = s.capture :=
  State.passTime_keeps State.capture (fun _ _ => rfl) (fun s => by simp) (fun s => by simp) n s
@[simp] theorem State.passTime_inReset (n : Nat) (s : State) : (s.passTime n).inReset = s.inReset :=
  State.passTime_keeps State.inReset (fun _ _ => rfl) (fun s => by simp) (fun s => by simp) n s
@[simp] theorem State.passTime_pending (n : Nat) (s : State) : (s.passTime n).pending = s.pending :=
  State.passTime_keeps State.pending (fun _ _ => rfl) (fun s => by simp) (fun s => by simp) n s

@[simp] theorem State.passBusy_capture (n : Nat) (s : State) : (s.passBusy n).capture = s.capture := by simp [State.passBusy]
@[simp] theorem State.passBusy_inReset (n : Nat) (s : State) : (s.passBusy n).inReset = s.inReset := by simp [State.passBusy]
@[simp] theorem State.passBusy_pending (n : Nat) (s : State) : (s.passBusy n).pending = s.pending := by simp [State.passBusy]

@[simp] theorem State.waitUntil_capture (n : Nat) (s : State) : (s.waitUntil n).capture = s.capture := by simp [State.waitUntil]
@[simp] theorem State.waitUntil_inReset (n : Nat) (s : State) : (s.waitUntil n).inReset = s.inReset := by simp [State.waitUntil]
@[simp] theorem State.waitUntil_pending (n : Nat) (s : State) : (s.waitUntil n).pending = s.pending := by simp [State.waitUntil]

@[simp] theorem State.waitIdle_capture (s : State) : (s.waitIdle).capture = s.capture := by simp [State.waitIdle]
@[simp] theorem State.waitIdle_inReset (s : State) : (s.waitIdle).inReset = s.inReset := by simp [State.waitIdle]
@[simp] theorem State.waitIdle_pending (s : State) : (s.waitIdle).pending = s.pending := by simp [State.waitIdle]

@[simp] theorem State.toBoundary_capture (s : State) : (s.toBoundary).capture = s.capture := by simp [State.toBoundary]
@[simp] theorem State.toBoundary_inReset (s : State) : (s.toBoundary).inReset = s.inReset := by simp [State.toBoundary]
@[simp] theorem State.toBoundary_pending (s : State) : (s.toBoundary).pending = s.pending := by simp [State.toBoundary]

theorem State.faulted_clock (c : Cause) (s : State) : (s.faulted c).time.clock = s.time.clock := by simp

theorem State.cycleBoundary_clock (s : State) : s.cycleBoundary.time.clock = s.time.clock := by
  simp only [State.cycleBoundary, State.masterBoundary]
  (repeat' split) <;> simp [State.timeBoundary, TimeUnit.boundary]

/-- The reference clock counts every microsecond that passes, whatever comes meanwhile. -/
theorem State.advance_clock (k n : Nat) (s : State) : (s.advance k n).time.clock = s.time.clock + n := by
  induction k generalizing n s with
  | zero => rfl
  | succ k ih =>
    simp only [State.advance]
    split
    · rename_i t h
      have ht : t ≤ n := by
        simp only [State.stuckWithin, Option.filter_eq_some_iff, decide_eq_true_eq] at h
        exact h.2.1
      rw [ih, State.faulted_clock]
      simp only [State.elapse, TimeUnit.run]
      omega
    · split
      · rename_i h
        rw [ih, State.cycleBoundary_clock]
        simp only [State.elapse, TimeUnit.run]
        omega
      · rfl

@[simp] theorem State.passTime_clock (n : Nat) (s : State) : (s.passTime n).time.clock = s.time.clock + n :=
  State.advance_clock _ n s

/-- With no boundary and no stuck line within it, time passes and nothing else happens. -/
theorem State.passTime_quiet (n : Nat) (s : State) (hb : n < s.untilBoundary) (hs : s.stuckWithin n = none) :
    s.passTime n = s.elapse n := by
  simp [State.passTime, State.advance, hs, Nat.not_le.mpr hb]

@[simp] theorem State.clash_capture (u : UnitId) (c : Cycle) (s : State) : (s.clash u c).capture = s.capture := by
  simp only [State.clash]
  (repeat' split) <;> simp
@[simp] theorem State.clash_inReset (u : UnitId) (c : Cycle) (s : State) : (s.clash u c).inReset = s.inReset := by
  simp only [State.clash]
  (repeat' split) <;> simp
@[simp] theorem State.clash_pending (u : UnitId) (c : Cycle) (s : State) : (s.clash u c).pending = s.pending := by
  simp only [State.clash]
  (repeat' split) <;> simp

@[simp] theorem State.beaconHeard_capture (u : UnitId) (c : Cycle) (s : State) : (s.beaconHeard u c).capture = s.capture := by
  simp only [State.beaconHeard]
  (repeat' split) <;> simp
@[simp] theorem State.beaconHeard_inReset (u : UnitId) (c : Cycle) (s : State) : (s.beaconHeard u c).inReset = s.inReset := by
  simp only [State.beaconHeard]
  (repeat' split) <;> simp
@[simp] theorem State.beaconHeard_pending (u : UnitId) (c : Cycle) (s : State) : (s.beaconHeard u c).pending = s.pending := by
  simp only [State.beaconHeard]
  (repeat' split) <;> simp

@[simp] theorem State.handoverEffect_time (s : State) : (s.handoverEffect).time = s.time := by
  simp only [State.handoverEffect]
  (repeat' split) <;> simp
@[simp] theorem State.handoverEffect_capture (s : State) : (s.handoverEffect).capture = s.capture := by
  simp only [State.handoverEffect]
  (repeat' split) <;> simp
@[simp] theorem State.handoverEffect_marks (s : State) : (s.handoverEffect).marks = s.marks := by
  simp only [State.handoverEffect]
  (repeat' split) <;> simp
@[simp] theorem State.handoverEffect_inReset (s : State) : (s.handoverEffect).inReset = s.inReset := by
  simp only [State.handoverEffect]
  (repeat' split) <;> simp
@[simp] theorem State.handoverEffect_pending (s : State) : (s.handoverEffect).pending = s.pending := by
  simp only [State.handoverEffect]
  (repeat' split) <;> simp

@[simp] theorem State.setTransaction_port (tx : Transaction) (s : State) : (s.setTransaction tx).port = s.port := rfl
@[simp] theorem State.setTransaction_reports (tx : Transaction) (s : State) : (s.setTransaction tx).reports = s.reports := rfl
@[simp] theorem State.setTransaction_streams (tx : Transaction) (s : State) : (s.setTransaction tx).streams = s.streams := rfl
@[simp] theorem State.setTransaction_memory (tx : Transaction) (s : State) : (s.setTransaction tx).memory = s.memory := rfl
@[simp] theorem State.setTransaction_plan (tx : Transaction) (s : State) : (s.setTransaction tx).plan = s.plan := rfl
@[simp] theorem State.setTransaction_master (tx : Transaction) (s : State) : (s.setTransaction tx).master = s.master := rfl
@[simp] theorem State.setTransaction_time (tx : Transaction) (s : State) : (s.setTransaction tx).time = s.time := rfl
@[simp] theorem State.setTransaction_capture (tx : Transaction) (s : State) : (s.setTransaction tx).capture = s.capture := rfl
@[simp] theorem State.setTransaction_marks (tx : Transaction) (s : State) : (s.setTransaction tx).marks = s.marks := rfl
@[simp] theorem State.setTransaction_inReset (tx : Transaction) (s : State) : (s.setTransaction tx).inReset = s.inReset := rfl
@[simp] theorem State.setTransaction_pending (tx : Transaction) (s : State) : (s.setTransaction tx).pending = s.pending := rfl

@[simp] theorem State.frameSent_port (tx : Transaction) (ph : Phase) (s : State) : (s.frameSent tx ph).port = s.port := rfl
@[simp] theorem State.frameSent_reports (tx : Transaction) (ph : Phase) (s : State) : (s.frameSent tx ph).reports = s.reports := rfl
@[simp] theorem State.frameSent_streams (tx : Transaction) (ph : Phase) (s : State) : (s.frameSent tx ph).streams = s.streams := rfl
@[simp] theorem State.frameSent_memory (tx : Transaction) (ph : Phase) (s : State) : (s.frameSent tx ph).memory = s.memory := rfl
@[simp] theorem State.frameSent_plan (tx : Transaction) (ph : Phase) (s : State) : (s.frameSent tx ph).plan = s.plan := rfl
@[simp] theorem State.frameSent_master (tx : Transaction) (ph : Phase) (s : State) : (s.frameSent tx ph).master = s.master := rfl
@[simp] theorem State.frameSent_time (tx : Transaction) (ph : Phase) (s : State) : (s.frameSent tx ph).time = s.time := rfl
@[simp] theorem State.frameSent_capture (tx : Transaction) (ph : Phase) (s : State) : (s.frameSent tx ph).capture = s.capture := rfl
@[simp] theorem State.frameSent_marks (tx : Transaction) (ph : Phase) (s : State) : (s.frameSent tx ph).marks = s.marks := rfl
@[simp] theorem State.frameSent_inReset (tx : Transaction) (ph : Phase) (s : State) : (s.frameSent tx ph).inReset = s.inReset := rfl
@[simp] theorem State.frameSent_pending (tx : Transaction) (ph : Phase) (s : State) : (s.frameSent tx ph).pending = s.pending := rfl

@[simp] theorem State.endTransaction_master (s : State) : (s.endTransaction).master = s.master := by
  simp only [State.endTransaction]
  (repeat' split) <;> simp
@[simp] theorem State.endTransaction_time (s : State) : (s.endTransaction).time = s.time := by
  simp only [State.endTransaction]
  (repeat' split) <;> simp
@[simp] theorem State.endTransaction_capture (s : State) : (s.endTransaction).capture = s.capture := by
  simp only [State.endTransaction]
  (repeat' split) <;> simp
@[simp] theorem State.endTransaction_marks (s : State) : (s.endTransaction).marks = s.marks := by
  simp only [State.endTransaction]
  (repeat' split) <;> simp
@[simp] theorem State.endTransaction_inReset (s : State) : (s.endTransaction).inReset = s.inReset := by
  simp only [State.endTransaction]
  (repeat' split) <;> simp
@[simp] theorem State.endTransaction_pending (s : State) : (s.endTransaction).pending = s.pending := by
  simp only [State.endTransaction]
  (repeat' split) <;> simp

@[simp] theorem State.silentReply_master (s : State) : (s.silentReply).master = s.master := by
  simp only [State.silentReply]
  (repeat' split) <;> simp
@[simp] theorem State.silentReply_time (s : State) : (s.silentReply).time = s.time := by
  simp only [State.silentReply]
  (repeat' split) <;> simp
@[simp] theorem State.silentReply_capture (s : State) : (s.silentReply).capture = s.capture := by
  simp only [State.silentReply]
  (repeat' split) <;> simp
@[simp] theorem State.silentReply_marks (s : State) : (s.silentReply).marks = s.marks := by
  simp only [State.silentReply]
  (repeat' split) <;> simp
@[simp] theorem State.silentReply_inReset (s : State) : (s.silentReply).inReset = s.inReset := by
  simp only [State.silentReply]
  (repeat' split) <;> simp
@[simp] theorem State.silentReply_pending (s : State) : (s.silentReply).pending = s.pending := by
  simp only [State.silentReply]
  (repeat' split) <;> simp

@[simp] theorem State.closeWindow_master (s : State) : (s.closeWindow).master = s.master := by
  simp only [State.closeWindow]
  (repeat' split) <;> simp
@[simp] theorem State.closeWindow_time (s : State) : (s.closeWindow).time = s.time := by
  simp only [State.closeWindow]
  (repeat' split) <;> simp
@[simp] theorem State.closeWindow_capture (s : State) : (s.closeWindow).capture = s.capture := by
  simp only [State.closeWindow]
  (repeat' split) <;> simp
@[simp] theorem State.closeWindow_marks (s : State) : (s.closeWindow).marks = s.marks := by
  simp only [State.closeWindow]
  (repeat' split) <;> simp
@[simp] theorem State.closeWindow_inReset (s : State) : (s.closeWindow).inReset = s.inReset := by
  simp only [State.closeWindow]
  (repeat' split) <;> simp
@[simp] theorem State.closeWindow_pending (s : State) : (s.closeWindow).pending = s.pending := by
  simp only [State.closeWindow]
  (repeat' split) <;> simp

/-- What a wait keeps and an act keeps is kept by a transaction that waits in its phase. -/
theorem State.whenPhase_keeps {γ : Type} (f : State → γ) (ph : Phase) (b : Bool) (wait : State → State)
    (act : Transaction → State → State) (hw : ∀ s, f (wait s) = f s) (ha : ∀ tx s, f (act tx s) = f s) (s : State) :
    f (s.whenPhase ph b wait act) = f s := by
  simp only [State.whenPhase]
  (repeat' split) <;> simp [hw, ha]

@[simp] theorem State.sendHeader_capture (s : State) : (s.sendHeader).capture = s.capture := by
  simp only [State.sendHeader, State.sendAtPhase]
  split
  · rfl
  · exact State.whenPhase_keeps State.capture _ _ _ _ (fun s => by simp) (fun tx s => by simp) s
@[simp] theorem State.sendHeader_inReset (s : State) : (s.sendHeader).inReset = s.inReset := by
  simp only [State.sendHeader, State.sendAtPhase]
  split
  · rfl
  · exact State.whenPhase_keeps State.inReset _ _ _ _ (fun s => by simp) (fun tx s => by simp) s
@[simp] theorem State.sendHeader_pending (s : State) : (s.sendHeader).pending = s.pending := by
  simp only [State.sendHeader, State.sendAtPhase]
  split
  · rfl
  · exact State.whenPhase_keeps State.pending _ _ _ _ (fun s => by simp) (fun tx s => by simp) s

@[simp] theorem State.sendData_capture (s : State) : (s.sendData).capture = s.capture := by
  simp only [State.sendData, State.sendAtPhase]
  split
  · rfl
  · exact State.whenPhase_keeps State.capture _ _ _ _ (fun s => by simp) (fun tx s => by simp) s
@[simp] theorem State.sendData_inReset (s : State) : (s.sendData).inReset = s.inReset := by
  simp only [State.sendData, State.sendAtPhase]
  split
  · rfl
  · exact State.whenPhase_keeps State.inReset _ _ _ _ (fun s => by simp) (fun tx s => by simp) s
@[simp] theorem State.sendData_pending (s : State) : (s.sendData).pending = s.pending := by
  simp only [State.sendData, State.sendAtPhase]
  split
  · rfl
  · exact State.whenPhase_keeps State.pending _ _ _ _ (fun s => by simp) (fun tx s => by simp) s

@[simp] theorem State.sendTaken_capture (s : State) : (s.sendTaken).capture = s.capture := by
  simp only [State.sendTaken, State.sendAtPhase]
  split
  · rfl
  · exact State.whenPhase_keeps State.capture _ _ _ _ (fun s => by simp) (fun tx s => by simp) s
@[simp] theorem State.sendTaken_inReset (s : State) : (s.sendTaken).inReset = s.inReset := by
  simp only [State.sendTaken, State.sendAtPhase]
  split
  · rfl
  · exact State.whenPhase_keeps State.inReset _ _ _ _ (fun s => by simp) (fun tx s => by simp) s
@[simp] theorem State.sendTaken_pending (s : State) : (s.sendTaken).pending = s.pending := by
  simp only [State.sendTaken, State.sendAtPhase]
  split
  · rfl
  · exact State.whenPhase_keeps State.pending _ _ _ _ (fun s => by simp) (fun tx s => by simp) s

@[simp] theorem State.headerSent_capture (s : State) : (s.headerSent).capture = s.capture := by
  simp only [State.headerSent, State.sentAtPhase]
  exact State.whenPhase_keeps State.capture _ _ _ _ (fun s => by simp) (fun tx s => by simp) s
@[simp] theorem State.headerSent_inReset (s : State) : (s.headerSent).inReset = s.inReset := by
  simp only [State.headerSent, State.sentAtPhase]
  exact State.whenPhase_keeps State.inReset _ _ _ _ (fun s => by simp) (fun tx s => by simp) s
@[simp] theorem State.headerSent_pending (s : State) : (s.headerSent).pending = s.pending := by
  simp only [State.headerSent, State.sentAtPhase]
  exact State.whenPhase_keeps State.pending _ _ _ _ (fun s => by simp) (fun tx s => by simp) s

@[simp] theorem State.dataSent_capture (s : State) : (s.dataSent).capture = s.capture := by
  simp only [State.dataSent, State.sentAtPhase]
  exact State.whenPhase_keeps State.capture _ _ _ _ (fun s => by simp) (fun tx s => by simp) s
@[simp] theorem State.dataSent_inReset (s : State) : (s.dataSent).inReset = s.inReset := by
  simp only [State.dataSent, State.sentAtPhase]
  exact State.whenPhase_keeps State.inReset _ _ _ _ (fun s => by simp) (fun tx s => by simp) s
@[simp] theorem State.dataSent_pending (s : State) : (s.dataSent).pending = s.pending := by
  simp only [State.dataSent, State.sentAtPhase]
  exact State.whenPhase_keeps State.pending _ _ _ _ (fun s => by simp) (fun tx s => by simp) s

@[simp] theorem State.takenSent_capture (s : State) : (s.takenSent).capture = s.capture := by
  simp only [State.takenSent, State.sentAtPhase]
  exact State.whenPhase_keeps State.capture _ _ _ _ (fun s => by simp) (fun tx s => by simp) s
@[simp] theorem State.takenSent_inReset (s : State) : (s.takenSent).inReset = s.inReset := by
  simp only [State.takenSent, State.sentAtPhase]
  exact State.whenPhase_keeps State.inReset _ _ _ _ (fun s => by simp) (fun tx s => by simp) s
@[simp] theorem State.takenSent_pending (s : State) : (s.takenSent).pending = s.pending := by
  simp only [State.takenSent, State.sentAtPhase]
  exact State.whenPhase_keeps State.pending _ _ _ _ (fun s => by simp) (fun tx s => by simp) s

@[simp] theorem State.waitWindow_capture (s : State) : (s.waitWindow).capture = s.capture := by
  simp only [State.waitWindow]
  (repeat' split) <;> simp
@[simp] theorem State.waitWindow_inReset (s : State) : (s.waitWindow).inReset = s.inReset := by
  simp only [State.waitWindow]
  (repeat' split) <;> simp
@[simp] theorem State.waitWindow_pending (s : State) : (s.waitWindow).pending = s.pending := by
  simp only [State.waitWindow]
  (repeat' split) <;> simp

@[simp] theorem State.windowExpiry_capture (s : State) : (s.windowExpiry).capture = s.capture := by
  simp only [State.windowExpiry]
  split
  · rfl
  · exact State.whenPhase_keeps State.capture _ _ _ _ (fun s => by simp) (fun tx s => by simp) s
@[simp] theorem State.windowExpiry_inReset (s : State) : (s.windowExpiry).inReset = s.inReset := by
  simp only [State.windowExpiry]
  split
  · rfl
  · exact State.whenPhase_keeps State.inReset _ _ _ _ (fun s => by simp) (fun tx s => by simp) s
@[simp] theorem State.windowExpiry_pending (s : State) : (s.windowExpiry).pending = s.pending := by
  simp only [State.windowExpiry]
  split
  · rfl
  · exact State.whenPhase_keeps State.pending _ _ _ _ (fun s => by simp) (fun tx s => by simp) s

@[simp] theorem State.transactionEnd_capture (s : State) : (s.transactionEnd).capture = s.capture := by
  simp only [State.transactionEnd]
  (repeat' split) <;> simp
@[simp] theorem State.transactionEnd_inReset (s : State) : (s.transactionEnd).inReset = s.inReset := by
  simp only [State.transactionEnd]
  (repeat' split) <;> simp
@[simp] theorem State.transactionEnd_pending (s : State) : (s.transactionEnd).pending = s.pending := by
  simp only [State.transactionEnd]
  (repeat' split) <;> simp

@[simp] theorem linkChars_length (bytes : List Byte) (errs : List Nat) : (linkChars bytes errs).length = bytes.length := by
  simp [linkChars]
theorem linkChars_getElem? (bytes : List Byte) (errs : List Nat) (i : Nat) :
    (linkChars bytes errs)[i]? = bytes[i]?.map fun b => if i ∈ errs then none else some b := by
  simp [linkChars, List.getElem?_zipIdx, Function.comp_def]
/-- Without errors the characters are the bytes. -/
@[simp] theorem linkChars_clean (bytes : List Byte) : linkChars bytes [] = bytes.map some := by
  apply List.ext_getElem?
  intro i
  simp [linkChars_getElem?]

theorem linkTimes_getElem? (times : List (Option Byte)) (errs : List Nat) (i : Nat) :
    (linkTimes times errs)[i]? = times[i]?.map (Option.map fun b => if i ∈ errs then none else some b) := by
  simp [linkTimes, List.getElem?_zipIdx, Function.comp_def]
@[simp] theorem linkTimes_length (times : List (Option Byte)) (errs : List Nat) :
    (linkTimes times errs).length = times.length := by
  simp [linkTimes]
/-- Where every character time brings a character, they are the characters of the row. -/
@[simp] theorem linkTimes_chars (bytes : List Byte) (errs : List Nat) :
    linkTimes (bytes.map some) errs = (linkChars bytes errs).map some := by
  apply List.ext_getElem?
  intro i
  simp [linkTimes_getElem?, linkChars_getElem?, Function.comp_def]
@[simp] theorem heardChars_map_some (chars : List LinkChar) : heardChars (chars.map some) = chars := by
  simp [heardChars]
@[simp] theorem heardChars_levels (n : Nat) : heardChars (List.replicate n none) = [] := by
  simp [heardChars]
/-- Without levels the first `k` characters take `k` character times. -/
@[simp] theorem charSpan_map_some (k : Nat) (chars : List LinkChar) : charSpan k (chars.map some) = min k chars.length := by
  induction k generalizing chars with
  | zero => simp [charSpan]
  | succ k ih => cases chars <;> simp [charSpan, ih]
/-- Levels alone are one stretch, whatever its length. -/
theorem rowSpan_levels (n : Nat) : rowSpan (List.replicate (n + 1) none) = n + 1 := by
  simp [rowSpan, List.replicate_succ]
theorem charSpan_le (k : Nat) (times : List LinkTime) : charSpan k times ≤ times.length := by
  fun_induction charSpan k times <;> simp_all

@[simp] theorem State.holdLevel_capture (n : Nat) (s : State) : (s.holdLevel n).capture = s.capture := by
  simp only [State.holdLevel]
  (repeat' split)
  · simp
  · rw [State.passBusy_capture]
    exact State.whenPhase_keeps State.capture _ _ _ _ (fun s => by simp) (fun tx s => by simp) s
  · simp
@[simp] theorem State.holdLevel_inReset (n : Nat) (s : State) : (s.holdLevel n).inReset = s.inReset := by
  simp only [State.holdLevel]
  (repeat' split)
  · simp
  · rw [State.passBusy_inReset]
    exact State.whenPhase_keeps State.inReset _ _ _ _ (fun s => by simp) (fun tx s => by simp) s
  · simp
@[simp] theorem State.holdLevel_pending (n : Nat) (s : State) : (s.holdLevel n).pending = s.pending := by
  simp only [State.holdLevel]
  (repeat' split)
  · simp
  · rw [State.passBusy_pending]
    exact State.whenPhase_keeps State.pending _ _ _ _ (fun s => by simp) (fun tx s => by simp) s
  · simp

/-- Outside a reply window a level only holds the line. -/
theorem State.holdLevel_of_noWindow (micros : Nat) (s : State) (h : s.atPhase .replyWindow false = none) :
    s.holdLevel micros = s.passBusy micros := by
  simp [State.holdLevel, h]
/-- Levels alone are heard as one stretch. -/
theorem State.hearAll_levels (n : Nat) (s : State) :
    s.hearAll (List.replicate (n + 1) none) = s.holdLevel (s.chars (n + 1)) := by
  have h := rowSpan_levels n
  rw [List.replicate_succ] at h
  simp [State.hearAll, framesOf, splitFrames, State.hearFrame, List.replicate_succ, h]
  cases n <;> simp [splitFrames]

@[simp] theorem State.takeFrame_capture (l : List LinkChar) (s : State) : (s.takeFrame l).capture = s.capture := by
  simp only [State.takeFrame]
  (repeat' split) <;> simp
@[simp] theorem State.takeFrame_inReset (l : List LinkChar) (s : State) : (s.takeFrame l).inReset = s.inReset := by
  simp only [State.takeFrame]
  (repeat' split) <;> simp
@[simp] theorem State.takeFrame_pending (l : List LinkChar) (s : State) : (s.takeFrame l).pending = s.pending := by
  simp only [State.takeFrame]
  (repeat' split) <;> simp

@[simp] theorem State.dataBegins_capture (n : Nat) (c : Option (Byte × Byte)) (s : State) : (s.dataBegins n c).capture = s.capture := by
  simp only [State.dataBegins]
  (repeat' split) <;> simp
@[simp] theorem State.dataBegins_inReset (n : Nat) (c : Option (Byte × Byte)) (s : State) : (s.dataBegins n c).inReset = s.inReset := by
  simp only [State.dataBegins]
  (repeat' split) <;> simp
@[simp] theorem State.dataBegins_pending (n : Nat) (c : Option (Byte × Byte)) (s : State) : (s.dataBegins n c).pending = s.pending := by
  simp only [State.dataBegins]
  (repeat' split) <;> simp

@[simp] theorem State.endHearing_port (s : State) : s.endHearing.port = s.port := rfl
@[simp] theorem State.endHearing_reports (s : State) : s.endHearing.reports = s.reports := rfl
@[simp] theorem State.endHearing_streams (s : State) : s.endHearing.streams = s.streams := rfl
@[simp] theorem State.endHearing_memory (s : State) : s.endHearing.memory = s.memory := rfl
@[simp] theorem State.endHearing_plan (s : State) : s.endHearing.plan = s.plan := rfl
@[simp] theorem State.endHearing_master (s : State) : s.endHearing.master = s.master := rfl
@[simp] theorem State.endHearing_time (s : State) : s.endHearing.time = s.time := rfl
@[simp] theorem State.endHearing_capture (s : State) : s.endHearing.capture = s.capture := rfl
@[simp] theorem State.endHearing_marks (s : State) : s.endHearing.marks = s.marks := rfl
@[simp] theorem State.endHearing_inReset (s : State) : s.endHearing.inReset = s.inReset := rfl
@[simp] theorem State.endHearing_pending (s : State) : s.endHearing.pending = s.pending := rfl

@[simp] theorem State.frameStops_capture (b : Bool) (s : State) : (s.frameStops b).capture = s.capture := by
  simp only [State.frameStops]
  (repeat' split) <;> simp
@[simp] theorem State.frameStops_inReset (b : Bool) (s : State) : (s.frameStops b).inReset = s.inReset := by
  simp only [State.frameStops]
  (repeat' split) <;> simp
@[simp] theorem State.frameStops_pending (b : Bool) (s : State) : (s.frameStops b).pending = s.pending := by
  simp only [State.frameStops]
  (repeat' split) <;> simp

@[simp] theorem State.dataEnds_capture (n : Nat) (l : List LinkChar) (s : State) : (s.dataEnds n l).capture = s.capture := by
  simp only [State.dataEnds]
  (repeat' split) <;> simp
@[simp] theorem State.dataEnds_inReset (n : Nat) (l : List LinkChar) (s : State) : (s.dataEnds n l).inReset = s.inReset := by
  simp only [State.dataEnds]
  (repeat' split) <;> simp
@[simp] theorem State.dataEnds_pending (n : Nat) (l : List LinkChar) (s : State) : (s.dataEnds n l).pending = s.pending := by
  simp only [State.dataEnds]
  (repeat' split) <;> simp

@[simp] theorem State.hearShort_capture (n : Nat) (l : List LinkChar) (s : State) : (s.hearShort n l).capture = s.capture := by
  simp only [State.hearShort]
  (repeat' split) <;> simp
@[simp] theorem State.hearShort_inReset (n : Nat) (l : List LinkChar) (s : State) : (s.hearShort n l).inReset = s.inReset := by
  simp only [State.hearShort]
  (repeat' split) <;> simp
@[simp] theorem State.hearShort_pending (n : Nat) (l : List LinkChar) (s : State) : (s.hearShort n l).pending = s.pending := by
  simp only [State.hearShort]
  (repeat' split) <;> simp

@[simp] theorem State.hearChars_capture (l : List LinkTime) (s : State) : (s.hearChars l).capture = s.capture := by
  simp only [State.hearChars]
  (repeat' split) <;> simp
@[simp] theorem State.hearChars_inReset (l : List LinkTime) (s : State) : (s.hearChars l).inReset = s.inReset := by
  simp only [State.hearChars]
  (repeat' split) <;> simp
@[simp] theorem State.hearChars_pending (l : List LinkTime) (s : State) : (s.hearChars l).pending = s.pending := by
  simp only [State.hearChars]
  (repeat' split) <;> simp

@[simp] theorem State.hearFrame_capture (l : List LinkTime) (s : State) : (s.hearFrame l).capture = s.capture := by
  simp only [State.hearFrame]
  (repeat' split) <;> simp
@[simp] theorem State.hearFrame_inReset (l : List LinkTime) (s : State) : (s.hearFrame l).inReset = s.inReset := by
  simp only [State.hearFrame]
  (repeat' split) <;> simp
@[simp] theorem State.hearFrame_pending (l : List LinkTime) (s : State) : (s.hearFrame l).pending = s.pending := by
  simp only [State.hearFrame]
  (repeat' split) <;> simp

@[simp] theorem State.hearAll_capture (l : List LinkTime) (s : State) : (s.hearAll l).capture = s.capture :=
  foldl_keeps State.capture State.hearFrame (fun s l => by simp) (framesOf l) s
@[simp] theorem State.hearAll_inReset (l : List LinkTime) (s : State) : (s.hearAll l).inReset = s.inReset :=
  foldl_keeps State.inReset State.hearFrame (fun s l => by simp) (framesOf l) s
@[simp] theorem State.hearAll_pending (l : List LinkTime) (s : State) : (s.hearAll l).pending = s.pending :=
  foldl_keeps State.pending State.hearFrame (fun s l => by simp) (framesOf l) s

@[simp] theorem State.frameHeard_capture (n : Nat) (l : List LinkTime) (s : State) : (s.frameHeard n l).capture = s.capture := by
  simp only [State.frameHeard]
  (repeat' split) <;> simp
@[simp] theorem State.frameHeard_inReset (n : Nat) (l : List LinkTime) (s : State) : (s.frameHeard n l).inReset = s.inReset := by
  simp only [State.frameHeard]
  (repeat' split) <;> simp
@[simp] theorem State.frameHeard_pending (n : Nat) (l : List LinkTime) (s : State) : (s.frameHeard n l).pending = s.pending := by
  simp only [State.frameHeard]
  (repeat' split) <;> simp

@[simp] theorem State.lengthRead_capture (n : Nat) (c : Option (Byte × Byte)) (s : State) : (s.lengthRead n c).capture = s.capture := by
  simp only [State.lengthRead]
  (repeat' split) <;> simp
@[simp] theorem State.lengthRead_inReset (n : Nat) (c : Option (Byte × Byte)) (s : State) : (s.lengthRead n c).inReset = s.inReset := by
  simp only [State.lengthRead]
  (repeat' split) <;> simp
@[simp] theorem State.lengthRead_pending (n : Nat) (c : Option (Byte × Byte)) (s : State) : (s.lengthRead n c).pending = s.pending := by
  simp only [State.lengthRead]
  (repeat' split) <;> simp

@[simp] theorem State.dataFrameEnd_capture (n : Nat) (l : List LinkChar) (s : State) : (s.dataFrameEnd n l).capture = s.capture := by
  simp only [State.dataFrameEnd]
  (repeat' split) <;> simp
@[simp] theorem State.dataFrameEnd_inReset (n : Nat) (l : List LinkChar) (s : State) : (s.dataFrameEnd n l).inReset = s.inReset := by
  simp only [State.dataFrameEnd]
  (repeat' split) <;> simp
@[simp] theorem State.dataFrameEnd_pending (n : Nat) (l : List LinkChar) (s : State) : (s.dataFrameEnd n l).pending = s.pending := by
  simp only [State.dataFrameEnd]
  (repeat' split) <;> simp

@[simp] theorem State.openCycle_capture (s : State) : (s.openCycle).capture = s.capture := by
  simp only [State.openCycle]
  (repeat' split) <;> simp
@[simp] theorem State.openCycle_inReset (s : State) : (s.openCycle).inReset = s.inReset := by
  simp only [State.openCycle]
  (repeat' split) <;> simp
@[simp] theorem State.openCycle_pending (s : State) : (s.openCycle).pending = s.pending := by
  simp only [State.openCycle]
  (repeat' split) <;> simp

@[simp] theorem State.beaconGrant_capture (s : State) : (s.beaconGrant).capture = s.capture := by
  simp only [State.beaconGrant]
  (repeat' split) <;> simp
@[simp] theorem State.beaconGrant_inReset (s : State) : (s.beaconGrant).inReset = s.inReset := by
  simp only [State.beaconGrant]
  (repeat' split) <;> simp
@[simp] theorem State.beaconGrant_pending (s : State) : (s.beaconGrant).pending = s.pending := by
  simp only [State.beaconGrant]
  (repeat' split) <;> simp

@[simp] theorem State.cyclicPhaseStart_capture (s : State) : (s.cyclicPhaseStart).capture = s.capture := by
  simp only [State.cyclicPhaseStart]
  (repeat' split) <;> simp
@[simp] theorem State.cyclicPhaseStart_inReset (s : State) : (s.cyclicPhaseStart).inReset = s.inReset := by
  simp only [State.cyclicPhaseStart]
  (repeat' split) <;> simp
@[simp] theorem State.cyclicPhaseStart_pending (s : State) : (s.cyclicPhaseStart).pending = s.pending := by
  simp only [State.cyclicPhaseStart]
  (repeat' split) <;> simp

@[simp] theorem State.holdLine_capture (s : State) : (s.holdLine).capture = s.capture := by
  simp only [State.holdLine]
  (repeat' split) <;> simp
@[simp] theorem State.holdLine_inReset (s : State) : (s.holdLine).inReset = s.inReset := by
  simp only [State.holdLine]
  (repeat' split) <;> simp
@[simp] theorem State.holdLine_pending (s : State) : (s.holdLine).pending = s.pending := by
  simp only [State.holdLine]
  (repeat' split) <;> simp

@[simp] theorem State.stuckLine_capture (s : State) : (s.stuckLine).capture = s.capture := by
  simp only [State.stuckLine]
  (repeat' split) <;> simp
@[simp] theorem State.stuckLine_inReset (s : State) : (s.stuckLine).inReset = s.inReset := by
  simp only [State.stuckLine]
  (repeat' split) <;> simp
@[simp] theorem State.stuckLine_pending (s : State) : (s.stuckLine).pending = s.pending := by
  simp only [State.stuckLine]
  (repeat' split) <;> simp

end Sys2Proof.Machine
end

