-- ==== Sys2Proof/Laws/Requests.lean ====
section
/-! SUPPORT. Frame lemmas of the requests' effects: each block's execution leaves the blocks it does not own unchanged. -/

set_option linter.unusedTactic false
set_option linter.unreachableTactic false
set_option linter.unnecessarySeqFocus false

namespace Sys2Proof.Machine

theorem withStream_keeps {γ : Type} (f : State → γ) (sid : Byte) (k : Sid → StreamRecord → State → Executed) (s : State)
    (h : ∀ i r, f (k i r s).1 = f s) : f (withStream sid k s).1 = f s := by
  unfold withStream
  (repeat' split) <;> simp [State.reply, h]

@[simp] theorem State.clearHeld_port (i : Sid) (s : State) : (s.clearHeld i).port = s.port := rfl
@[simp] theorem State.clearHeld_reports (i : Sid) (s : State) : (s.clearHeld i).reports = s.reports := rfl
@[simp] theorem State.clearHeld_streams (i : Sid) (s : State) : (s.clearHeld i).streams = s.streams := rfl
@[simp] theorem State.clearHeld_plan (i : Sid) (s : State) : (s.clearHeld i).plan = s.plan := rfl
@[simp] theorem State.clearHeld_engine (i : Sid) (s : State) : (s.clearHeld i).engine = s.engine := rfl
@[simp] theorem State.clearHeld_master (i : Sid) (s : State) : (s.clearHeld i).master = s.master := rfl
@[simp] theorem State.clearHeld_time (i : Sid) (s : State) : (s.clearHeld i).time = s.time := rfl
@[simp] theorem State.clearHeld_capture (i : Sid) (s : State) : (s.clearHeld i).capture = s.capture := rfl
@[simp] theorem State.clearHeld_marks (i : Sid) (s : State) : (s.clearHeld i).marks = s.marks := rfl
@[simp] theorem State.clearHeld_inReset (i : Sid) (s : State) : (s.clearHeld i).inReset = s.inReset := rfl
@[simp] theorem State.clearHeld_pending (i : Sid) (s : State) : (s.clearHeld i).pending = s.pending := rfl

@[simp] theorem State.admitLoad_port (d : StreamDef) (s : State) : (s.admitLoad d).port = s.port := by
  simp only [State.admitLoad]
  (repeat' split) <;> simp
@[simp] theorem State.admitLoad_reports (d : StreamDef) (s : State) : (s.admitLoad d).reports = s.reports := by
  simp only [State.admitLoad]
  (repeat' split) <;> simp
@[simp] theorem State.admitLoad_streams (d : StreamDef) (s : State) : (s.admitLoad d).streams = s.streams := by
  simp only [State.admitLoad]
  (repeat' split) <;> simp
@[simp] theorem State.admitLoad_memory (d : StreamDef) (s : State) : (s.admitLoad d).memory = s.memory := by
  simp only [State.admitLoad]
  (repeat' split) <;> simp
@[simp] theorem State.admitLoad_engine (d : StreamDef) (s : State) : (s.admitLoad d).engine = s.engine := by
  simp only [State.admitLoad]
  (repeat' split) <;> simp
@[simp] theorem State.admitLoad_master (d : StreamDef) (s : State) : (s.admitLoad d).master = s.master := by
  simp only [State.admitLoad]
  (repeat' split) <;> simp
@[simp] theorem State.admitLoad_time (d : StreamDef) (s : State) : (s.admitLoad d).time = s.time := by
  simp only [State.admitLoad]
  (repeat' split) <;> simp
@[simp] theorem State.admitLoad_capture (d : StreamDef) (s : State) : (s.admitLoad d).capture = s.capture := by
  simp only [State.admitLoad]
  (repeat' split) <;> simp
@[simp] theorem State.admitLoad_marks (d : StreamDef) (s : State) : (s.admitLoad d).marks = s.marks := by
  simp only [State.admitLoad]
  (repeat' split) <;> simp
@[simp] theorem State.admitLoad_inReset (d : StreamDef) (s : State) : (s.admitLoad d).inReset = s.inReset := by
  simp only [State.admitLoad]
  (repeat' split) <;> simp
@[simp] theorem State.admitLoad_pending (d : StreamDef) (s : State) : (s.admitLoad d).pending = s.pending := by
  simp only [State.admitLoad]
  (repeat' split) <;> simp

@[simp] theorem State.startStream_port (i : Sid) (r : StreamRecord) (t : StartTrigger) (n : Nat) (s : State) : (s.startStream i r t n).port = s.port := by
  simp only [State.startStream]
  (repeat' split) <;> simp
@[simp] theorem State.startStream_engine (i : Sid) (r : StreamRecord) (t : StartTrigger) (n : Nat) (s : State) : (s.startStream i r t n).engine = s.engine := by
  simp only [State.startStream]
  (repeat' split) <;> simp
@[simp] theorem State.startStream_master (i : Sid) (r : StreamRecord) (t : StartTrigger) (n : Nat) (s : State) : (s.startStream i r t n).master = s.master := by
  simp only [State.startStream]
  (repeat' split) <;> simp
@[simp] theorem State.startStream_time (i : Sid) (r : StreamRecord) (t : StartTrigger) (n : Nat) (s : State) : (s.startStream i r t n).time = s.time := by
  simp only [State.startStream]
  (repeat' split) <;> simp
@[simp] theorem State.startStream_capture (i : Sid) (r : StreamRecord) (t : StartTrigger) (n : Nat) (s : State) : (s.startStream i r t n).capture = s.capture := by
  simp only [State.startStream]
  (repeat' split) <;> simp
@[simp] theorem State.startStream_marks (i : Sid) (r : StreamRecord) (t : StartTrigger) (n : Nat) (s : State) : (s.startStream i r t n).marks = s.marks := by
  simp only [State.startStream]
  (repeat' split) <;> simp
@[simp] theorem State.startStream_inReset (i : Sid) (r : StreamRecord) (t : StartTrigger) (n : Nat) (s : State) : (s.startStream i r t n).inReset = s.inReset := by
  simp only [State.startStream]
  (repeat' split) <;> simp
@[simp] theorem State.startStream_pending (i : Sid) (r : StreamRecord) (t : StartTrigger) (n : Nat) (s : State) : (s.startStream i r t n).pending = s.pending := by
  simp only [State.startStream]
  (repeat' split) <;> simp

@[simp] theorem State.freeChain_port (i : Sid) (s : State) : (s.freeChain i).port = s.port := rfl
@[simp] theorem State.freeChain_reports (i : Sid) (s : State) : (s.freeChain i).reports = s.reports := rfl
@[simp] theorem State.freeChain_streams (i : Sid) (s : State) : (s.freeChain i).streams = s.streams := rfl
@[simp] theorem State.freeChain_plan (i : Sid) (s : State) : (s.freeChain i).plan = s.plan := rfl
@[simp] theorem State.freeChain_engine (i : Sid) (s : State) : (s.freeChain i).engine = s.engine := rfl
@[simp] theorem State.freeChain_master (i : Sid) (s : State) : (s.freeChain i).master = s.master := rfl
@[simp] theorem State.freeChain_time (i : Sid) (s : State) : (s.freeChain i).time = s.time := rfl
@[simp] theorem State.freeChain_capture (i : Sid) (s : State) : (s.freeChain i).capture = s.capture := rfl
@[simp] theorem State.freeChain_marks (i : Sid) (s : State) : (s.freeChain i).marks = s.marks := rfl
@[simp] theorem State.freeChain_inReset (i : Sid) (s : State) : (s.freeChain i).inReset = s.inReset := rfl
@[simp] theorem State.freeChain_pending (i : Sid) (s : State) : (s.freeChain i).pending = s.pending := rfl

@[simp] theorem State.configured_port (q : LinkRate) (a b c : Nat) (s : State) : (s.configured q a b c).port = s.port := rfl
@[simp] theorem State.configured_reports (q : LinkRate) (a b c : Nat) (s : State) : (s.configured q a b c).reports = s.reports := rfl
@[simp] theorem State.configured_streams (q : LinkRate) (a b c : Nat) (s : State) : (s.configured q a b c).streams = s.streams := rfl
@[simp] theorem State.configured_memory (q : LinkRate) (a b c : Nat) (s : State) : (s.configured q a b c).memory = s.memory := rfl
@[simp] theorem State.configured_plan (q : LinkRate) (a b c : Nat) (s : State) : (s.configured q a b c).plan = s.plan := rfl
@[simp] theorem State.configured_capture (q : LinkRate) (a b c : Nat) (s : State) : (s.configured q a b c).capture = s.capture := rfl
@[simp] theorem State.configured_marks (q : LinkRate) (a b c : Nat) (s : State) : (s.configured q a b c).marks = s.marks := rfl
@[simp] theorem State.configured_inReset (q : LinkRate) (a b c : Nat) (s : State) : (s.configured q a b c).inReset = s.inReset := rfl
@[simp] theorem State.configured_pending (q : LinkRate) (a b c : Nat) (s : State) : (s.configured q a b c).pending = s.pending := rfl

@[simp] theorem State.setCaptureLine_port (k : Line) (l : CaptureLine) (s : State) : (s.setCaptureLine k l).port = s.port := rfl
@[simp] theorem State.setCaptureLine_reports (k : Line) (l : CaptureLine) (s : State) : (s.setCaptureLine k l).reports = s.reports := rfl
@[simp] theorem State.setCaptureLine_streams (k : Line) (l : CaptureLine) (s : State) : (s.setCaptureLine k l).streams = s.streams := rfl
@[simp] theorem State.setCaptureLine_memory (k : Line) (l : CaptureLine) (s : State) : (s.setCaptureLine k l).memory = s.memory := rfl
@[simp] theorem State.setCaptureLine_plan (k : Line) (l : CaptureLine) (s : State) : (s.setCaptureLine k l).plan = s.plan := rfl
@[simp] theorem State.setCaptureLine_engine (k : Line) (l : CaptureLine) (s : State) : (s.setCaptureLine k l).engine = s.engine := rfl
@[simp] theorem State.setCaptureLine_master (k : Line) (l : CaptureLine) (s : State) : (s.setCaptureLine k l).master = s.master := rfl
@[simp] theorem State.setCaptureLine_time (k : Line) (l : CaptureLine) (s : State) : (s.setCaptureLine k l).time = s.time := rfl
@[simp] theorem State.setCaptureLine_marks (k : Line) (l : CaptureLine) (s : State) : (s.setCaptureLine k l).marks = s.marks := rfl
@[simp] theorem State.setCaptureLine_inReset (k : Line) (l : CaptureLine) (s : State) : (s.setCaptureLine k l).inReset = s.inReset := rfl
@[simp] theorem State.setCaptureLine_pending (k : Line) (l : CaptureLine) (s : State) : (s.setCaptureLine k l).pending = s.pending := rfl

@[simp] theorem State.setMarkLine_port (k : Line) (m : MarkLine) (s : State) : (s.setMarkLine k m).port = s.port := rfl
@[simp] theorem State.setMarkLine_reports (k : Line) (m : MarkLine) (s : State) : (s.setMarkLine k m).reports = s.reports := rfl
@[simp] theorem State.setMarkLine_streams (k : Line) (m : MarkLine) (s : State) : (s.setMarkLine k m).streams = s.streams := rfl
@[simp] theorem State.setMarkLine_memory (k : Line) (m : MarkLine) (s : State) : (s.setMarkLine k m).memory = s.memory := rfl
@[simp] theorem State.setMarkLine_plan (k : Line) (m : MarkLine) (s : State) : (s.setMarkLine k m).plan = s.plan := rfl
@[simp] theorem State.setMarkLine_engine (k : Line) (m : MarkLine) (s : State) : (s.setMarkLine k m).engine = s.engine := rfl
@[simp] theorem State.setMarkLine_master (k : Line) (m : MarkLine) (s : State) : (s.setMarkLine k m).master = s.master := rfl
@[simp] theorem State.setMarkLine_time (k : Line) (m : MarkLine) (s : State) : (s.setMarkLine k m).time = s.time := rfl
@[simp] theorem State.setMarkLine_capture (k : Line) (m : MarkLine) (s : State) : (s.setMarkLine k m).capture = s.capture := rfl
@[simp] theorem State.setMarkLine_inReset (k : Line) (m : MarkLine) (s : State) : (s.setMarkLine k m).inReset = s.inReset := rfl
@[simp] theorem State.setMarkLine_pending (k : Line) (m : MarkLine) (s : State) : (s.setMarkLine k m).pending = s.pending := rfl

@[simp] theorem State.recordEdge_port (k : Line) (b : Bool) (s : State) : (s.recordEdge k b).port = s.port := by
  simp only [State.recordEdge]
  (repeat' split) <;> simp
@[simp] theorem State.recordEdge_streams (k : Line) (b : Bool) (s : State) : (s.recordEdge k b).streams = s.streams := by
  simp only [State.recordEdge]
  (repeat' split) <;> simp
@[simp] theorem State.recordEdge_memory (k : Line) (b : Bool) (s : State) : (s.recordEdge k b).memory = s.memory := by
  simp only [State.recordEdge]
  (repeat' split) <;> simp
@[simp] theorem State.recordEdge_plan (k : Line) (b : Bool) (s : State) : (s.recordEdge k b).plan = s.plan := by
  simp only [State.recordEdge]
  (repeat' split) <;> simp
@[simp] theorem State.recordEdge_engine (k : Line) (b : Bool) (s : State) : (s.recordEdge k b).engine = s.engine := by
  simp only [State.recordEdge]
  (repeat' split) <;> simp
@[simp] theorem State.recordEdge_master (k : Line) (b : Bool) (s : State) : (s.recordEdge k b).master = s.master := by
  simp only [State.recordEdge]
  (repeat' split) <;> simp
@[simp] theorem State.recordEdge_time (k : Line) (b : Bool) (s : State) : (s.recordEdge k b).time = s.time := by
  simp only [State.recordEdge]
  (repeat' split) <;> simp
@[simp] theorem State.recordEdge_marks (k : Line) (b : Bool) (s : State) : (s.recordEdge k b).marks = s.marks := by
  simp only [State.recordEdge]
  (repeat' split) <;> simp
@[simp] theorem State.recordEdge_inReset (k : Line) (b : Bool) (s : State) : (s.recordEdge k b).inReset = s.inReset := by
  simp only [State.recordEdge]
  (repeat' split) <;> simp
@[simp] theorem State.recordEdge_pending (k : Line) (b : Bool) (s : State) : (s.recordEdge k b).pending = s.pending := by
  simp only [State.recordEdge]
  (repeat' split) <;> simp

@[simp] theorem State.edge_port (k : Line) (b : Bool) (s : State) : (s.edge k b).port = s.port := by
  simp only [State.edge]
  (repeat' split) <;> simp
@[simp] theorem State.edge_memory (k : Line) (b : Bool) (s : State) : (s.edge k b).memory = s.memory := by
  simp only [State.edge]
  (repeat' split) <;> simp
@[simp] theorem State.edge_plan (k : Line) (b : Bool) (s : State) : (s.edge k b).plan = s.plan := by
  simp only [State.edge]
  (repeat' split) <;> simp
@[simp] theorem State.edge_engine (k : Line) (b : Bool) (s : State) : (s.edge k b).engine = s.engine := by
  simp only [State.edge]
  (repeat' split) <;> simp
@[simp] theorem State.edge_master (k : Line) (b : Bool) (s : State) : (s.edge k b).master = s.master := by
  simp only [State.edge]
  (repeat' split) <;> simp
@[simp] theorem State.edge_time (k : Line) (b : Bool) (s : State) : (s.edge k b).time = s.time := by
  simp only [State.edge]
  (repeat' split) <;> simp
@[simp] theorem State.edge_marks (k : Line) (b : Bool) (s : State) : (s.edge k b).marks = s.marks := by
  simp only [State.edge]
  (repeat' split) <;> simp
@[simp] theorem State.edge_inReset (k : Line) (b : Bool) (s : State) : (s.edge k b).inReset = s.inReset := by
  simp only [State.edge]
  (repeat' split) <;> simp
@[simp] theorem State.edge_pending (k : Line) (b : Bool) (s : State) : (s.edge k b).pending = s.pending := by
  simp only [State.edge]
  (repeat' split) <;> simp

@[simp] theorem State.sample_port (c l : BitVec 4) (s : State) : (s.sample c l).port = s.port := by
  simp only [State.sample]
  rw [foldl_keeps State.port _ (fun s k => by split <;> simp)]
  rfl
@[simp] theorem State.sample_memory (c l : BitVec 4) (s : State) : (s.sample c l).memory = s.memory := by
  simp only [State.sample]
  rw [foldl_keeps State.memory _ (fun s k => by split <;> simp)]
  rfl
@[simp] theorem State.sample_plan (c l : BitVec 4) (s : State) : (s.sample c l).plan = s.plan := by
  simp only [State.sample]
  rw [foldl_keeps State.plan _ (fun s k => by split <;> simp)]
  rfl
@[simp] theorem State.sample_engine (c l : BitVec 4) (s : State) : (s.sample c l).engine = s.engine := by
  simp only [State.sample]
  rw [foldl_keeps State.engine _ (fun s k => by split <;> simp)]
  rfl
@[simp] theorem State.sample_master (c l : BitVec 4) (s : State) : (s.sample c l).master = s.master := by
  simp only [State.sample]
  rw [foldl_keeps State.master _ (fun s k => by split <;> simp)]
  rfl
@[simp] theorem State.sample_time (c l : BitVec 4) (s : State) : (s.sample c l).time = s.time := by
  simp only [State.sample]
  rw [foldl_keeps State.time _ (fun s k => by split <;> simp)]
  rfl
@[simp] theorem State.sample_marks (c l : BitVec 4) (s : State) : (s.sample c l).marks = s.marks := by
  simp only [State.sample]
  rw [foldl_keeps State.marks _ (fun s k => by split <;> simp)]
  rfl
@[simp] theorem State.sample_inReset (c l : BitVec 4) (s : State) : (s.sample c l).inReset = s.inReset := by
  simp only [State.sample]
  rw [foldl_keeps State.inReset _ (fun s k => by split <;> simp)]
  rfl
@[simp] theorem State.sample_pending (c l : BitVec 4) (s : State) : (s.sample c l).pending = s.pending := by
  simp only [State.sample]
  rw [foldl_keeps State.pending _ (fun s k => by split <;> simp)]
  rfl

@[simp] theorem State.sampleAfter_inReset (n : Nat) (c l : BitVec 4) (s : State) : (s.sampleAfter n c l).inReset = s.inReset := by
  simp [State.sampleAfter]
@[simp] theorem State.sampleAfter_pending (n : Nat) (c l : BitVec 4) (s : State) : (s.sampleAfter n c l).pending = s.pending := by
  simp [State.sampleAfter]

@[simp] theorem State.runToMark_capture (k : Line) (s : State) : (s.runToMark k).capture = s.capture := by
  simp only [State.runToMark]
  (repeat' split) <;> simp
@[simp] theorem State.runToMark_inReset (k : Line) (s : State) : (s.runToMark k).inReset = s.inReset := by
  simp only [State.runToMark]
  (repeat' split) <;> simp
@[simp] theorem State.runToMark_pending (k : Line) (s : State) : (s.runToMark k).pending = s.pending := by
  simp only [State.runToMark]
  (repeat' split) <;> simp

@[simp] theorem State.runToPulseEnd_capture (k : Line) (s : State) : (s.runToPulseEnd k).capture = s.capture := by
  simp only [State.runToPulseEnd]
  (repeat' split) <;> simp
@[simp] theorem State.runToPulseEnd_inReset (k : Line) (s : State) : (s.runToPulseEnd k).inReset = s.inReset := by
  simp only [State.runToPulseEnd]
  (repeat' split) <;> simp
@[simp] theorem State.runToPulseEnd_pending (k : Line) (s : State) : (s.runToPulseEnd k).pending = s.pending := by
  simp only [State.runToPulseEnd]
  (repeat' split) <;> simp

@[simp] theorem State.portAnswer_reports (a b : Byte) (c : Body) (s : State) : (s.portAnswer a b c).reports = s.reports := rfl
@[simp] theorem State.portAnswer_streams (a b : Byte) (c : Body) (s : State) : (s.portAnswer a b c).streams = s.streams := rfl
@[simp] theorem State.portAnswer_memory (a b : Byte) (c : Body) (s : State) : (s.portAnswer a b c).memory = s.memory := rfl
@[simp] theorem State.portAnswer_plan (a b : Byte) (c : Body) (s : State) : (s.portAnswer a b c).plan = s.plan := rfl
@[simp] theorem State.portAnswer_engine (a b : Byte) (c : Body) (s : State) : (s.portAnswer a b c).engine = s.engine := rfl
@[simp] theorem State.portAnswer_master (a b : Byte) (c : Body) (s : State) : (s.portAnswer a b c).master = s.master := rfl
@[simp] theorem State.portAnswer_time (a b : Byte) (c : Body) (s : State) : (s.portAnswer a b c).time = s.time := rfl
@[simp] theorem State.portAnswer_capture (a b : Byte) (c : Body) (s : State) : (s.portAnswer a b c).capture = s.capture := rfl
@[simp] theorem State.portAnswer_marks (a b : Byte) (c : Body) (s : State) : (s.portAnswer a b c).marks = s.marks := rfl
@[simp] theorem State.portAnswer_inReset (a b : Byte) (c : Body) (s : State) : (s.portAnswer a b c).inReset = s.inReset := rfl
@[simp] theorem State.portAnswer_pending (a b : Byte) (c : Body) (s : State) : (s.portAnswer a b c).pending = s.pending := rfl

@[simp] theorem State.sendAgain_reports (e : HistoryEntry) (s : State) : (s.sendAgain e).reports = s.reports := rfl
@[simp] theorem State.sendAgain_streams (e : HistoryEntry) (s : State) : (s.sendAgain e).streams = s.streams := rfl
@[simp] theorem State.sendAgain_memory (e : HistoryEntry) (s : State) : (s.sendAgain e).memory = s.memory := rfl
@[simp] theorem State.sendAgain_plan (e : HistoryEntry) (s : State) : (s.sendAgain e).plan = s.plan := rfl
@[simp] theorem State.sendAgain_engine (e : HistoryEntry) (s : State) : (s.sendAgain e).engine = s.engine := rfl
@[simp] theorem State.sendAgain_master (e : HistoryEntry) (s : State) : (s.sendAgain e).master = s.master := rfl
@[simp] theorem State.sendAgain_time (e : HistoryEntry) (s : State) : (s.sendAgain e).time = s.time := rfl
@[simp] theorem State.sendAgain_capture (e : HistoryEntry) (s : State) : (s.sendAgain e).capture = s.capture := rfl
@[simp] theorem State.sendAgain_marks (e : HistoryEntry) (s : State) : (s.sendAgain e).marks = s.marks := rfl
@[simp] theorem State.sendAgain_inReset (e : HistoryEntry) (s : State) : (s.sendAgain e).inReset = s.inReset := rfl
@[simp] theorem State.sendAgain_pending (e : HistoryEntry) (s : State) : (s.sendAgain e).pending = s.pending := rfl

@[simp] theorem State.opened_memory (s : State) : (s.opened).memory = s.memory := rfl
@[simp] theorem State.opened_plan (s : State) : (s.opened).plan = s.plan := rfl
@[simp] theorem State.opened_engine (s : State) : (s.opened).engine = s.engine := rfl
@[simp] theorem State.opened_time (s : State) : (s.opened).time = s.time := rfl
@[simp] theorem State.opened_capture (s : State) : (s.opened).capture = s.capture := rfl
@[simp] theorem State.opened_marks (s : State) : (s.opened).marks = s.marks := rfl
@[simp] theorem State.opened_inReset (s : State) : (s.opened).inReset = s.inReset := rfl
@[simp] theorem State.opened_pending (s : State) : (s.opened).pending = s.pending := rfl

@[simp] theorem State.executeOpen_memory (t : Byte) (s : State) : (s.executeOpen t).memory = s.memory := rfl
@[simp] theorem State.executeOpen_plan (t : Byte) (s : State) : (s.executeOpen t).plan = s.plan := rfl
@[simp] theorem State.executeOpen_engine (t : Byte) (s : State) : (s.executeOpen t).engine = s.engine := rfl
@[simp] theorem State.executeOpen_time (t : Byte) (s : State) : (s.executeOpen t).time = s.time := rfl
@[simp] theorem State.executeOpen_capture (t : Byte) (s : State) : (s.executeOpen t).capture = s.capture := rfl
@[simp] theorem State.executeOpen_marks (t : Byte) (s : State) : (s.executeOpen t).marks = s.marks := rfl
@[simp] theorem State.executeOpen_inReset (t : Byte) (s : State) : (s.executeOpen t).inReset = s.inReset := rfl
@[simp] theorem State.executeOpen_pending (t : Byte) (s : State) : (s.executeOpen t).pending = s.pending := rfl

@[simp] theorem State.chooseFrame_streams (s : State) : (s.chooseFrame).streams = s.streams := by
  simp only [State.chooseFrame]
  (repeat' split) <;> simp
@[simp] theorem State.chooseFrame_memory (s : State) : (s.chooseFrame).memory = s.memory := by
  simp only [State.chooseFrame]
  (repeat' split) <;> simp
@[simp] theorem State.chooseFrame_plan (s : State) : (s.chooseFrame).plan = s.plan := by
  simp only [State.chooseFrame]
  (repeat' split) <;> simp
@[simp] theorem State.chooseFrame_engine (s : State) : (s.chooseFrame).engine = s.engine := by
  simp only [State.chooseFrame]
  (repeat' split) <;> simp
@[simp] theorem State.chooseFrame_master (s : State) : (s.chooseFrame).master = s.master := by
  simp only [State.chooseFrame]
  (repeat' split) <;> simp
@[simp] theorem State.chooseFrame_time (s : State) : (s.chooseFrame).time = s.time := by
  simp only [State.chooseFrame]
  (repeat' split) <;> simp
@[simp] theorem State.chooseFrame_capture (s : State) : (s.chooseFrame).capture = s.capture := by
  simp only [State.chooseFrame]
  (repeat' split) <;> simp
@[simp] theorem State.chooseFrame_marks (s : State) : (s.chooseFrame).marks = s.marks := by
  simp only [State.chooseFrame]
  (repeat' split) <;> simp
@[simp] theorem State.chooseFrame_inReset (s : State) : (s.chooseFrame).inReset = s.inReset := by
  simp only [State.chooseFrame]
  (repeat' split) <;> simp
@[simp] theorem State.chooseFrame_pending (s : State) : (s.chooseFrame).pending = s.pending := by
  simp only [State.chooseFrame]
  (repeat' split) <;> simp

@[simp] theorem State.improper_reports (a b : Byte) (s : State) : (s.improper a b).reports = s.reports := by
  simp only [State.improper]
  (repeat' split) <;> simp
@[simp] theorem State.improper_streams (a b : Byte) (s : State) : (s.improper a b).streams = s.streams := by
  simp only [State.improper]
  (repeat' split) <;> simp
@[simp] theorem State.improper_memory (a b : Byte) (s : State) : (s.improper a b).memory = s.memory := by
  simp only [State.improper]
  (repeat' split) <;> simp
@[simp] theorem State.improper_plan (a b : Byte) (s : State) : (s.improper a b).plan = s.plan := by
  simp only [State.improper]
  (repeat' split) <;> simp
@[simp] theorem State.improper_engine (a b : Byte) (s : State) : (s.improper a b).engine = s.engine := by
  simp only [State.improper]
  (repeat' split) <;> simp
@[simp] theorem State.improper_master (a b : Byte) (s : State) : (s.improper a b).master = s.master := by
  simp only [State.improper]
  (repeat' split) <;> simp
@[simp] theorem State.improper_time (a b : Byte) (s : State) : (s.improper a b).time = s.time := by
  simp only [State.improper]
  (repeat' split) <;> simp
@[simp] theorem State.improper_capture (a b : Byte) (s : State) : (s.improper a b).capture = s.capture := by
  simp only [State.improper]
  (repeat' split) <;> simp
@[simp] theorem State.improper_marks (a b : Byte) (s : State) : (s.improper a b).marks = s.marks := by
  simp only [State.improper]
  (repeat' split) <;> simp
@[simp] theorem State.improper_inReset (a b : Byte) (s : State) : (s.improper a b).inReset = s.inReset := by
  simp only [State.improper]
  (repeat' split) <;> simp
@[simp] theorem State.improper_pending (a b : Byte) (s : State) : (s.improper a b).pending = s.pending := by
  simp only [State.improper]
  (repeat' split) <;> simp

@[simp] theorem State.abandonCandidate_streams (k : PortErrorKind) (s : State) : (s.abandonCandidate k).streams = s.streams := rfl
@[simp] theorem State.abandonCandidate_memory (k : PortErrorKind) (s : State) : (s.abandonCandidate k).memory = s.memory := rfl
@[simp] theorem State.abandonCandidate_plan (k : PortErrorKind) (s : State) : (s.abandonCandidate k).plan = s.plan := rfl
@[simp] theorem State.abandonCandidate_engine (k : PortErrorKind) (s : State) : (s.abandonCandidate k).engine = s.engine := rfl
@[simp] theorem State.abandonCandidate_master (k : PortErrorKind) (s : State) : (s.abandonCandidate k).master = s.master := rfl
@[simp] theorem State.abandonCandidate_time (k : PortErrorKind) (s : State) : (s.abandonCandidate k).time = s.time := rfl
@[simp] theorem State.abandonCandidate_capture (k : PortErrorKind) (s : State) : (s.abandonCandidate k).capture = s.capture := rfl
@[simp] theorem State.abandonCandidate_marks (k : PortErrorKind) (s : State) : (s.abandonCandidate k).marks = s.marks := rfl
@[simp] theorem State.abandonCandidate_inReset (k : PortErrorKind) (s : State) : (s.abandonCandidate k).inReset = s.inReset := rfl
@[simp] theorem State.abandonCandidate_pending (k : PortErrorKind) (s : State) : (s.abandonCandidate k).pending = s.pending := rfl

@[simp] theorem linkStatus_port (s : State) : (linkStatus s).1.port = s.port := by
  simp only [linkStatus]
  (repeat' split) <;> simp [State.reply]
@[simp] theorem linkStatus_reports (s : State) : (linkStatus s).1.reports = s.reports := by
  simp only [linkStatus]
  (repeat' split) <;> simp [State.reply]
@[simp] theorem linkStatus_streams (s : State) : (linkStatus s).1.streams = s.streams := by
  simp only [linkStatus]
  (repeat' split) <;> simp [State.reply]
@[simp] theorem linkStatus_memory (s : State) : (linkStatus s).1.memory = s.memory := by
  simp only [linkStatus]
  (repeat' split) <;> simp [State.reply]
@[simp] theorem linkStatus_plan (s : State) : (linkStatus s).1.plan = s.plan := by
  simp only [linkStatus]
  (repeat' split) <;> simp [State.reply]
@[simp] theorem linkStatus_engine (s : State) : (linkStatus s).1.engine = s.engine := by
  simp only [linkStatus]
  (repeat' split) <;> simp [State.reply]
@[simp] theorem linkStatus_master (s : State) : (linkStatus s).1.master = s.master := by
  simp only [linkStatus]
  (repeat' split) <;> simp [State.reply]
@[simp] theorem linkStatus_time (s : State) : (linkStatus s).1.time = s.time := by
  simp only [linkStatus]
  (repeat' split) <;> simp [State.reply]
@[simp] theorem linkStatus_capture (s : State) : (linkStatus s).1.capture = s.capture := by
  simp only [linkStatus]
  (repeat' split) <;> simp [State.reply]
@[simp] theorem linkStatus_marks (s : State) : (linkStatus s).1.marks = s.marks := by
  simp only [linkStatus]
  (repeat' split) <;> simp [State.reply]
@[simp] theorem linkStatus_inReset (s : State) : (linkStatus s).1.inReset = s.inReset := by
  simp only [linkStatus]
  (repeat' split) <;> simp [State.reply]
@[simp] theorem linkStatus_pending (s : State) : (linkStatus s).1.pending = s.pending := by
  simp only [linkStatus]
  (repeat' split) <;> simp [State.reply]

@[simp] theorem poolStatus_port (s : State) : (poolStatus s).1.port = s.port := by
  simp only [poolStatus]
  (repeat' split) <;> simp [State.reply]
@[simp] theorem poolStatus_reports (s : State) : (poolStatus s).1.reports = s.reports := by
  simp only [poolStatus]
  (repeat' split) <;> simp [State.reply]
@[simp] theorem poolStatus_streams (s : State) : (poolStatus s).1.streams = s.streams := by
  simp only [poolStatus]
  (repeat' split) <;> simp [State.reply]
@[simp] theorem poolStatus_memory (s : State) : (poolStatus s).1.memory = s.memory := by
  simp only [poolStatus]
  (repeat' split) <;> simp [State.reply]
@[simp] theorem poolStatus_plan (s : State) : (poolStatus s).1.plan = s.plan := by
  simp only [poolStatus]
  (repeat' split) <;> simp [State.reply]
@[simp] theorem poolStatus_engine (s : State) : (poolStatus s).1.engine = s.engine := by
  simp only [poolStatus]
  (repeat' split) <;> simp [State.reply]
@[simp] theorem poolStatus_master (s : State) : (poolStatus s).1.master = s.master := by
  simp only [poolStatus]
  (repeat' split) <;> simp [State.reply]
@[simp] theorem poolStatus_time (s : State) : (poolStatus s).1.time = s.time := by
  simp only [poolStatus]
  (repeat' split) <;> simp [State.reply]
@[simp] theorem poolStatus_capture (s : State) : (poolStatus s).1.capture = s.capture := by
  simp only [poolStatus]
  (repeat' split) <;> simp [State.reply]
@[simp] theorem poolStatus_marks (s : State) : (poolStatus s).1.marks = s.marks := by
  simp only [poolStatus]
  (repeat' split) <;> simp [State.reply]
@[simp] theorem poolStatus_inReset (s : State) : (poolStatus s).1.inReset = s.inReset := by
  simp only [poolStatus]
  (repeat' split) <;> simp [State.reply]
@[simp] theorem poolStatus_pending (s : State) : (poolStatus s).1.pending = s.pending := by
  simp only [poolStatus]
  (repeat' split) <;> simp [State.reply]

@[simp] theorem timeStatusRequest_port (s : State) : (timeStatusRequest s).1.port = s.port := by
  simp only [timeStatusRequest]
  (repeat' split) <;> simp [State.reply]
@[simp] theorem timeStatusRequest_reports (s : State) : (timeStatusRequest s).1.reports = s.reports := by
  simp only [timeStatusRequest]
  (repeat' split) <;> simp [State.reply]
@[simp] theorem timeStatusRequest_streams (s : State) : (timeStatusRequest s).1.streams = s.streams := by
  simp only [timeStatusRequest]
  (repeat' split) <;> simp [State.reply]
@[simp] theorem timeStatusRequest_memory (s : State) : (timeStatusRequest s).1.memory = s.memory := by
  simp only [timeStatusRequest]
  (repeat' split) <;> simp [State.reply]
@[simp] theorem timeStatusRequest_plan (s : State) : (timeStatusRequest s).1.plan = s.plan := by
  simp only [timeStatusRequest]
  (repeat' split) <;> simp [State.reply]
@[simp] theorem timeStatusRequest_engine (s : State) : (timeStatusRequest s).1.engine = s.engine := by
  simp only [timeStatusRequest]
  (repeat' split) <;> simp [State.reply]
@[simp] theorem timeStatusRequest_master (s : State) : (timeStatusRequest s).1.master = s.master := by
  simp only [timeStatusRequest]
  (repeat' split) <;> simp [State.reply]
@[simp] theorem timeStatusRequest_time (s : State) : (timeStatusRequest s).1.time = s.time := by
  simp only [timeStatusRequest]
  (repeat' split) <;> simp [State.reply]
@[simp] theorem timeStatusRequest_capture (s : State) : (timeStatusRequest s).1.capture = s.capture := by
  simp only [timeStatusRequest]
  (repeat' split) <;> simp [State.reply]
@[simp] theorem timeStatusRequest_marks (s : State) : (timeStatusRequest s).1.marks = s.marks := by
  simp only [timeStatusRequest]
  (repeat' split) <;> simp [State.reply]
@[simp] theorem timeStatusRequest_inReset (s : State) : (timeStatusRequest s).1.inReset = s.inReset := by
  simp only [timeStatusRequest]
  (repeat' split) <;> simp [State.reply]
@[simp] theorem timeStatusRequest_pending (s : State) : (timeStatusRequest s).1.pending = s.pending := by
  simp only [timeStatusRequest]
  (repeat' split) <;> simp [State.reply]

@[simp] theorem loadQuery_port (a b : Byte) (s : State) : (loadQuery a b s).1.port = s.port := by
  simp only [loadQuery]
  (repeat' split) <;> simp [State.reply]
@[simp] theorem loadQuery_reports (a b : Byte) (s : State) : (loadQuery a b s).1.reports = s.reports := by
  simp only [loadQuery]
  (repeat' split) <;> simp [State.reply]
@[simp] theorem loadQuery_streams (a b : Byte) (s : State) : (loadQuery a b s).1.streams = s.streams := by
  simp only [loadQuery]
  (repeat' split) <;> simp [State.reply]
@[simp] theorem loadQuery_memory (a b : Byte) (s : State) : (loadQuery a b s).1.memory = s.memory := by
  simp only [loadQuery]
  (repeat' split) <;> simp [State.reply]
@[simp] theorem loadQuery_plan (a b : Byte) (s : State) : (loadQuery a b s).1.plan = s.plan := by
  simp only [loadQuery]
  (repeat' split) <;> simp [State.reply]
@[simp] theorem loadQuery_engine (a b : Byte) (s : State) : (loadQuery a b s).1.engine = s.engine := by
  simp only [loadQuery]
  (repeat' split) <;> simp [State.reply]
@[simp] theorem loadQuery_master (a b : Byte) (s : State) : (loadQuery a b s).1.master = s.master := by
  simp only [loadQuery]
  (repeat' split) <;> simp [State.reply]
@[simp] theorem loadQuery_time (a b : Byte) (s : State) : (loadQuery a b s).1.time = s.time := by
  simp only [loadQuery]
  (repeat' split) <;> simp [State.reply]
@[simp] theorem loadQuery_capture (a b : Byte) (s : State) : (loadQuery a b s).1.capture = s.capture := by
  simp only [loadQuery]
  (repeat' split) <;> simp [State.reply]
@[simp] theorem loadQuery_marks (a b : Byte) (s : State) : (loadQuery a b s).1.marks = s.marks := by
  simp only [loadQuery]
  (repeat' split) <;> simp [State.reply]
@[simp] theorem loadQuery_inReset (a b : Byte) (s : State) : (loadQuery a b s).1.inReset = s.inReset := by
  simp only [loadQuery]
  (repeat' split) <;> simp [State.reply]
@[simp] theorem loadQuery_pending (a b : Byte) (s : State) : (loadQuery a b s).1.pending = s.pending := by
  simp only [loadQuery]
  (repeat' split) <;> simp [State.reply]

@[simp] theorem streamStatusRequest_port (a : Byte) (s : State) : (streamStatusRequest a s).1.port = s.port := by
  simp only [streamStatusRequest]
  (repeat' split) <;> simp [State.reply]
@[simp] theorem streamStatusRequest_reports (a : Byte) (s : State) : (streamStatusRequest a s).1.reports = s.reports := by
  simp only [streamStatusRequest]
  (repeat' split) <;> simp [State.reply]
@[simp] theorem streamStatusRequest_streams (a : Byte) (s : State) : (streamStatusRequest a s).1.streams = s.streams := by
  simp only [streamStatusRequest]
  (repeat' split) <;> simp [State.reply]
@[simp] theorem streamStatusRequest_memory (a : Byte) (s : State) : (streamStatusRequest a s).1.memory = s.memory := by
  simp only [streamStatusRequest]
  (repeat' split) <;> simp [State.reply]
@[simp] theorem streamStatusRequest_plan (a : Byte) (s : State) : (streamStatusRequest a s).1.plan = s.plan := by
  simp only [streamStatusRequest]
  (repeat' split) <;> simp [State.reply]
@[simp] theorem streamStatusRequest_engine (a : Byte) (s : State) : (streamStatusRequest a s).1.engine = s.engine := by
  simp only [streamStatusRequest]
  (repeat' split) <;> simp [State.reply]
@[simp] theorem streamStatusRequest_master (a : Byte) (s : State) : (streamStatusRequest a s).1.master = s.master := by
  simp only [streamStatusRequest]
  (repeat' split) <;> simp [State.reply]
@[simp] theorem streamStatusRequest_time (a : Byte) (s : State) : (streamStatusRequest a s).1.time = s.time := by
  simp only [streamStatusRequest]
  (repeat' split) <;> simp [State.reply]
@[simp] theorem streamStatusRequest_capture (a : Byte) (s : State) : (streamStatusRequest a s).1.capture = s.capture := by
  simp only [streamStatusRequest]
  (repeat' split) <;> simp [State.reply]
@[simp] theorem streamStatusRequest_marks (a : Byte) (s : State) : (streamStatusRequest a s).1.marks = s.marks := by
  simp only [streamStatusRequest]
  (repeat' split) <;> simp [State.reply]
@[simp] theorem streamStatusRequest_inReset (a : Byte) (s : State) : (streamStatusRequest a s).1.inReset = s.inReset := by
  simp only [streamStatusRequest]
  (repeat' split) <;> simp [State.reply]
@[simp] theorem streamStatusRequest_pending (a : Byte) (s : State) : (streamStatusRequest a s).1.pending = s.pending := by
  simp only [streamStatusRequest]
  (repeat' split) <;> simp [State.reply]

@[simp] theorem configureLink_port (a : Byte) (b : BitVec 16) (c d : Byte) (s : State) : (configureLink a b c d s).1.port = s.port := by
  simp only [configureLink]
  (repeat' split) <;> simp [State.reply]
@[simp] theorem configureLink_reports (a : Byte) (b : BitVec 16) (c d : Byte) (s : State) : (configureLink a b c d s).1.reports = s.reports := by
  simp only [configureLink]
  (repeat' split) <;> simp [State.reply]
@[simp] theorem configureLink_streams (a : Byte) (b : BitVec 16) (c d : Byte) (s : State) : (configureLink a b c d s).1.streams = s.streams := by
  simp only [configureLink]
  (repeat' split) <;> simp [State.reply]
@[simp] theorem configureLink_memory (a : Byte) (b : BitVec 16) (c d : Byte) (s : State) : (configureLink a b c d s).1.memory = s.memory := by
  simp only [configureLink]
  (repeat' split) <;> simp [State.reply]
@[simp] theorem configureLink_plan (a : Byte) (b : BitVec 16) (c d : Byte) (s : State) : (configureLink a b c d s).1.plan = s.plan := by
  simp only [configureLink]
  (repeat' split) <;> simp [State.reply]
@[simp] theorem configureLink_capture (a : Byte) (b : BitVec 16) (c d : Byte) (s : State) : (configureLink a b c d s).1.capture = s.capture := by
  simp only [configureLink]
  (repeat' split) <;> simp [State.reply]
@[simp] theorem configureLink_marks (a : Byte) (b : BitVec 16) (c d : Byte) (s : State) : (configureLink a b c d s).1.marks = s.marks := by
  simp only [configureLink]
  (repeat' split) <;> simp [State.reply]
@[simp] theorem configureLink_inReset (a : Byte) (b : BitVec 16) (c d : Byte) (s : State) : (configureLink a b c d s).1.inReset = s.inReset := by
  simp only [configureLink]
  (repeat' split) <;> simp [State.reply]
@[simp] theorem configureLink_pending (a : Byte) (b : BitVec 16) (c d : Byte) (s : State) : (configureLink a b c d s).1.pending = s.pending := by
  simp only [configureLink]
  (repeat' split) <;> simp [State.reply]

@[simp] theorem linkUp_time (t : Byte) (s : State) : (linkUp t s).1.time = s.time := by
  simp only [linkUp]
  (repeat' split) <;> simp [State.reply]
@[simp] theorem linkUp_capture (t : Byte) (s : State) : (linkUp t s).1.capture = s.capture := by
  simp only [linkUp]
  (repeat' split) <;> simp [State.reply]
@[simp] theorem linkUp_marks (t : Byte) (s : State) : (linkUp t s).1.marks = s.marks := by
  simp only [linkUp]
  (repeat' split) <;> simp [State.reply]
@[simp] theorem linkUp_inReset (t : Byte) (s : State) : (linkUp t s).1.inReset = s.inReset := by
  simp only [linkUp]
  (repeat' split) <;> simp [State.reply]
@[simp] theorem linkUp_pending (t : Byte) (s : State) : (linkUp t s).1.pending = s.pending := by
  simp only [linkUp]
  (repeat' split) <;> simp [State.reply]

@[simp] theorem linkDown_time (s : State) : (linkDown s).1.time = s.time := by
  simp only [linkDown]
  (repeat' split) <;> simp [State.reply]
@[simp] theorem linkDown_capture (s : State) : (linkDown s).1.capture = s.capture := by
  simp only [linkDown]
  (repeat' split) <;> simp [State.reply]
@[simp] theorem linkDown_marks (s : State) : (linkDown s).1.marks = s.marks := by
  simp only [linkDown]
  (repeat' split) <;> simp [State.reply]
@[simp] theorem linkDown_inReset (s : State) : (linkDown s).1.inReset = s.inReset := by
  simp only [linkDown]
  (repeat' split) <;> simp [State.reply]
@[simp] theorem linkDown_pending (s : State) : (linkDown s).1.pending = s.pending := by
  simp only [linkDown]
  (repeat' split) <;> simp [State.reply]

@[simp] theorem handoverRequest_port (t : Byte) (s : State) : (handoverRequest t s).1.port = s.port := by
  simp only [handoverRequest]
  (repeat' split) <;> simp [State.reply]
@[simp] theorem handoverRequest_reports (t : Byte) (s : State) : (handoverRequest t s).1.reports = s.reports := by
  simp only [handoverRequest]
  (repeat' split) <;> simp [State.reply]
@[simp] theorem handoverRequest_streams (t : Byte) (s : State) : (handoverRequest t s).1.streams = s.streams := by
  simp only [handoverRequest]
  (repeat' split) <;> simp [State.reply]
@[simp] theorem handoverRequest_memory (t : Byte) (s : State) : (handoverRequest t s).1.memory = s.memory := by
  simp only [handoverRequest]
  (repeat' split) <;> simp [State.reply]
@[simp] theorem handoverRequest_plan (t : Byte) (s : State) : (handoverRequest t s).1.plan = s.plan := by
  simp only [handoverRequest]
  (repeat' split) <;> simp [State.reply]
@[simp] theorem handoverRequest_engine (t : Byte) (s : State) : (handoverRequest t s).1.engine = s.engine := by
  simp only [handoverRequest]
  (repeat' split) <;> simp [State.reply]
@[simp] theorem handoverRequest_time (t : Byte) (s : State) : (handoverRequest t s).1.time = s.time := by
  simp only [handoverRequest]
  (repeat' split) <;> simp [State.reply]
@[simp] theorem handoverRequest_capture (t : Byte) (s : State) : (handoverRequest t s).1.capture = s.capture := by
  simp only [handoverRequest]
  (repeat' split) <;> simp [State.reply]
@[simp] theorem handoverRequest_marks (t : Byte) (s : State) : (handoverRequest t s).1.marks = s.marks := by
  simp only [handoverRequest]
  (repeat' split) <;> simp [State.reply]
@[simp] theorem handoverRequest_inReset (t : Byte) (s : State) : (handoverRequest t s).1.inReset = s.inReset := by
  simp only [handoverRequest]
  (repeat' split) <;> simp [State.reply]
@[simp] theorem handoverRequest_pending (t : Byte) (s : State) : (handoverRequest t s).1.pending = s.pending := by
  simp only [handoverRequest]
  (repeat' split) <;> simp [State.reply]

@[simp] theorem ackReportsRequest_port (n : Byte) (s : State) : (ackReportsRequest n s).1.port = s.port := by
  simp only [ackReportsRequest]
  (repeat' split) <;> simp [State.reply]
@[simp] theorem ackReportsRequest_streams (n : Byte) (s : State) : (ackReportsRequest n s).1.streams = s.streams := by
  simp only [ackReportsRequest]
  (repeat' split) <;> simp [State.reply]
@[simp] theorem ackReportsRequest_memory (n : Byte) (s : State) : (ackReportsRequest n s).1.memory = s.memory := by
  simp only [ackReportsRequest]
  (repeat' split) <;> simp [State.reply]
@[simp] theorem ackReportsRequest_plan (n : Byte) (s : State) : (ackReportsRequest n s).1.plan = s.plan := by
  simp only [ackReportsRequest]
  (repeat' split) <;> simp [State.reply]
@[simp] theorem ackReportsRequest_engine (n : Byte) (s : State) : (ackReportsRequest n s).1.engine = s.engine := by
  simp only [ackReportsRequest]
  (repeat' split) <;> simp [State.reply]
@[simp] theorem ackReportsRequest_master (n : Byte) (s : State) : (ackReportsRequest n s).1.master = s.master := by
  simp only [ackReportsRequest]
  (repeat' split) <;> simp [State.reply]
@[simp] theorem ackReportsRequest_time (n : Byte) (s : State) : (ackReportsRequest n s).1.time = s.time := by
  simp only [ackReportsRequest]
  (repeat' split) <;> simp [State.reply]
@[simp] theorem ackReportsRequest_capture (n : Byte) (s : State) : (ackReportsRequest n s).1.capture = s.capture := by
  simp only [ackReportsRequest]
  (repeat' split) <;> simp [State.reply]
@[simp] theorem ackReportsRequest_marks (n : Byte) (s : State) : (ackReportsRequest n s).1.marks = s.marks := by
  simp only [ackReportsRequest]
  (repeat' split) <;> simp [State.reply]
@[simp] theorem ackReportsRequest_inReset (n : Byte) (s : State) : (ackReportsRequest n s).1.inReset = s.inReset := by
  simp only [ackReportsRequest]
  (repeat' split) <;> simp [State.reply]
@[simp] theorem ackReportsRequest_pending (n : Byte) (s : State) : (ackReportsRequest n s).1.pending = s.pending := by
  simp only [ackReportsRequest]
  (repeat' split) <;> simp [State.reply]

@[simp] theorem resendReportsRequest_port (n : Byte) (s : State) : (resendReportsRequest n s).1.port = s.port := by
  simp only [resendReportsRequest]
  (repeat' split) <;> simp [State.reply]
@[simp] theorem resendReportsRequest_streams (n : Byte) (s : State) : (resendReportsRequest n s).1.streams = s.streams := by
  simp only [resendReportsRequest]
  (repeat' split) <;> simp [State.reply]
@[simp] theorem resendReportsRequest_memory (n : Byte) (s : State) : (resendReportsRequest n s).1.memory = s.memory := by
  simp only [resendReportsRequest]
  (repeat' split) <;> simp [State.reply]
@[simp] theorem resendReportsRequest_plan (n : Byte) (s : State) : (resendReportsRequest n s).1.plan = s.plan := by
  simp only [resendReportsRequest]
  (repeat' split) <;> simp [State.reply]
@[simp] theorem resendReportsRequest_engine (n : Byte) (s : State) : (resendReportsRequest n s).1.engine = s.engine := by
  simp only [resendReportsRequest]
  (repeat' split) <;> simp [State.reply]
@[simp] theorem resendReportsRequest_master (n : Byte) (s : State) : (resendReportsRequest n s).1.master = s.master := by
  simp only [resendReportsRequest]
  (repeat' split) <;> simp [State.reply]
@[simp] theorem resendReportsRequest_time (n : Byte) (s : State) : (resendReportsRequest n s).1.time = s.time := by
  simp only [resendReportsRequest]
  (repeat' split) <;> simp [State.reply]
@[simp] theorem resendReportsRequest_capture (n : Byte) (s : State) : (resendReportsRequest n s).1.capture = s.capture := by
  simp only [resendReportsRequest]
  (repeat' split) <;> simp [State.reply]
@[simp] theorem resendReportsRequest_marks (n : Byte) (s : State) : (resendReportsRequest n s).1.marks = s.marks := by
  simp only [resendReportsRequest]
  (repeat' split) <;> simp [State.reply]
@[simp] theorem resendReportsRequest_inReset (n : Byte) (s : State) : (resendReportsRequest n s).1.inReset = s.inReset := by
  simp only [resendReportsRequest]
  (repeat' split) <;> simp [State.reply]
@[simp] theorem resendReportsRequest_pending (n : Byte) (s : State) : (resendReportsRequest n s).1.pending = s.pending := by
  simp only [resendReportsRequest]
  (repeat' split) <;> simp [State.reply]

@[simp] theorem restartRequest_reports (s : State) : (restartRequest s).1.reports = s.reports := by
  simp only [restartRequest]
  (repeat' split) <;> simp [State.reply]
@[simp] theorem restartRequest_memory (s : State) : (restartRequest s).1.memory = s.memory := by
  simp only [restartRequest]
  (repeat' split) <;> simp [State.reply]
@[simp] theorem restartRequest_plan (s : State) : (restartRequest s).1.plan = s.plan := by
  simp only [restartRequest]
  (repeat' split) <;> simp [State.reply]
@[simp] theorem restartRequest_engine (s : State) : (restartRequest s).1.engine = s.engine := by
  simp only [restartRequest]
  (repeat' split) <;> simp [State.reply]
@[simp] theorem restartRequest_time (s : State) : (restartRequest s).1.time = s.time := by
  simp only [restartRequest]
  (repeat' split) <;> simp [State.reply]
@[simp] theorem restartRequest_capture (s : State) : (restartRequest s).1.capture = s.capture := by
  simp only [restartRequest]
  (repeat' split) <;> simp [State.reply]
@[simp] theorem restartRequest_marks (s : State) : (restartRequest s).1.marks = s.marks := by
  simp only [restartRequest]
  (repeat' split) <;> simp [State.reply]
@[simp] theorem restartRequest_inReset (s : State) : (restartRequest s).1.inReset = s.inReset := by
  simp only [restartRequest]
  (repeat' split) <;> simp [State.reply]
@[simp] theorem restartRequest_pending (s : State) : (restartRequest s).1.pending = s.pending := by
  simp only [restartRequest]
  (repeat' split) <;> simp [State.reply]

@[simp] theorem defineStream_port (f : DefineFields) (s : State) : (defineStream f s).1.port = s.port := by
  simp only [defineStream]
  (repeat' split) <;> simp [State.reply]
@[simp] theorem defineStream_reports (f : DefineFields) (s : State) : (defineStream f s).1.reports = s.reports := by
  simp only [defineStream]
  (repeat' split) <;> simp [State.reply]
@[simp] theorem defineStream_engine (f : DefineFields) (s : State) : (defineStream f s).1.engine = s.engine := by
  simp only [defineStream]
  (repeat' split) <;> simp [State.reply]
@[simp] theorem defineStream_master (f : DefineFields) (s : State) : (defineStream f s).1.master = s.master := by
  simp only [defineStream]
  (repeat' split) <;> simp [State.reply]
@[simp] theorem defineStream_time (f : DefineFields) (s : State) : (defineStream f s).1.time = s.time := by
  simp only [defineStream]
  (repeat' split) <;> simp [State.reply]
@[simp] theorem defineStream_capture (f : DefineFields) (s : State) : (defineStream f s).1.capture = s.capture := by
  simp only [defineStream]
  (repeat' split) <;> simp [State.reply]
@[simp] theorem defineStream_marks (f : DefineFields) (s : State) : (defineStream f s).1.marks = s.marks := by
  simp only [defineStream]
  (repeat' split) <;> simp [State.reply]
@[simp] theorem defineStream_inReset (f : DefineFields) (s : State) : (defineStream f s).1.inReset = s.inReset := by
  simp only [defineStream]
  (repeat' split) <;> simp [State.reply]
@[simp] theorem defineStream_pending (f : DefineFields) (s : State) : (defineStream f s).1.pending = s.pending := by
  simp only [defineStream]
  (repeat' split) <;> simp [State.reply]

@[simp] theorem startRequest_port (a b : Byte) (c : BitVec 16) (d : BitVec 32) (s : State) : (startRequest a b c d s).1.port = s.port := by
  refine withStream_keeps (fun s => s.port) _ _ _ ?_
  intro i r
  (try dsimp only)
  (repeat' split) <;> simp [State.reply]
@[simp] theorem startRequest_engine (a b : Byte) (c : BitVec 16) (d : BitVec 32) (s : State) : (startRequest a b c d s).1.engine = s.engine := by
  refine withStream_keeps (fun s => s.engine) _ _ _ ?_
  intro i r
  (try dsimp only)
  (repeat' split) <;> simp [State.reply]
@[simp] theorem startRequest_master (a b : Byte) (c : BitVec 16) (d : BitVec 32) (s : State) : (startRequest a b c d s).1.master = s.master := by
  refine withStream_keeps (fun s => s.master) _ _ _ ?_
  intro i r
  (try dsimp only)
  (repeat' split) <;> simp [State.reply]
@[simp] theorem startRequest_time (a b : Byte) (c : BitVec 16) (d : BitVec 32) (s : State) : (startRequest a b c d s).1.time = s.time := by
  refine withStream_keeps (fun s => s.time) _ _ _ ?_
  intro i r
  (try dsimp only)
  (repeat' split) <;> simp [State.reply]
@[simp] theorem startRequest_capture (a b : Byte) (c : BitVec 16) (d : BitVec 32) (s : State) : (startRequest a b c d s).1.capture = s.capture := by
  refine withStream_keeps (fun s => s.capture) _ _ _ ?_
  intro i r
  (try dsimp only)
  (repeat' split) <;> simp [State.reply]
@[simp] theorem startRequest_marks (a b : Byte) (c : BitVec 16) (d : BitVec 32) (s : State) : (startRequest a b c d s).1.marks = s.marks := by
  refine withStream_keeps (fun s => s.marks) _ _ _ ?_
  intro i r
  (try dsimp only)
  (repeat' split) <;> simp [State.reply]
@[simp] theorem startRequest_inReset (a b : Byte) (c : BitVec 16) (d : BitVec 32) (s : State) : (startRequest a b c d s).1.inReset = s.inReset := by
  refine withStream_keeps (fun s => s.inReset) _ _ _ ?_
  intro i r
  (try dsimp only)
  (repeat' split) <;> simp [State.reply]
@[simp] theorem startRequest_pending (a b : Byte) (c : BitVec 16) (d : BitVec 32) (s : State) : (startRequest a b c d s).1.pending = s.pending := by
  refine withStream_keeps (fun s => s.pending) _ _ _ ?_
  intro i r
  (try dsimp only)
  (repeat' split) <;> simp [State.reply]

@[simp] theorem stopRequest_port (t a : Byte) (s : State) : (stopRequest t a s).1.port = s.port := by
  refine withStream_keeps (fun s => s.port) _ _ _ ?_
  intro i r
  (try dsimp only)
  (repeat' split) <;> simp [State.reply]
@[simp] theorem stopRequest_memory (t a : Byte) (s : State) : (stopRequest t a s).1.memory = s.memory := by
  refine withStream_keeps (fun s => s.memory) _ _ _ ?_
  intro i r
  (try dsimp only)
  (repeat' split) <;> simp [State.reply]
@[simp] theorem stopRequest_engine (t a : Byte) (s : State) : (stopRequest t a s).1.engine = s.engine := by
  refine withStream_keeps (fun s => s.engine) _ _ _ ?_
  intro i r
  (try dsimp only)
  (repeat' split) <;> simp [State.reply]
@[simp] theorem stopRequest_master (t a : Byte) (s : State) : (stopRequest t a s).1.master = s.master := by
  refine withStream_keeps (fun s => s.master) _ _ _ ?_
  intro i r
  (try dsimp only)
  (repeat' split) <;> simp [State.reply]
@[simp] theorem stopRequest_time (t a : Byte) (s : State) : (stopRequest t a s).1.time = s.time := by
  refine withStream_keeps (fun s => s.time) _ _ _ ?_
  intro i r
  (try dsimp only)
  (repeat' split) <;> simp [State.reply]
@[simp] theorem stopRequest_capture (t a : Byte) (s : State) : (stopRequest t a s).1.capture = s.capture := by
  refine withStream_keeps (fun s => s.capture) _ _ _ ?_
  intro i r
  (try dsimp only)
  (repeat' split) <;> simp [State.reply]
@[simp] theorem stopRequest_marks (t a : Byte) (s : State) : (stopRequest t a s).1.marks = s.marks := by
  refine withStream_keeps (fun s => s.marks) _ _ _ ?_
  intro i r
  (try dsimp only)
  (repeat' split) <;> simp [State.reply]
@[simp] theorem stopRequest_inReset (t a : Byte) (s : State) : (stopRequest t a s).1.inReset = s.inReset := by
  refine withStream_keeps (fun s => s.inReset) _ _ _ ?_
  intro i r
  (try dsimp only)
  (repeat' split) <;> simp [State.reply]
@[simp] theorem stopRequest_pending (t a : Byte) (s : State) : (stopRequest t a s).1.pending = s.pending := by
  refine withStream_keeps (fun s => s.pending) _ _ _ ?_
  intro i r
  (try dsimp only)
  (repeat' split) <;> simp [State.reply]

@[simp] theorem pauseRequest_port (a : Byte) (s : State) : (pauseRequest a s).1.port = s.port := by
  refine withStream_keeps (fun s => s.port) _ _ _ ?_
  intro i r
  (try dsimp only)
  (repeat' split) <;> simp [State.reply]
@[simp] theorem pauseRequest_reports (a : Byte) (s : State) : (pauseRequest a s).1.reports = s.reports := by
  refine withStream_keeps (fun s => s.reports) _ _ _ ?_
  intro i r
  (try dsimp only)
  (repeat' split) <;> simp [State.reply]
@[simp] theorem pauseRequest_memory (a : Byte) (s : State) : (pauseRequest a s).1.memory = s.memory := by
  refine withStream_keeps (fun s => s.memory) _ _ _ ?_
  intro i r
  (try dsimp only)
  (repeat' split) <;> simp [State.reply]
@[simp] theorem pauseRequest_plan (a : Byte) (s : State) : (pauseRequest a s).1.plan = s.plan := by
  refine withStream_keeps (fun s => s.plan) _ _ _ ?_
  intro i r
  (try dsimp only)
  (repeat' split) <;> simp [State.reply]
@[simp] theorem pauseRequest_engine (a : Byte) (s : State) : (pauseRequest a s).1.engine = s.engine := by
  refine withStream_keeps (fun s => s.engine) _ _ _ ?_
  intro i r
  (try dsimp only)
  (repeat' split) <;> simp [State.reply]
@[simp] theorem pauseRequest_master (a : Byte) (s : State) : (pauseRequest a s).1.master = s.master := by
  refine withStream_keeps (fun s => s.master) _ _ _ ?_
  intro i r
  (try dsimp only)
  (repeat' split) <;> simp [State.reply]
@[simp] theorem pauseRequest_time (a : Byte) (s : State) : (pauseRequest a s).1.time = s.time := by
  refine withStream_keeps (fun s => s.time) _ _ _ ?_
  intro i r
  (try dsimp only)
  (repeat' split) <;> simp [State.reply]
@[simp] theorem pauseRequest_capture (a : Byte) (s : State) : (pauseRequest a s).1.capture = s.capture := by
  refine withStream_keeps (fun s => s.capture) _ _ _ ?_
  intro i r
  (try dsimp only)
  (repeat' split) <;> simp [State.reply]
@[simp] theorem pauseRequest_marks (a : Byte) (s : State) : (pauseRequest a s).1.marks = s.marks := by
  refine withStream_keeps (fun s => s.marks) _ _ _ ?_
  intro i r
  (try dsimp only)
  (repeat' split) <;> simp [State.reply]
@[simp] theorem pauseRequest_inReset (a : Byte) (s : State) : (pauseRequest a s).1.inReset = s.inReset := by
  refine withStream_keeps (fun s => s.inReset) _ _ _ ?_
  intro i r
  (try dsimp only)
  (repeat' split) <;> simp [State.reply]
@[simp] theorem pauseRequest_pending (a : Byte) (s : State) : (pauseRequest a s).1.pending = s.pending := by
  refine withStream_keeps (fun s => s.pending) _ _ _ ?_
  intro i r
  (try dsimp only)
  (repeat' split) <;> simp [State.reply]

@[simp] theorem unpauseRequest_port (a : Byte) (s : State) : (unpauseRequest a s).1.port = s.port := by
  refine withStream_keeps (fun s => s.port) _ _ _ ?_
  intro i r
  (try dsimp only)
  (repeat' split) <;> simp [State.reply]
@[simp] theorem unpauseRequest_reports (a : Byte) (s : State) : (unpauseRequest a s).1.reports = s.reports := by
  refine withStream_keeps (fun s => s.reports) _ _ _ ?_
  intro i r
  (try dsimp only)
  (repeat' split) <;> simp [State.reply]
@[simp] theorem unpauseRequest_memory (a : Byte) (s : State) : (unpauseRequest a s).1.memory = s.memory := by
  refine withStream_keeps (fun s => s.memory) _ _ _ ?_
  intro i r
  (try dsimp only)
  (repeat' split) <;> simp [State.reply]
@[simp] theorem unpauseRequest_plan (a : Byte) (s : State) : (unpauseRequest a s).1.plan = s.plan := by
  refine withStream_keeps (fun s => s.plan) _ _ _ ?_
  intro i r
  (try dsimp only)
  (repeat' split) <;> simp [State.reply]
@[simp] theorem unpauseRequest_engine (a : Byte) (s : State) : (unpauseRequest a s).1.engine = s.engine := by
  refine withStream_keeps (fun s => s.engine) _ _ _ ?_
  intro i r
  (try dsimp only)
  (repeat' split) <;> simp [State.reply]
@[simp] theorem unpauseRequest_master (a : Byte) (s : State) : (unpauseRequest a s).1.master = s.master := by
  refine withStream_keeps (fun s => s.master) _ _ _ ?_
  intro i r
  (try dsimp only)
  (repeat' split) <;> simp [State.reply]
@[simp] theorem unpauseRequest_time (a : Byte) (s : State) : (unpauseRequest a s).1.time = s.time := by
  refine withStream_keeps (fun s => s.time) _ _ _ ?_
  intro i r
  (try dsimp only)
  (repeat' split) <;> simp [State.reply]
@[simp] theorem unpauseRequest_capture (a : Byte) (s : State) : (unpauseRequest a s).1.capture = s.capture := by
  refine withStream_keeps (fun s => s.capture) _ _ _ ?_
  intro i r
  (try dsimp only)
  (repeat' split) <;> simp [State.reply]
@[simp] theorem unpauseRequest_marks (a : Byte) (s : State) : (unpauseRequest a s).1.marks = s.marks := by
  refine withStream_keeps (fun s => s.marks) _ _ _ ?_
  intro i r
  (try dsimp only)
  (repeat' split) <;> simp [State.reply]
@[simp] theorem unpauseRequest_inReset (a : Byte) (s : State) : (unpauseRequest a s).1.inReset = s.inReset := by
  refine withStream_keeps (fun s => s.inReset) _ _ _ ?_
  intro i r
  (try dsimp only)
  (repeat' split) <;> simp [State.reply]
@[simp] theorem unpauseRequest_pending (a : Byte) (s : State) : (unpauseRequest a s).1.pending = s.pending := by
  refine withStream_keeps (fun s => s.pending) _ _ _ ?_
  intro i r
  (try dsimp only)
  (repeat' split) <;> simp [State.reply]

@[simp] theorem resumeRequest_port (a : Byte) (s : State) : (resumeRequest a s).1.port = s.port := by
  refine withStream_keeps (fun s => s.port) _ _ _ ?_
  intro i r
  (try dsimp only)
  (repeat' split) <;> simp [State.reply]
@[simp] theorem resumeRequest_memory (a : Byte) (s : State) : (resumeRequest a s).1.memory = s.memory := by
  refine withStream_keeps (fun s => s.memory) _ _ _ ?_
  intro i r
  (try dsimp only)
  (repeat' split) <;> simp [State.reply]
@[simp] theorem resumeRequest_plan (a : Byte) (s : State) : (resumeRequest a s).1.plan = s.plan := by
  refine withStream_keeps (fun s => s.plan) _ _ _ ?_
  intro i r
  (try dsimp only)
  (repeat' split) <;> simp [State.reply]
@[simp] theorem resumeRequest_engine (a : Byte) (s : State) : (resumeRequest a s).1.engine = s.engine := by
  refine withStream_keeps (fun s => s.engine) _ _ _ ?_
  intro i r
  (try dsimp only)
  (repeat' split) <;> simp [State.reply]
@[simp] theorem resumeRequest_master (a : Byte) (s : State) : (resumeRequest a s).1.master = s.master := by
  refine withStream_keeps (fun s => s.master) _ _ _ ?_
  intro i r
  (try dsimp only)
  (repeat' split) <;> simp [State.reply]
@[simp] theorem resumeRequest_time (a : Byte) (s : State) : (resumeRequest a s).1.time = s.time := by
  refine withStream_keeps (fun s => s.time) _ _ _ ?_
  intro i r
  (try dsimp only)
  (repeat' split) <;> simp [State.reply]
@[simp] theorem resumeRequest_capture (a : Byte) (s : State) : (resumeRequest a s).1.capture = s.capture := by
  refine withStream_keeps (fun s => s.capture) _ _ _ ?_
  intro i r
  (try dsimp only)
  (repeat' split) <;> simp [State.reply]
@[simp] theorem resumeRequest_marks (a : Byte) (s : State) : (resumeRequest a s).1.marks = s.marks := by
  refine withStream_keeps (fun s => s.marks) _ _ _ ?_
  intro i r
  (try dsimp only)
  (repeat' split) <;> simp [State.reply]
@[simp] theorem resumeRequest_inReset (a : Byte) (s : State) : (resumeRequest a s).1.inReset = s.inReset := by
  refine withStream_keeps (fun s => s.inReset) _ _ _ ?_
  intro i r
  (try dsimp only)
  (repeat' split) <;> simp [State.reply]
@[simp] theorem resumeRequest_pending (a : Byte) (s : State) : (resumeRequest a s).1.pending = s.pending := by
  refine withStream_keeps (fun s => s.pending) _ _ _ ?_
  intro i r
  (try dsimp only)
  (repeat' split) <;> simp [State.reply]

@[simp] theorem resetStreamRequest_port (a : Byte) (s : State) : (resetStreamRequest a s).1.port = s.port := by
  refine withStream_keeps (fun s => s.port) _ _ _ ?_
  intro i r
  (try dsimp only)
  (repeat' split) <;> simp [State.reply]
@[simp] theorem resetStreamRequest_reports (a : Byte) (s : State) : (resetStreamRequest a s).1.reports = s.reports := by
  refine withStream_keeps (fun s => s.reports) _ _ _ ?_
  intro i r
  (try dsimp only)
  (repeat' split) <;> simp [State.reply]
@[simp] theorem resetStreamRequest_engine (a : Byte) (s : State) : (resetStreamRequest a s).1.engine = s.engine := by
  refine withStream_keeps (fun s => s.engine) _ _ _ ?_
  intro i r
  (try dsimp only)
  (repeat' split) <;> simp [State.reply]
@[simp] theorem resetStreamRequest_master (a : Byte) (s : State) : (resetStreamRequest a s).1.master = s.master := by
  refine withStream_keeps (fun s => s.master) _ _ _ ?_
  intro i r
  (try dsimp only)
  (repeat' split) <;> simp [State.reply]
@[simp] theorem resetStreamRequest_time (a : Byte) (s : State) : (resetStreamRequest a s).1.time = s.time := by
  refine withStream_keeps (fun s => s.time) _ _ _ ?_
  intro i r
  (try dsimp only)
  (repeat' split) <;> simp [State.reply]
@[simp] theorem resetStreamRequest_capture (a : Byte) (s : State) : (resetStreamRequest a s).1.capture = s.capture := by
  refine withStream_keeps (fun s => s.capture) _ _ _ ?_
  intro i r
  (try dsimp only)
  (repeat' split) <;> simp [State.reply]
@[simp] theorem resetStreamRequest_marks (a : Byte) (s : State) : (resetStreamRequest a s).1.marks = s.marks := by
  refine withStream_keeps (fun s => s.marks) _ _ _ ?_
  intro i r
  (try dsimp only)
  (repeat' split) <;> simp [State.reply]
@[simp] theorem resetStreamRequest_inReset (a : Byte) (s : State) : (resetStreamRequest a s).1.inReset = s.inReset := by
  refine withStream_keeps (fun s => s.inReset) _ _ _ ?_
  intro i r
  (try dsimp only)
  (repeat' split) <;> simp [State.reply]
@[simp] theorem resetStreamRequest_pending (a : Byte) (s : State) : (resetStreamRequest a s).1.pending = s.pending := by
  refine withStream_keeps (fun s => s.pending) _ _ _ ?_
  intro i r
  (try dsimp only)
  (repeat' split) <;> simp [State.reply]

@[simp] theorem releaseRequest_port (a : Byte) (s : State) : (releaseRequest a s).1.port = s.port := by
  refine withStream_keeps (fun s => s.port) _ _ _ ?_
  intro i r
  (try dsimp only)
  (repeat' split) <;> simp [State.reply]
@[simp] theorem releaseRequest_reports (a : Byte) (s : State) : (releaseRequest a s).1.reports = s.reports := by
  refine withStream_keeps (fun s => s.reports) _ _ _ ?_
  intro i r
  (try dsimp only)
  (repeat' split) <;> simp [State.reply]
@[simp] theorem releaseRequest_engine (a : Byte) (s : State) : (releaseRequest a s).1.engine = s.engine := by
  refine withStream_keeps (fun s => s.engine) _ _ _ ?_
  intro i r
  (try dsimp only)
  (repeat' split) <;> simp [State.reply]
@[simp] theorem releaseRequest_master (a : Byte) (s : State) : (releaseRequest a s).1.master = s.master := by
  refine withStream_keeps (fun s => s.master) _ _ _ ?_
  intro i r
  (try dsimp only)
  (repeat' split) <;> simp [State.reply]
@[simp] theorem releaseRequest_time (a : Byte) (s : State) : (releaseRequest a s).1.time = s.time := by
  refine withStream_keeps (fun s => s.time) _ _ _ ?_
  intro i r
  (try dsimp only)
  (repeat' split) <;> simp [State.reply]
@[simp] theorem releaseRequest_capture (a : Byte) (s : State) : (releaseRequest a s).1.capture = s.capture := by
  refine withStream_keeps (fun s => s.capture) _ _ _ ?_
  intro i r
  (try dsimp only)
  (repeat' split) <;> simp [State.reply]
@[simp] theorem releaseRequest_marks (a : Byte) (s : State) : (releaseRequest a s).1.marks = s.marks := by
  refine withStream_keeps (fun s => s.marks) _ _ _ ?_
  intro i r
  (try dsimp only)
  (repeat' split) <;> simp [State.reply]
@[simp] theorem releaseRequest_inReset (a : Byte) (s : State) : (releaseRequest a s).1.inReset = s.inReset := by
  refine withStream_keeps (fun s => s.inReset) _ _ _ ?_
  intro i r
  (try dsimp only)
  (repeat' split) <;> simp [State.reply]
@[simp] theorem releaseRequest_pending (a : Byte) (s : State) : (releaseRequest a s).1.pending = s.pending := by
  refine withStream_keeps (fun s => s.pending) _ _ _ ?_
  intro i r
  (try dsimp only)
  (repeat' split) <;> simp [State.reply]

@[simp] theorem refillRequest_port (a : Byte) (n : BitVec 32) (s : State) : (refillRequest a n s).1.port = s.port := by
  refine withStream_keeps (fun s => s.port) _ _ _ ?_
  intro i r
  (try dsimp only)
  (repeat' split) <;> simp [State.reply]
@[simp] theorem refillRequest_reports (a : Byte) (n : BitVec 32) (s : State) : (refillRequest a n s).1.reports = s.reports := by
  refine withStream_keeps (fun s => s.reports) _ _ _ ?_
  intro i r
  (try dsimp only)
  (repeat' split) <;> simp [State.reply]
@[simp] theorem refillRequest_memory (a : Byte) (n : BitVec 32) (s : State) : (refillRequest a n s).1.memory = s.memory := by
  refine withStream_keeps (fun s => s.memory) _ _ _ ?_
  intro i r
  (try dsimp only)
  (repeat' split) <;> simp [State.reply]
@[simp] theorem refillRequest_plan (a : Byte) (n : BitVec 32) (s : State) : (refillRequest a n s).1.plan = s.plan := by
  refine withStream_keeps (fun s => s.plan) _ _ _ ?_
  intro i r
  (try dsimp only)
  (repeat' split) <;> simp [State.reply]
@[simp] theorem refillRequest_engine (a : Byte) (n : BitVec 32) (s : State) : (refillRequest a n s).1.engine = s.engine := by
  refine withStream_keeps (fun s => s.engine) _ _ _ ?_
  intro i r
  (try dsimp only)
  (repeat' split) <;> simp [State.reply]
@[simp] theorem refillRequest_master (a : Byte) (n : BitVec 32) (s : State) : (refillRequest a n s).1.master = s.master := by
  refine withStream_keeps (fun s => s.master) _ _ _ ?_
  intro i r
  (try dsimp only)
  (repeat' split) <;> simp [State.reply]
@[simp] theorem refillRequest_time (a : Byte) (n : BitVec 32) (s : State) : (refillRequest a n s).1.time = s.time := by
  refine withStream_keeps (fun s => s.time) _ _ _ ?_
  intro i r
  (try dsimp only)
  (repeat' split) <;> simp [State.reply]
@[simp] theorem refillRequest_capture (a : Byte) (n : BitVec 32) (s : State) : (refillRequest a n s).1.capture = s.capture := by
  refine withStream_keeps (fun s => s.capture) _ _ _ ?_
  intro i r
  (try dsimp only)
  (repeat' split) <;> simp [State.reply]
@[simp] theorem refillRequest_marks (a : Byte) (n : BitVec 32) (s : State) : (refillRequest a n s).1.marks = s.marks := by
  refine withStream_keeps (fun s => s.marks) _ _ _ ?_
  intro i r
  (try dsimp only)
  (repeat' split) <;> simp [State.reply]
@[simp] theorem refillRequest_inReset (a : Byte) (n : BitVec 32) (s : State) : (refillRequest a n s).1.inReset = s.inReset := by
  refine withStream_keeps (fun s => s.inReset) _ _ _ ?_
  intro i r
  (try dsimp only)
  (repeat' split) <;> simp [State.reply]
@[simp] theorem refillRequest_pending (a : Byte) (n : BitVec 32) (s : State) : (refillRequest a n s).1.pending = s.pending := by
  refine withStream_keeps (fun s => s.pending) _ _ _ ?_
  intro i r
  (try dsimp only)
  (repeat' split) <;> simp [State.reply]

@[simp] theorem putRequest_port (a : Byte) (l : List Byte) (s : State) : (putRequest a l s).1.port = s.port := by
  refine withStream_keeps (fun s => s.port) _ _ _ ?_
  intro i r
  (try dsimp only)
  (repeat' split) <;> simp [State.reply]
@[simp] theorem putRequest_reports (a : Byte) (l : List Byte) (s : State) : (putRequest a l s).1.reports = s.reports := by
  refine withStream_keeps (fun s => s.reports) _ _ _ ?_
  intro i r
  (try dsimp only)
  (repeat' split) <;> simp [State.reply]
@[simp] theorem putRequest_streams (a : Byte) (l : List Byte) (s : State) : (putRequest a l s).1.streams = s.streams := by
  refine withStream_keeps (fun s => s.streams) _ _ _ ?_
  intro i r
  (try dsimp only)
  (repeat' split) <;> simp [State.reply]
@[simp] theorem putRequest_plan (a : Byte) (l : List Byte) (s : State) : (putRequest a l s).1.plan = s.plan := by
  refine withStream_keeps (fun s => s.plan) _ _ _ ?_
  intro i r
  (try dsimp only)
  (repeat' split) <;> simp [State.reply]
@[simp] theorem putRequest_engine (a : Byte) (l : List Byte) (s : State) : (putRequest a l s).1.engine = s.engine := by
  refine withStream_keeps (fun s => s.engine) _ _ _ ?_
  intro i r
  (try dsimp only)
  (repeat' split) <;> simp [State.reply]
@[simp] theorem putRequest_master (a : Byte) (l : List Byte) (s : State) : (putRequest a l s).1.master = s.master := by
  refine withStream_keeps (fun s => s.master) _ _ _ ?_
  intro i r
  (try dsimp only)
  (repeat' split) <;> simp [State.reply]
@[simp] theorem putRequest_time (a : Byte) (l : List Byte) (s : State) : (putRequest a l s).1.time = s.time := by
  refine withStream_keeps (fun s => s.time) _ _ _ ?_
  intro i r
  (try dsimp only)
  (repeat' split) <;> simp [State.reply]
@[simp] theorem putRequest_capture (a : Byte) (l : List Byte) (s : State) : (putRequest a l s).1.capture = s.capture := by
  refine withStream_keeps (fun s => s.capture) _ _ _ ?_
  intro i r
  (try dsimp only)
  (repeat' split) <;> simp [State.reply]
@[simp] theorem putRequest_marks (a : Byte) (l : List Byte) (s : State) : (putRequest a l s).1.marks = s.marks := by
  refine withStream_keeps (fun s => s.marks) _ _ _ ?_
  intro i r
  (try dsimp only)
  (repeat' split) <;> simp [State.reply]
@[simp] theorem putRequest_inReset (a : Byte) (l : List Byte) (s : State) : (putRequest a l s).1.inReset = s.inReset := by
  refine withStream_keeps (fun s => s.inReset) _ _ _ ?_
  intro i r
  (try dsimp only)
  (repeat' split) <;> simp [State.reply]
@[simp] theorem putRequest_pending (a : Byte) (l : List Byte) (s : State) : (putRequest a l s).1.pending = s.pending := by
  refine withStream_keeps (fun s => s.pending) _ _ _ ?_
  intro i r
  (try dsimp only)
  (repeat' split) <;> simp [State.reply]

@[simp] theorem takeRequest_port (a : Byte) (s : State) : (takeRequest a s).1.port = s.port := by
  refine withStream_keeps (fun s => s.port) _ _ _ ?_
  intro i r
  (try dsimp only)
  (repeat' split) <;> simp [State.reply]
@[simp] theorem takeRequest_reports (a : Byte) (s : State) : (takeRequest a s).1.reports = s.reports := by
  refine withStream_keeps (fun s => s.reports) _ _ _ ?_
  intro i r
  (try dsimp only)
  (repeat' split) <;> simp [State.reply]
@[simp] theorem takeRequest_streams (a : Byte) (s : State) : (takeRequest a s).1.streams = s.streams := by
  refine withStream_keeps (fun s => s.streams) _ _ _ ?_
  intro i r
  (try dsimp only)
  (repeat' split) <;> simp [State.reply]
@[simp] theorem takeRequest_plan (a : Byte) (s : State) : (takeRequest a s).1.plan = s.plan := by
  refine withStream_keeps (fun s => s.plan) _ _ _ ?_
  intro i r
  (try dsimp only)
  (repeat' split) <;> simp [State.reply]
@[simp] theorem takeRequest_engine (a : Byte) (s : State) : (takeRequest a s).1.engine = s.engine := by
  refine withStream_keeps (fun s => s.engine) _ _ _ ?_
  intro i r
  (try dsimp only)
  (repeat' split) <;> simp [State.reply]
@[simp] theorem takeRequest_master (a : Byte) (s : State) : (takeRequest a s).1.master = s.master := by
  refine withStream_keeps (fun s => s.master) _ _ _ ?_
  intro i r
  (try dsimp only)
  (repeat' split) <;> simp [State.reply]
@[simp] theorem takeRequest_time (a : Byte) (s : State) : (takeRequest a s).1.time = s.time := by
  refine withStream_keeps (fun s => s.time) _ _ _ ?_
  intro i r
  (try dsimp only)
  (repeat' split) <;> simp [State.reply]
@[simp] theorem takeRequest_capture (a : Byte) (s : State) : (takeRequest a s).1.capture = s.capture := by
  refine withStream_keeps (fun s => s.capture) _ _ _ ?_
  intro i r
  (try dsimp only)
  (repeat' split) <;> simp [State.reply]
@[simp] theorem takeRequest_marks (a : Byte) (s : State) : (takeRequest a s).1.marks = s.marks := by
  refine withStream_keeps (fun s => s.marks) _ _ _ ?_
  intro i r
  (try dsimp only)
  (repeat' split) <;> simp [State.reply]
@[simp] theorem takeRequest_inReset (a : Byte) (s : State) : (takeRequest a s).1.inReset = s.inReset := by
  refine withStream_keeps (fun s => s.inReset) _ _ _ ?_
  intro i r
  (try dsimp only)
  (repeat' split) <;> simp [State.reply]
@[simp] theorem takeRequest_pending (a : Byte) (s : State) : (takeRequest a s).1.pending = s.pending := by
  refine withStream_keeps (fun s => s.pending) _ _ _ ?_
  intro i r
  (try dsimp only)
  (repeat' split) <;> simp [State.reply]

@[simp] theorem flushRequest_port (a : Byte) (s : State) : (flushRequest a s).1.port = s.port := by
  refine withStream_keeps (fun s => s.port) _ _ _ ?_
  intro i r
  (try dsimp only)
  (repeat' split) <;> simp [State.reply]
@[simp] theorem flushRequest_reports (a : Byte) (s : State) : (flushRequest a s).1.reports = s.reports := by
  refine withStream_keeps (fun s => s.reports) _ _ _ ?_
  intro i r
  (try dsimp only)
  (repeat' split) <;> simp [State.reply]
@[simp] theorem flushRequest_streams (a : Byte) (s : State) : (flushRequest a s).1.streams = s.streams := by
  refine withStream_keeps (fun s => s.streams) _ _ _ ?_
  intro i r
  (try dsimp only)
  (repeat' split) <;> simp [State.reply]
@[simp] theorem flushRequest_plan (a : Byte) (s : State) : (flushRequest a s).1.plan = s.plan := by
  refine withStream_keeps (fun s => s.plan) _ _ _ ?_
  intro i r
  (try dsimp only)
  (repeat' split) <;> simp [State.reply]
@[simp] theorem flushRequest_engine (a : Byte) (s : State) : (flushRequest a s).1.engine = s.engine := by
  refine withStream_keeps (fun s => s.engine) _ _ _ ?_
  intro i r
  (try dsimp only)
  (repeat' split) <;> simp [State.reply]
@[simp] theorem flushRequest_master (a : Byte) (s : State) : (flushRequest a s).1.master = s.master := by
  refine withStream_keeps (fun s => s.master) _ _ _ ?_
  intro i r
  (try dsimp only)
  (repeat' split) <;> simp [State.reply]
@[simp] theorem flushRequest_time (a : Byte) (s : State) : (flushRequest a s).1.time = s.time := by
  refine withStream_keeps (fun s => s.time) _ _ _ ?_
  intro i r
  (try dsimp only)
  (repeat' split) <;> simp [State.reply]
@[simp] theorem flushRequest_capture (a : Byte) (s : State) : (flushRequest a s).1.capture = s.capture := by
  refine withStream_keeps (fun s => s.capture) _ _ _ ?_
  intro i r
  (try dsimp only)
  (repeat' split) <;> simp [State.reply]
@[simp] theorem flushRequest_marks (a : Byte) (s : State) : (flushRequest a s).1.marks = s.marks := by
  refine withStream_keeps (fun s => s.marks) _ _ _ ?_
  intro i r
  (try dsimp only)
  (repeat' split) <;> simp [State.reply]
@[simp] theorem flushRequest_inReset (a : Byte) (s : State) : (flushRequest a s).1.inReset = s.inReset := by
  refine withStream_keeps (fun s => s.inReset) _ _ _ ?_
  intro i r
  (try dsimp only)
  (repeat' split) <;> simp [State.reply]
@[simp] theorem flushRequest_pending (a : Byte) (s : State) : (flushRequest a s).1.pending = s.pending := by
  refine withStream_keeps (fun s => s.pending) _ _ _ ?_
  intro i r
  (try dsimp only)
  (repeat' split) <;> simp [State.reply]

@[simp] theorem setCaptureRequest_port (a b c : Byte) (s : State) : (setCaptureRequest a b c s).1.port = s.port := by
  simp only [setCaptureRequest]
  (repeat' split) <;> simp [State.reply]
@[simp] theorem setCaptureRequest_reports (a b c : Byte) (s : State) : (setCaptureRequest a b c s).1.reports = s.reports := by
  simp only [setCaptureRequest]
  (repeat' split) <;> simp [State.reply]
@[simp] theorem setCaptureRequest_streams (a b c : Byte) (s : State) : (setCaptureRequest a b c s).1.streams = s.streams := by
  simp only [setCaptureRequest]
  (repeat' split) <;> simp [State.reply]
@[simp] theorem setCaptureRequest_memory (a b c : Byte) (s : State) : (setCaptureRequest a b c s).1.memory = s.memory := by
  simp only [setCaptureRequest]
  (repeat' split) <;> simp [State.reply]
@[simp] theorem setCaptureRequest_plan (a b c : Byte) (s : State) : (setCaptureRequest a b c s).1.plan = s.plan := by
  simp only [setCaptureRequest]
  (repeat' split) <;> simp [State.reply]
@[simp] theorem setCaptureRequest_engine (a b c : Byte) (s : State) : (setCaptureRequest a b c s).1.engine = s.engine := by
  simp only [setCaptureRequest]
  (repeat' split) <;> simp [State.reply]
@[simp] theorem setCaptureRequest_master (a b c : Byte) (s : State) : (setCaptureRequest a b c s).1.master = s.master := by
  simp only [setCaptureRequest]
  (repeat' split) <;> simp [State.reply]
@[simp] theorem setCaptureRequest_time (a b c : Byte) (s : State) : (setCaptureRequest a b c s).1.time = s.time := by
  simp only [setCaptureRequest]
  (repeat' split) <;> simp [State.reply]
@[simp] theorem setCaptureRequest_marks (a b c : Byte) (s : State) : (setCaptureRequest a b c s).1.marks = s.marks := by
  simp only [setCaptureRequest]
  (repeat' split) <;> simp [State.reply]
@[simp] theorem setCaptureRequest_inReset (a b c : Byte) (s : State) : (setCaptureRequest a b c s).1.inReset = s.inReset := by
  simp only [setCaptureRequest]
  (repeat' split) <;> simp [State.reply]
@[simp] theorem setCaptureRequest_pending (a b c : Byte) (s : State) : (setCaptureRequest a b c s).1.pending = s.pending := by
  simp only [setCaptureRequest]
  (repeat' split) <;> simp [State.reply]

@[simp] theorem takeCapturesRequest_port (a : Byte) (s : State) : (takeCapturesRequest a s).1.port = s.port := by
  simp only [takeCapturesRequest]
  (repeat' split) <;> simp [State.reply]
@[simp] theorem takeCapturesRequest_reports (a : Byte) (s : State) : (takeCapturesRequest a s).1.reports = s.reports := by
  simp only [takeCapturesRequest]
  (repeat' split) <;> simp [State.reply]
@[simp] theorem takeCapturesRequest_streams (a : Byte) (s : State) : (takeCapturesRequest a s).1.streams = s.streams := by
  simp only [takeCapturesRequest]
  (repeat' split) <;> simp [State.reply]
@[simp] theorem takeCapturesRequest_memory (a : Byte) (s : State) : (takeCapturesRequest a s).1.memory = s.memory := by
  simp only [takeCapturesRequest]
  (repeat' split) <;> simp [State.reply]
@[simp] theorem takeCapturesRequest_plan (a : Byte) (s : State) : (takeCapturesRequest a s).1.plan = s.plan := by
  simp only [takeCapturesRequest]
  (repeat' split) <;> simp [State.reply]
@[simp] theorem takeCapturesRequest_engine (a : Byte) (s : State) : (takeCapturesRequest a s).1.engine = s.engine := by
  simp only [takeCapturesRequest]
  (repeat' split) <;> simp [State.reply]
@[simp] theorem takeCapturesRequest_master (a : Byte) (s : State) : (takeCapturesRequest a s).1.master = s.master := by
  simp only [takeCapturesRequest]
  (repeat' split) <;> simp [State.reply]
@[simp] theorem takeCapturesRequest_time (a : Byte) (s : State) : (takeCapturesRequest a s).1.time = s.time := by
  simp only [takeCapturesRequest]
  (repeat' split) <;> simp [State.reply]
@[simp] theorem takeCapturesRequest_marks (a : Byte) (s : State) : (takeCapturesRequest a s).1.marks = s.marks := by
  simp only [takeCapturesRequest]
  (repeat' split) <;> simp [State.reply]
@[simp] theorem takeCapturesRequest_inReset (a : Byte) (s : State) : (takeCapturesRequest a s).1.inReset = s.inReset := by
  simp only [takeCapturesRequest]
  (repeat' split) <;> simp [State.reply]
@[simp] theorem takeCapturesRequest_pending (a : Byte) (s : State) : (takeCapturesRequest a s).1.pending = s.pending := by
  simp only [takeCapturesRequest]
  (repeat' split) <;> simp [State.reply]

@[simp] theorem scheduleMarkRequest_port (a : Byte) (b c : BitVec 16) (d : Byte) (e : BitVec 16) (s : State) : (scheduleMarkRequest a b c d e s).1.port = s.port := by
  simp only [scheduleMarkRequest]
  (repeat' split) <;> simp [State.reply]
@[simp] theorem scheduleMarkRequest_reports (a : Byte) (b c : BitVec 16) (d : Byte) (e : BitVec 16) (s : State) : (scheduleMarkRequest a b c d e s).1.reports = s.reports := by
  simp only [scheduleMarkRequest]
  (repeat' split) <;> simp [State.reply]
@[simp] theorem scheduleMarkRequest_streams (a : Byte) (b c : BitVec 16) (d : Byte) (e : BitVec 16) (s : State) : (scheduleMarkRequest a b c d e s).1.streams = s.streams := by
  simp only [scheduleMarkRequest]
  (repeat' split) <;> simp [State.reply]
@[simp] theorem scheduleMarkRequest_memory (a : Byte) (b c : BitVec 16) (d : Byte) (e : BitVec 16) (s : State) : (scheduleMarkRequest a b c d e s).1.memory = s.memory := by
  simp only [scheduleMarkRequest]
  (repeat' split) <;> simp [State.reply]
@[simp] theorem scheduleMarkRequest_plan (a : Byte) (b c : BitVec 16) (d : Byte) (e : BitVec 16) (s : State) : (scheduleMarkRequest a b c d e s).1.plan = s.plan := by
  simp only [scheduleMarkRequest]
  (repeat' split) <;> simp [State.reply]
@[simp] theorem scheduleMarkRequest_engine (a : Byte) (b c : BitVec 16) (d : Byte) (e : BitVec 16) (s : State) : (scheduleMarkRequest a b c d e s).1.engine = s.engine := by
  simp only [scheduleMarkRequest]
  (repeat' split) <;> simp [State.reply]
@[simp] theorem scheduleMarkRequest_master (a : Byte) (b c : BitVec 16) (d : Byte) (e : BitVec 16) (s : State) : (scheduleMarkRequest a b c d e s).1.master = s.master := by
  simp only [scheduleMarkRequest]
  (repeat' split) <;> simp [State.reply]
@[simp] theorem scheduleMarkRequest_time (a : Byte) (b c : BitVec 16) (d : Byte) (e : BitVec 16) (s : State) : (scheduleMarkRequest a b c d e s).1.time = s.time := by
  simp only [scheduleMarkRequest]
  (repeat' split) <;> simp [State.reply]
@[simp] theorem scheduleMarkRequest_capture (a : Byte) (b c : BitVec 16) (d : Byte) (e : BitVec 16) (s : State) : (scheduleMarkRequest a b c d e s).1.capture = s.capture := by
  simp only [scheduleMarkRequest]
  (repeat' split) <;> simp [State.reply]
@[simp] theorem scheduleMarkRequest_inReset (a : Byte) (b c : BitVec 16) (d : Byte) (e : BitVec 16) (s : State) : (scheduleMarkRequest a b c d e s).1.inReset = s.inReset := by
  simp only [scheduleMarkRequest]
  (repeat' split) <;> simp [State.reply]
@[simp] theorem scheduleMarkRequest_pending (a : Byte) (b c : BitVec 16) (d : Byte) (e : BitVec 16) (s : State) : (scheduleMarkRequest a b c d e s).1.pending = s.pending := by
  simp only [scheduleMarkRequest]
  (repeat' split) <;> simp [State.reply]

@[simp] theorem cancelMarksRequest_port (a : Byte) (s : State) : (cancelMarksRequest a s).1.port = s.port := by
  simp only [cancelMarksRequest]
  (repeat' split) <;> simp [State.reply]
@[simp] theorem cancelMarksRequest_reports (a : Byte) (s : State) : (cancelMarksRequest a s).1.reports = s.reports := by
  simp only [cancelMarksRequest]
  (repeat' split) <;> simp [State.reply]
@[simp] theorem cancelMarksRequest_streams (a : Byte) (s : State) : (cancelMarksRequest a s).1.streams = s.streams := by
  simp only [cancelMarksRequest]
  (repeat' split) <;> simp [State.reply]
@[simp] theorem cancelMarksRequest_memory (a : Byte) (s : State) : (cancelMarksRequest a s).1.memory = s.memory := by
  simp only [cancelMarksRequest]
  (repeat' split) <;> simp [State.reply]
@[simp] theorem cancelMarksRequest_plan (a : Byte) (s : State) : (cancelMarksRequest a s).1.plan = s.plan := by
  simp only [cancelMarksRequest]
  (repeat' split) <;> simp [State.reply]
@[simp] theorem cancelMarksRequest_engine (a : Byte) (s : State) : (cancelMarksRequest a s).1.engine = s.engine := by
  simp only [cancelMarksRequest]
  (repeat' split) <;> simp [State.reply]
@[simp] theorem cancelMarksRequest_master (a : Byte) (s : State) : (cancelMarksRequest a s).1.master = s.master := by
  simp only [cancelMarksRequest]
  (repeat' split) <;> simp [State.reply]
@[simp] theorem cancelMarksRequest_time (a : Byte) (s : State) : (cancelMarksRequest a s).1.time = s.time := by
  simp only [cancelMarksRequest]
  (repeat' split) <;> simp [State.reply]
@[simp] theorem cancelMarksRequest_capture (a : Byte) (s : State) : (cancelMarksRequest a s).1.capture = s.capture := by
  simp only [cancelMarksRequest]
  (repeat' split) <;> simp [State.reply]
@[simp] theorem cancelMarksRequest_inReset (a : Byte) (s : State) : (cancelMarksRequest a s).1.inReset = s.inReset := by
  simp only [cancelMarksRequest]
  (repeat' split) <;> simp [State.reply]
@[simp] theorem cancelMarksRequest_pending (a : Byte) (s : State) : (cancelMarksRequest a s).1.pending = s.pending := by
  simp only [cancelMarksRequest]
  (repeat' split) <;> simp [State.reply]

@[simp] theorem forceMarkRequest_port (a b : Byte) (s : State) : (forceMarkRequest a b s).1.port = s.port := by
  simp only [forceMarkRequest]
  (repeat' split) <;> simp [State.reply]
@[simp] theorem forceMarkRequest_reports (a b : Byte) (s : State) : (forceMarkRequest a b s).1.reports = s.reports := by
  simp only [forceMarkRequest]
  (repeat' split) <;> simp [State.reply]
@[simp] theorem forceMarkRequest_streams (a b : Byte) (s : State) : (forceMarkRequest a b s).1.streams = s.streams := by
  simp only [forceMarkRequest]
  (repeat' split) <;> simp [State.reply]
@[simp] theorem forceMarkRequest_memory (a b : Byte) (s : State) : (forceMarkRequest a b s).1.memory = s.memory := by
  simp only [forceMarkRequest]
  (repeat' split) <;> simp [State.reply]
@[simp] theorem forceMarkRequest_plan (a b : Byte) (s : State) : (forceMarkRequest a b s).1.plan = s.plan := by
  simp only [forceMarkRequest]
  (repeat' split) <;> simp [State.reply]
@[simp] theorem forceMarkRequest_engine (a b : Byte) (s : State) : (forceMarkRequest a b s).1.engine = s.engine := by
  simp only [forceMarkRequest]
  (repeat' split) <;> simp [State.reply]
@[simp] theorem forceMarkRequest_master (a b : Byte) (s : State) : (forceMarkRequest a b s).1.master = s.master := by
  simp only [forceMarkRequest]
  (repeat' split) <;> simp [State.reply]
@[simp] theorem forceMarkRequest_time (a b : Byte) (s : State) : (forceMarkRequest a b s).1.time = s.time := by
  simp only [forceMarkRequest]
  (repeat' split) <;> simp [State.reply]
@[simp] theorem forceMarkRequest_capture (a b : Byte) (s : State) : (forceMarkRequest a b s).1.capture = s.capture := by
  simp only [forceMarkRequest]
  (repeat' split) <;> simp [State.reply]
@[simp] theorem forceMarkRequest_inReset (a b : Byte) (s : State) : (forceMarkRequest a b s).1.inReset = s.inReset := by
  simp only [forceMarkRequest]
  (repeat' split) <;> simp [State.reply]
@[simp] theorem forceMarkRequest_pending (a b : Byte) (s : State) : (forceMarkRequest a b s).1.pending = s.pending := by
  simp only [forceMarkRequest]
  (repeat' split) <;> simp [State.reply]

end Sys2Proof.Machine
end

