-- ==== Sys2Proof/Laws/Entered.lean ====
section
/-! SUPPORT. What the port does with a request that enters the window: one lemma for each way its block can answer. -/

namespace Sys2Proof.Machine

open Sys2Proof.Safety

/-- A request that passes the admission tests is executed by its block and joins the window. -/
theorem request_entered {k : ReqKind} {retry : Bool} {tag : Byte} {s : State} (h : Entered k retry tag s)
    (effect : State → Executed) : request k retry tag effect s = State.enterWindow k.code tag (effect s) := by
  obtain ⟨_, h2, h3, h4⟩ := h
  simp [request, h2, h3, h4]

/-- A command of a request that enters the window, whose block answers at once. -/
theorem whenRunning_replied {k : ReqKind} {retry : Bool} {tag : Byte} {s t : State} {body : Body}
    {effect : State → Executed} (h : Entered k retry tag s) (he : effect s = (t, some body))
    (hp : t.port.restarting = false) :
    whenRunning (request k retry tag effect) s = .next (replied k tag body t) := by
  simp [whenRunning, h.1, request_entered h, he, State.enterWindow, replied, Port.replyFor, hp]

/-- A command of a request that enters the window, whose reply is deferred. -/
theorem whenRunning_waiting {k : ReqKind} {retry : Bool} {tag : Byte} {s t : State} {effect : State → Executed}
    (h : Entered k retry tag s) (he : effect s = (t, none)) :
    whenRunning (request k retry tag effect) s = .next (waiting k tag t) := by
  simp [whenRunning, h.1, request_entered h, he, State.enterWindow, waiting]

/-- The stream request on a stream that is not FREE goes to its own checks. -/
theorem withStream_some {sid : Byte} {i : Sid} {r : StreamRecord} {s : State} (hi : sid.toNat = i.val)
    (hr : s.stream i = some r) (k : Sid → StreamRecord → State → Executed) : withStream sid k s = k i r s := by
  have h : sidOf sid = some i := by simp [sidOf, hi, i.isLt]
  simp [withStream, h, hr]

/-- The stream request on a FREE stream. -/
theorem withStream_none {sid : Byte} {i : Sid} {s : State} (hi : sid.toNat = i.val) (hr : s.stream i = none)
    (k : Sid → StreamRecord → State → Executed) : withStream sid k s = s.reply noStream := by
  have h : sidOf sid = some i := by simp [sidOf, hi, i.isLt]
  simp [withStream, h, hr]

/-- A stream id above 15. -/
theorem withStream_bad {sid : Byte} {s : State} (hi : 15 < sid.toNat)
    (k : Sid → StreamRecord → State → Executed) : withStream sid k s = s.reply (badForm 1) := by
  have h : ¬ sid.toNat < 16 := by omega
  simp [withStream, sidOf, h]

end Sys2Proof.Machine
end

