-- ==== Sys2Proof/Laws/Starts.lean ====
section
/-! SUPPORT. What one event that starts streams does to the records and to the report queue, whole: the spec lemmas of
State.trigger and State.triggerAll (R7, R8, R132). -/

namespace Sys2Proof.Machine

open Sys2Proof.Safety

/-- The record of a stream that takes its trigger. -/
theorem State.trigger_stream_self {i : Sid} {r : StreamRecord} {s : State} (h : s.stream i = some r) :
    (s.trigger i).stream i = some { r with state := .running, trigger := none } := by
  have e : ∀ (t : State) (x : StreamRecord), (t.offerRefill i x).stream i = t.stream i := fun t x => by
    simp only [State.stream, State.offerRefill_streams]
  have f : ∀ (t : State) (x : Report), (t.offer x).stream i = t.stream i := fun _ _ => rfl
  simp only [State.trigger, h, e, f, State.setStream_stream_self]

/-- A trigger leaves every other stream as it is. -/
theorem State.trigger_stream_ne {i j : Sid} (h : i ≠ j) (s : State) : (s.trigger i).stream j = s.stream j := by
  have e : ∀ (t : State) (x : StreamRecord), (t.offerRefill i x).stream j = t.stream j := fun t x => by
    simp only [State.stream, State.offerRefill_streams]
  have f : ∀ (t : State) (x : Report), (t.offer x).stream j = t.stream j := fun _ _ => rfl
  unfold State.trigger
  split
  · rfl
  · simp only [e, f, State.setStream_stream_ne h]

/-- The reports of a stream that takes its trigger. -/
theorem State.trigger_reports {i : Sid} {r : StreamRecord} {s : State} (h : s.stream i = some r) :
    (s.trigger i).reports =
      if r.defn.endMode = .refill ∧ r.residue = 0 then (s.reports.offer (.streamStarted i)).offer (.refillNeeded i)
      else s.reports.offer (.streamStarted i) := by
  simp only [State.trigger, h, State.offerRefill, StreamRecord.needsRefill, Bool.and_eq_true, beq_iff_eq]
  split <;> rfl

/-- A run of triggers over distinct ids, each met once. -/
theorem State.triggers_spec (test : StreamRecord → Bool) (ids : List Sid) (h : ids.Nodup) (s : State) :
    (∀ j, (ids.foldl (fun s i => if (s.stream i).any test then s.trigger i else s) s).stream j =
      if j ∈ ids then
        (s.stream j).map fun r => if test r then { r with state := .running, trigger := none } else r
      else s.stream j) ∧
    (ids.foldl (fun s i => if (s.stream i).any test then s.trigger i else s) s).reports =
      ids.foldl (fun q i =>
        match s.stream i with
        | some r =>
          if test r = false then q
          else if r.defn.endMode = .refill ∧ r.residue = 0 then (q.offer (.streamStarted i)).offer (.refillNeeded i)
          else q.offer (.streamStarted i)
        | none => q) s.reports := by
  induction ids generalizing s with
  | nil => simp
  | cons i l ih =>
    obtain ⟨hi, hl⟩ := List.nodup_cons.mp h
    rw [List.foldl_cons, List.foldl_cons]
    generalize ht : (if (s.stream i).any test then s.trigger i else s) = t
    have hne : ∀ j, j ≠ i → t.stream j = s.stream j := fun j hj => by
      rw [← ht]; split
      · exact State.trigger_stream_ne (Ne.symm hj) s
      · rfl
    have hself : t.stream i =
        (s.stream i).map fun r => if test r then { r with state := .running, trigger := none } else r := by
      rw [← ht]
      cases hs : s.stream i with
      | none => simp [hs]
      | some r =>
        by_cases hr : test r = true
        · simp [hr, State.trigger_stream_self hs]
        · simp [hr, hs]
    have hrep : t.reports =
        (match s.stream i with
        | some r =>
          if test r = false then s.reports
          else if r.defn.endMode = .refill ∧ r.residue = 0 then
            (s.reports.offer (.streamStarted i)).offer (.refillNeeded i)
          else s.reports.offer (.streamStarted i)
        | none => s.reports) := by
      rw [← ht]
      cases hs : s.stream i with
      | none => simp
      | some r =>
        by_cases hr : test r = true
        · simp [hr, State.trigger_reports hs]
        · simp [hr]
    obtain ⟨ih1, ih2⟩ := ih hl t
    refine ⟨fun j => ?_, ?_⟩
    · rw [ih1]
      by_cases hj : j = i
      · subst hj; simp [hi, hself]
      · simp [hj, hne j hj]
    · rw [ih2, hrep]
      refine List.foldl_ext _ _ _ fun q j hj => ?_
      rw [hne j fun e => hi (e ▸ hj)]

/-- One event starts the streams that meet the test, in ascending id: their records, and the reports that follow. -/
theorem State.triggerAll_spec (test : StreamRecord → Bool) (s : State) :
    (∀ j, (s.triggerAll test).stream j =
      (s.stream j).map fun r => if test r then { r with state := .running, trigger := none } else r) ∧
    (s.triggerAll test).reports = startReports test s s.reports := by
  have h := State.triggers_spec test allSids (by decide) s
  refine ⟨fun j => ?_, h.2⟩
  have hj : j ∈ allSids := by revert j; decide
  rw [State.triggerAll, h.1 j, if_pos hj]

end Sys2Proof.Machine
end

