-- ==== Sys2Proof/WellFormed.lean ====
section
/-! DEFINITION. When a command can reach the part at all: bodies fit a frame of the command port (9.2) and rows of the
field link have at least one character time. Every other operand range is checked by the part itself, by its rules. -/

namespace Sys2Proof

/-- Longest body of a request frame, 248 bytes (9.2). -/
def maxBody : Nat := 248

/-- A command that the host, the link or the pins can put to the part. -/
def Instr.wellFormed : Instr → Bool
  | .openSession _ _ body => decide (body.length ≤ maxBody)
  | .put _ _ _ payload => decide (payload.length + 1 ≤ maxBody)
  | .nodeAnswerReceived _ chars _ | .beaconReceived _ chars _ | .ignoredFrame _ chars _ => decide (1 ≤ chars.length)
  | .hardReset | .resetNRelease _ _ _ | .commandByteReceived _ _ | .candidateGap | .restart _ _ | .ackReports _ _ _
  | .resendReports _ _ _ | .configureLink _ _ _ _ _ _ | .linkUp _ _ | .linkDown _ _ | .handover _ _ | .linkStatus _ _
  | .define _ _ _ | .start _ _ _ _ _ _ | .stop _ _ _ | .pause _ _ _ | .unpause _ _ _ | .resume _ _ _
  | .resetStream _ _ _ | .release _ _ _ | .refill _ _ _ _ | .streamStatus _ _ _ | .take _ _ _ | .flush _ _ _
  | .poolStatus _ _ | .loadQuery _ _ _ _ | .setCapture _ _ _ _ _ | .takeCaptures _ _ _ | .scheduleMark _ _ _ _ _ _ _
  | .cancelMarks _ _ _ | .forceMark _ _ _ _ | .timeStatus _ _ | .transmitFrameEnd | .restartReset | .cycleBoundary
  | .listenEnd | .takeover | .markFires _ | .pulseEnd _ | .captureEdge _ _ _ | .beaconGrant | .cyclicPhaseStart
  | .headerSend | .headerSent | .dataFrameSend | .dataFrameSent | .replyWindowExpiry | .dataLengthRead _ _ _ _
  | .inboundDataFrameEnd _ _ _ | .takenSend | .takenSent | .transactionEnd | .stuckLine => true

end Sys2Proof
end

