-- ==== Sys2Proof/Tests/Slice0.lean ====
section
/-! SUPPORT. Checks of this work on small states: ill-formed terms, byte layouts and worked examples of the manual, and for
each obligation a state and operands that meet its hypotheses together. -/

namespace Sys2Proof.Tests

open Sys2Proof.Machine Sys2Proof.Safety

-- One theorem at a time: a thread for each would ask for more memory than the check allows.
set_option Elab.async false

/-! ## Helpers -/

/-- The next state of a command, for tests. -/
def after (c : Instr) (s : State) : State :=
  match exec c s with
  | .next t => t
  | _ => s

/-- The next states of commands in turn, for tests. -/
def afterAll (cs : List Instr) (s : State) : State := cs.foldl (fun s c => after c s) s

/-- Characters heard without a character error. -/
def heard (bytes : List Byte) : List LinkChar := bytes.map some

/-- The character times of a frame row in which every one brings a character. -/
def times (bytes : List Byte) : List (Option Byte) := bytes.map some

/-- Levels on LRXD that form no character, one character time each. -/
def levels (n : Nat) : List (Option Byte) := List.replicate n none

/-- The reset state with a session open. -/
def ready : State := State.reset.setPort { State.reset.port with sessionOpen := true }

/-- The reset state in a mastership state. -/
def inState (m : MastState) (s : State) : State := s.setMaster { s.master with state := m }

/-- A part that leads, at a stage of the plan, with a transaction or none. -/
def leadingAt (st : Stage) (tx : Option Transaction) (s : State) : State :=
  { s with
    master := { s.master with state := .leading }
    plan := { s.plan with stage := st, record := some ⟨s.time.cycle, none, [], 0, [], false, 0, [], 0⟩ }
    engine := { s.engine with transaction := tx } }

/-- A DEMAND stream of one direction: node 1, port 0, limit 64, OPEN, quota 4. -/
def demandDef (d : Direction) : StreamDef := ⟨1, 0, d, .demand, 64, none, .openEnd, false, 3, 0, false, 4⟩

/-- A CYCLIC stream of period 256, phase 255. -/
def cyclicDef : StreamDef := { demandDef .outbound with kind := .cyclic 256 255 }

/-- A stream record of a definition in a state. -/
def recordOf (d : StreamDef) (st : StreamState) : StreamRecord :=
  ⟨d, st, 0, 0, none, false, true, false, false, 0, 0, none, 0, none, false, 0, []⟩

/-- Stream `i` with a record, in an open session. -/
def withRecord (i : Sid) (r : StreamRecord) (s : State) : State := s.setStream i (some r)

/-- A transaction of stream 15 at a phase. -/
def transactionOf (d : Direction) (ph : Phase) (begun : Bool) : Transaction :=
  ⟨15, d, 1, 0, 64, 64, false, true, 0, none, [], ph, begun, 0, none⟩

/-- A leading part with an inbound transaction of stream 15 in its reply window, and its reservation. -/
def exchanging : State :=
  let s := withRecord 15 (recordOf (demandDef .inbound) .running) ready
  let s := leadingAt .demand (some (transactionOf .inbound .replyWindow false)) s
  { s with memory := { s.memory with free := 255, reservation := some ⟨15, 1⟩ } }

/-! ## Well-formed terms -/

theorem test_wellFormed_open : (Instr.openSession false 1 (List.replicate 248 0)).wellFormed = true := by decide +kernel
theorem test_illFormed_open : (Instr.openSession false 1 (List.replicate 249 0)).wellFormed = false := by decide +kernel
theorem test_wellFormed_put : (Instr.put false 1 0 (List.replicate 247 0)).wellFormed = true := by decide +kernel
theorem test_illFormed_put : (Instr.put false 1 0 (List.replicate 248 0)).wellFormed = false := by decide +kernel
theorem test_illFormed_nodeAnswer : (Instr.nodeAnswerReceived 0 [] []).wellFormed = false := by decide +kernel
theorem test_illFormed_beacon : (Instr.beaconReceived 0 [] []).wellFormed = false := by decide +kernel
theorem test_illFormed_ignored : (Instr.ignoredFrame 0 [] []).wellFormed = false := by decide +kernel
theorem test_wellFormed_ignored : (Instr.ignoredFrame 0 [none] [0]).wellFormed = true := by decide +kernel
theorem test_wordSpellsNothing : decodeTableWord 32 0xFFFFFFFF = none := rfl

/-! ## Byte layouts (chapter 9) -/

/-- The check value R149 gives for the bytes 0x31 to 0x39. -/
theorem test_crc_check_value :
    crc16 [0x31, 0x32, 0x33, 0x34, 0x35, 0x36, 0x37, 0x38, 0x39] = 0xAEE7 := by decide +kernel

/-- The header example of R191: node 12, port 3, INBOUND, bit 1, RESYNC, length 256. -/
theorem test_header_fields : headerFields 12 3 .inbound true true 256 = [0x67, 0x31, 0x00] := by decide +kernel

/-- START of stream 3 at cycle 600 with total 1000 is a frame of LEN 11. -/
theorem test_start_frame_bytes :
    (requestOf (.start false 0x10 3 2 600 1000)).map (fun q => frameInner 0 q.kind.code q.tag q.body) =
      some [0x0B, 0x00, 0x21, 0x10, 0x03, 0x02, 0x02, 0x58, 0x00, 0x00, 0x03, 0xE8] := by decide +kernel

/-- R188: the index of the first field not wholly present, or one more than the number of fields. -/
theorem test_body_lengths :
    ReqKind.start.lengthError 1 = some 2 ∧ ReqKind.start.lengthError 3 = some 3 ∧ ReqKind.start.lengthError 8 = none ∧
      ReqKind.start.lengthError 9 = some 5 ∧ ReqKind.timeStatus.lengthError 1 = some 1 ∧
      ReqKind.put.lengthError 0 = some 1 ∧ ReqKind.put.lengthError 1 = none := by decide +kernel

/-- A beacon's cycle number is 12 bits wide, and an answer's third character is the complement of the second; a character error
spoils a frame. -/
theorem test_link_frames_read :
    readBeacon (heard (beaconFrame .two 0xFFF)) = some (.two, 0xFFF) ∧
      readBeacon ((heard (beaconFrame .two 0xFFF)).set 5 none) = none ∧
      readAnswer (heard [0x1E, 0x59, 0xA6]) = some .taken ∧ readAnswer (heard [0x1E, 0x59, 0xA7]) = none ∧
      readControl 0x81 0x00 = (true, 256) := by decide +kernel

/-! ## Worked examples of the manual -/

/-- The table of R44: W = 10, p/q = 1/3 over three accepted segments. -/
theorem test_cadence_table :
    let r := recordOf { demandDef .outbound with cadence := some ⟨10, 3, 1⟩ } .running
    r.baseSize = 10 ∧ r.cadenceStep = 1 ∧ { r with cadenceAcc := 1 }.baseSize = 10 ∧ { r with cadenceAcc := 1 }.cadenceStep = 2 ∧
      { r with cadenceAcc := 2 }.baseSize = 11 ∧ { r with cadenceAcc := 2 }.cadenceStep = 0 := by decide +kernel

/-- Section 2.8: the chain of stream 6. -/
def takeExample : State :=
  let s := withRecord 6 (recordOf { demandDef .inbound with limit := 200, quota := 8 } .running) ready
  s.setChain 6
    ⟨[], 0, none, [⟨List.replicate 100 1, 17, 0⟩, ⟨List.replicate 150 2, 18, 0⟩, ⟨List.replicate 30 3, 19, 0⟩]⟩ 250

/-- Section 2.8, the first TAKE: record 2 is left at delivered offset 132, 4 blocks return. -/
theorem test_take_first :
    let t := after (.take false 1 6) takeExample
    (t.chain 6).records.map (fun r => (r.data.length, r.delivered)) = [(150, 132), (30, 0)] ∧ t.memory.free = 254 ∧
      t.port.replyQueue.map (·.frame.length) = [7 + 242] := by decide +kernel

/-- Section 2.8, the second TAKE empties the chain. -/
theorem test_take_second :
    let t := afterAll [.take false 1 6, .take false 2 6] takeExample
    (t.chain 6).records = [] ∧ t.memory.free = 256 ∧ t.port.replyQueue.map (·.frame.length) = [249, 7 + 58] := by
  decide +kernel

/-- Section 6.5: unit 2 follows at (500, 950) with three entries on MARK0 and stream 9 armed at cycle 501. -/
def followExample : State :=
  let s := withRecord 9 { recordOf cyclicDef .armed with trigger := some (.atCycle 501), holdsLoad := true } ready
  { inState .following s with
    master := { (inState .following s).master with unit := .two, lastPartner := some .one }
    time := ⟨500, 950, 0⟩
    marks := s.marks.set 0 ⟨.low, .low, none, [⟨⟨500, 980⟩, .high, 0⟩, ⟨⟨501, 3⟩, .low, 200⟩, ⟨⟨501, 500⟩, .low, 0⟩]⟩ }

/-- Section 6.5: the forward realignment to (501, 6). -/
theorem test_realigned_forward :
    let t := after (.beaconReceived 0 (times (beaconFrame .one 501)) []) followExample
    t.time.point = ⟨501, 6⟩ ∧ t.marks[0] = ⟨.high, .low, some ⟨501, 206⟩, [⟨⟨501, 500⟩, .low, 0⟩]⟩ ∧
      (t.stream 9).map (·.state) = some .running ∧ t.master.silenceCount = 0 ∧ t.plan.stage = .standby := by
  decide +kernel

/-- Section 6.5: the pulse ends at (501, 206) and MARK0 returns to HIGH. -/
theorem test_pulse_ends :
    let t := afterAll [.beaconReceived 0 (times (beaconFrame .one 501)) [], .pulseEnd 0] followExample
    t.time.point = ⟨501, 206⟩ ∧ t.marks[0] = ⟨.high, .high, none, [⟨⟨501, 500⟩, .low, 0⟩]⟩ := by decide +kernel

/-- Section 6.6: line 2 is set to BOTH with hold-off 20, the queue holds 31 records of line 0, stream 3 waits on CAP2. -/
def captureExample : State :=
  let s := withRecord 3 { recordOf cyclicDef .armed with trigger := some (.onCapture 2), holdsLoad := true } ready
  { s with capture := ⟨s.capture.lines.set 2 ⟨.both, 20, none, false⟩, List.replicate 31 ⟨0, true, 0, 0, false⟩, none⟩ }

/-- Section 6.6: the 32nd record is queued and stream 3 starts; the edges at 8 and 12 µs do not qualify. -/
theorem test_capture_queued :
    let t := afterAll [.captureEdge 0 4 4, .captureEdge 8 4 0, .captureEdge 4 4 4] captureExample
    t.capture.queue.length = 32 ∧ (t.stream 3).map (·.state) = some .running ∧
      t.capture.lines[2] = ⟨.both, 20, some 0, false⟩ := by decide +kernel

/-- Section 6.6: the edge at 30 µs is dropped, and the next one taken tells it. -/
theorem test_capture_lost :
    let t := afterAll [.captureEdge 0 4 4, .captureEdge 30 4 0, .takeCaptures false 1 32, .captureEdge 40 4 4]
      captureExample
    t.capture.queue = [⟨2, true, 0, 70, true⟩] ∧ t.capture.lines[2] = ⟨.both, 20, some 70, false⟩ := by decide +kernel

/-- Section 7.11: a stray SOF, then a LINK_STATUS frame; the gap makes the receiver examine the bytes again, and it is found. -/
theorem test_frame_found_again :
    let bytes := 0xC3 :: frame 0x00 0x14 0x21 []
    let s := bytes.foldl (fun s b => after (.commandByteReceived 20 b) s) ready
    let t := after .candidateGap s
    s.port.candidate.length = 8 ∧ s.port.replyQueue = [] ∧ t.port.candidate = [] ∧
      t.port.replyQueue.map (·.tag) = [0x21] ∧ t.reports.entries.map (·.report) = [.hello .power, .portError .gap] := by
  decide +kernel

/-- Section 4.4.1: an outbound segment of 32 bytes is sent, and TAKEN ends the transaction with the bytes gone. -/
theorem test_outbound_exchange :
    let r := recordOf { demandDef .outbound with limit := 32 } .running
    let tx := { transactionOf .outbound .header false with size := 32 }
    let s := leadingAt .demand (some tx) (withRecord 15 r ready)
    let s := s.setChain 15 ⟨List.replicate 96 7, 0, some 32, []⟩ 254
    let t := afterAll [.headerSend, .headerSent, .dataFrameSend, .dataFrameSent, .nodeAnswerReceived 2 (times [0x1E, 0x59, 0xA6]) [],
      .transactionEnd] s
    t.time.clock = 54 ∧ (t.chain 15).bytes.length = 64 ∧
      (t.stream 15).map (fun r => (r.seqBit, r.accepted, r.resyncPending)) = some (true, 1, false) := by decide +kernel

/-- Section 4.12.2: a segment of 50 bytes is received, answered and stored, with DATA_READY queued. -/
theorem test_inbound_exchange :
    let t := afterAll [.nodeAnswerReceived 2 (times (dataFrame false (List.replicate 50 9))) [], .takenSend, .takenSent,
      .transactionEnd] exchanging
    (t.chain 15).records = [⟨List.replicate 50 9, 0, 0⟩] ∧ t.memory.free + reservedBlocks t = 255 ∧
      t.reports.entries.map (·.report) = [.hello .power, .dataReady 15] ∧
      (t.stream 15).map (fun r => (r.seqBit, r.accepted)) = some (true, 1) := by decide +kernel

/-- R87: a length above the expected size drains and halts the stream with OVERRUN. -/
theorem test_overrun_halts :
    let t := afterAll [.dataLengthRead 2 0x00 0x41 false, .inboundDataFrameEnd 67 (List.replicate 67 0) [],
      .transactionEnd] exchanging
    (t.stream 15).map (fun r => (r.state, r.condition)) = some (.halted, some .overrun) ∧ t.memory.free = 256 := by
  decide +kernel

/-- R85: a data frame in an OUTBOUND transaction decides FORM at its end. -/
theorem test_data_frame_outbound :
    let s := leadingAt .demand (some (transactionOf .outbound .replyWindow false))
      (withRecord 15 (recordOf (demandDef .outbound) .running) ready)
    let t := afterAll [.dataLengthRead 2 0x00 0x02 false, .inboundDataFrameEnd 4 [1, 2, 3, 4] []] s
    t.engine.transaction = some { transactionOf .outbound .closing false with decided := some .form } := by
  decide +kernel

/-- R103, R122: 600 characters of activity fault a part that follows. -/
theorem test_stuck_line :
    let t := after .stuckLine (inState .following ready)
    t.master.state = .faulted ∧ t.time.clock = 600 ∧ t.master.lastCause = some .stuckLine := by decide +kernel

/-- R103: characters of an unrecognised frame hold the line as any others do, and 600 of them fault a part that listens. -/
theorem test_ignored_stuck_line :
    let t := after (.ignoredFrame 0 (times (List.replicate 700 0x55)) []) (inState .listening ready)
    t.master.state = .faulted ∧ t.master.lastCause = some .stuckLine ∧ t.time.clock = 702 := by decide +kernel

/-- R79: a well-formed beacon right behind an answer, in one row, is a frame of its own. -/
theorem test_beacon_behind_answer :
    let t := after (.ignoredFrame 0 (times ([0x1E, 0x59, 0xA6] ++ beaconFrame .two 7)) []) (inState .following ready)
    t.master.lastPartner = some .two ∧ t.time = ⟨7, 6, 9⟩ := by decide +kernel

/-- R87: a frame whose length is above the expected size is OVERRUN, whatever its payload; an error in its control characters
is CHECK (R89). -/
theorem test_overrun_with_error :
    let f := times (dataFrame false (List.replicate 65 9))
    ((after (.nodeAnswerReceived 2 f [20]) exchanging).engine.transaction.bind (·.decided)) = some .overrun ∧
      ((after (.nodeAnswerReceived 2 f [2]) exchanging).engine.transaction.bind (·.decided)) = some .check := by
  decide +kernel

/-- R127, R117: a boundary within the characters of a beacon is taken at its instant, and the takeover it brings comes before
the beacon is heard. -/
theorem test_boundary_in_beacon :
    let f := inState .following ready
    let s := { f with master := { f.master with silenceCount := 3 }, time := ⟨500, 997, 0⟩ }
    let t := after (.beaconReceived 0 (times (beaconFrame .two 501)) []) s
    t.time = ⟨501, 3, 6⟩ ∧ t.master.state = .leading ∧ t.master.lastCause = some .takeover ∧
      t.reports.entries.map (·.report) = [.hello .power, .mastership .leading .takeover none, .clash 501] := by
  decide +kernel

/-- R136: the edges of one sample are taken in ascending line number. -/
theorem test_sample_order :
    let all : CaptureLine := ⟨.both, 0, none, false⟩
    let s := { ready with capture := { ready.capture with lines := Vector.replicate 4 all } }
    let t := afterAll [.captureEdge 5 6 4, .captureEdge 0 1 5] s
    t.capture.queue.map (fun r => (r.line, r.rise, r.offset)) = [(1, false, 5), (2, true, 5), (0, true, 6)] := by
  decide +kernel

/-- R110, R128: LINK_UP listens through T = 4 cycles, counted from the boundary after it, and leads. -/
theorem test_link_up_leads :
    let t := afterAll [.linkUp false 7, .cycleBoundary, .cycleBoundary, .cycleBoundary, .cycleBoundary, .cycleBoundary] ready
    let u := after .listenEnd t
    t.master.state = .listening ∧ t.master.listenCount = some 4 ∧ u.master.state = .leading ∧ u.time.cycle = 6 ∧
      u.plan.stage = .opening ∧ u.port.replyQueue.map (·.tag) = [7] := by decide +kernel

/-- R165, R171: after reset the OPEN reply goes out, then HELLO(POWER) as report 0. -/
theorem test_open_then_hello :
    let s := afterAll [.openSession false 1 [], .transmitFrameEnd] State.reset
    let t := after .transmitFrameEnd s
    s.port.htxd.map (·.frame) = some (frame 0x40 0x01 1 [0x00, 1, 0x4B, 1, 1, 0, 1]) ∧
      t.port.htxd.map (·.frame) = some (frame 0x80 0x80 0 [1]) ∧ t.reports.nextNumber = 1 := by decide +kernel

/-- R69, 10.3.2: a START whose load does not fit is refused with the first full entry. -/
theorem test_start_no_load :
    let s := withRecord 0 (recordOf cyclicDef .idle)
      (ready.setPlan { ready.plan with loadMap := ready.plan.loadMap.set 255 (792 - 83) })
    (after (.start false 1 0 1 0 0) s).port.replyQueue.map (·.frame) =
      [frame 0x40 0x21 1 [0x24, 255, 0x02, 0xC5]] := by decide +kernel

/-! ## Hypotheses that are met together: the queue and the laws -/

theorem test_queue_hypotheses :
    let s := State.reset.setPending [.linkUp false 1, .hardReset]
    s.pending = .linkUp false 1 :: [.hardReset] ∧ step s = exec (.linkUp false 1) (State.reset.setPending [.hardReset]) ∧
      State.reset.pending = [] := ⟨rfl, rfl, rfl⟩

theorem test_empty_queue_steps :
    step State.reset = .next (State.reset.passTime 1) ∧ step exchanging = exec .transmitFrameEnd exchanging := ⟨rfl, rfl⟩

theorem test_empty_queue_due :
    let quiet := exchanging.setReports { exchanging.reports with entries := [] }
    State.reset.dueCommand = none ∧ exchanging.pending = [] ∧
      exchanging.dueCommand = some .transmitFrameEnd ∧ (quiet.passTime 4).dueCommand = some .replyWindowExpiry := by
  decide +kernel

/-- The laws hold together in a part that exchanges a segment, and it steps on. -/
theorem test_laws_hypotheses :
    (TimeLaw exchanging ∧ FollowLaw exchanging ∧ QueueLaw exchanging) ∧ PortLaw exchanging ∧ ReportLaw exchanging ∧
      LinkLaw exchanging ∧ IdleLaw exchanging ∧ MemoryLaw exchanging ∧ LoadLaw exchanging ∧
      ∃ t, step exchanging = .next t :=
  ⟨by decide +kernel, by decide +kernel, by decide +kernel, by decide +kernel, by decide +kernel, by decide +kernel,
    by decide +kernel, _, rfl⟩

/-! ## Resets -/

theorem test_hard_reset_hypotheses :
    State.reset.inReset = false ∧ (State.reset.setInReset true).inReset = true ∧
      (∀ b1 b0 u, Instr.timeStatus false 0 ≠ .resetNRelease b1 b0 u) ∧
      exec (.timeStatus false 0) (State.reset.setInReset true) = .next (State.reset.setInReset true) :=
  ⟨rfl, rfl, fun _ _ _ h => Instr.noConfusion h, rfl⟩

/-- A part whose RESTART reply is on HTXD. -/
def restarting : State := afterAll [.restart false 5, .transmitFrameEnd] ready

theorem test_restart_hypotheses :
    Entered .restart false 5 ready ∧ restarting.port.restarting = true ∧ restarting.inReset = false ∧
      restarting.port.htxd.any (·.restartReply) = true ∧
      (after .restartReset restarting).port.epoch = 1 ∧ (after .restartReset restarting).port.sessionOpen = false := by
  decide +kernel

theorem test_time_hypotheses :
    let s := inState .following ready
    let o := s.setTime { s.time with offset := 999 }
    let h := s.setHearing true
    TimeLaw s ∧ s.time.offset + 999 < s.master.cycleLength ∧ NoStuck 999 s ∧ TimeLaw o ∧
      o.time.offset + 1 = o.master.cycleLength ∧ NoStuck 1 o ∧ NoStuck 599 h ∧ ¬NoStuck 600 h := by decide +kernel

/-- A whole cycle passes on an idle line, and no stuck line comes. -/
theorem test_quiet_cycle_hypotheses :
    let s := inState .following ready
    TimeLaw s ∧ s.time.offset + 1000 = s.master.cycleLength ∧ NoStuck 1000 s ∧
      (s.passTime 1000).time = ⟨1, 0, 1000⟩ ∧ (s.passTime 1000).master.state = .following := by decide +kernel

theorem test_stuck_time_hypotheses :
    let s := inState .following ready
    let b := s.setEngine { s.engine with busy := 599, quiet := 0 }
    TimeLaw b ∧ b.master.state.supervised = true ∧ b.engine.busy + 1 = 600 * b.master.rate.charMicros ∧
      b.time.offset + 1 ≤ b.master.cycleLength ∧ 1 < b.untilIdle ∧ ¬NoStuck 1 b ∧
      (b.passTime 1).master.state = .faulted ∧ ((b.setHearing true).elapse 1).engine.busy = 600 ∧
      b.engine.drivenUntil ≤ b.time.clock ∧ (b.elapse 1).engine.busy = 600 ∧ (b.elapse 2).engine.busy = 0 := by
  decide +kernel

/-- While the part's own frame is on the line, the line is active. -/
theorem test_driven_line_hypotheses :
    let s := inState .leading ready
    let d := s.setEngine { s.engine with drivenUntil := 3, quiet := 9 }
    d.engine.hearing = false ∧ d.time.clock + 3 = d.engine.drivenUntil ∧ (d.elapse 1).engine.quiet = 0 ∧
      (d.elapse 1).engine.busy = 1 ∧ (d.elapse 4).engine.quiet = 1 ∧ (d.elapse 4).engine.busy = 4 ∧
      (d.elapse 5).engine.quiet = 2 ∧ (d.elapse 5).engine.busy = 0 := by decide +kernel

/-! ## Session, window and transmitter -/

theorem test_open_hypotheses :
    let s := ready.setPort { ready.port with history := [⟨255, 0x01, [1]⟩], window := [⟨254, 0x11, none⟩] }
    State.reset.inReset = false ∧ State.reset.port.restarting = false ∧ ready.port.tagInUse 255 = false ∧
      (∀ e ∈ ready.port.history, ¬(e.tag = 255 ∧ e.kind = 0x01)) ∧ s.port.tagInUse 254 = true ∧
      s.port.tagInUse 255 = false ∧
      s.port.history.find? (fun e => e.tag == 255 && e.kind == 0x01) = some ⟨255, 0x01, [1]⟩ ∧
      (after (.openSession true 254 []) s).port = s.port ∧
      (after (.openSession true 255 []) s).port.replyQueue = [⟨255, 0x01, [1], .port⟩] ∧
      (after (.openSession false 255 [0]) s).port.replyQueue.map (·.frame) = [frame 0x40 0x01 255 [0x20, 1]] := by
  decide +kernel

/-- A window with two READY slots around a WAITING one, and a reply queue with room for one. -/
def crowdedPort : Port :=
  { ready.port with
    window := [⟨1, 0x45, some (replyOf 0x45 1 [0])⟩, ⟨2, 0x11, none⟩, ⟨3, 0x45, some (replyOf 0x45 3 [0])⟩]
    replyQueue := List.replicate 7 (replyOf 0x45 9 [0]) }

theorem test_handed_over_hypotheses :
    let p := crowdedPort
    p.replyQueue.length ≤ 8 ∧ p.handOver.window.map (·.tag) = [2, 3] ∧
      p.handOver.replyQueue.map (·.tag) = [9, 9, 9, 9, 9, 9, 9, 1] ∧
      p.window = [⟨1, 0x45, some (replyOf 0x45 1 [0])⟩] ++ ⟨2, 0x11, none⟩ :: [⟨3, 0x45, some (replyOf 0x45 3 [0])⟩] ∧
      (∀ y ∈ [(⟨1, 0x45, some (replyOf 0x45 1 [0])⟩ : Slot)], y.tag = 2 → y.reply.isSome = true) ∧
      (∀ x ∈ p.window, x.tag = 3 → x.reply.isSome = true) ∧
      (p.makeReady 2 [0]).window.map (·.tag) = [3, 2] ∧ p.makeReady 3 [0] = p := by decide +kernel

theorem test_no_session_hypotheses :
    requestOf (.timeStatus false 3) = some ⟨.timeStatus, false, 3, []⟩ ∧ ReqKind.timeStatus ≠ .openSession ∧
      State.reset.inReset = false ∧ State.reset.port.restarting = false ∧ State.reset.port.sessionOpen = false ∧
      ((0x02 : Byte) ≠ 0x00 ∧ (0x02 : Byte) ≠ 0x01) ∧ (∀ k ∈ ReqKind.all, k.code ≠ 0x03) := by decide +kernel

/-- An open session with four WAITING slots and one stored reply. -/
def fullWindow : State :=
  ready.setPort { ready.port with
    window := [⟨1, 0x11, none⟩, ⟨2, 0x13, none⟩, ⟨3, 0x13, none⟩, ⟨4, 0x13, none⟩]
    history := [⟨9, 0x45, [1]⟩] }

theorem test_admission_hypotheses :
    fullWindow.port.sessionOpen = true ∧ fullWindow.port.tagInUse 1 = true ∧ fullWindow.port.tagInUse 9 = false ∧
      fullWindow.port.history.find? (fun e => e.tag == 9 && e.kind == ReqKind.timeStatus.code) = some ⟨9, 0x45, [1]⟩ ∧
      fullWindow.port.tagInUse 10 = false ∧ (∀ e ∈ fullWindow.port.history, ¬(e.tag = 10 ∧ e.kind = 0x45)) ∧
      4 ≤ fullWindow.port.window.length ∧ (after (.timeStatus true 1) fullWindow).port = fullWindow.port ∧
      (after (.timeStatus true 9) fullWindow).port.replyQueue = [⟨9, 0x45, [1], .port⟩] ∧
      (after (.timeStatus false 10) fullWindow).port.replyQueue =
        [⟨10, 0x45, frame 0x40 0x45 10 [0x10], .port⟩] := by decide +kernel

theorem test_transmitter_hypotheses :
    let s := after (.timeStatus false 1) ready
    s.port.htxd = none ∧ s.port.replyQueue.length = 1 ∧ s.inReset = false ∧ ready.port.htxd = none ∧
      ready.port.replyQueue = [] ∧ ready.port.sessionOpen = true ∧ ready.reports.resendMark = none ∧
      ready.reports.entries = [] ++ ⟨.hello .power, false, none⟩ :: [] ∧ ready.reports.sentCount < 8 ∧
      State.reset.port.replyQueue = [] ∧ State.reset.port.sessionOpen = false ∧
      ((after .transmitFrameEnd s).port.htxd.map (·.restartReply)) = some false ∧
      (let q := ready.setReports { ready.reports with entries := List.replicate 8 ⟨.hello .power, true, some 0⟩ }
       8 ≤ q.reports.sentCount ∧ (∀ e ∈ q.reports.entries, e.number.isSome = true) ∧ q.reports.resendMark = none) := by
  decide +kernel

/-- The end of the RESTART reply at TRANSMIT_FRAME_END is the restart. -/
theorem test_restart_frame_end :
    restarting.inReset = false ∧ restarting.port.htxd.map (·.restartReply) = some true ∧
      (after .transmitFrameEnd restarting).port.epoch = 1 ∧
      (after .transmitFrameEnd restarting).reports.entries.map (·.report) = [.hello .restart] := by decide +kernel

/-- A report queue with entry 4 sent, a REPORTS_LOST unsent, and 9 reports lost. -/
def lostQueue : ReportQueue := ⟨[⟨.captured, true, some 4⟩, ⟨.reportsLost none, false, none⟩], 5, 9, none⟩

theorem test_report_frame_hypotheses :
    let s := ready.setReports lostQueue
    let m := ready.setReports { lostQueue with resendMark := some 4 }
    s.port.htxd = none ∧ s.port.replyQueue = [] ∧ s.port.sessionOpen = true ∧ s.reports.resendMark = none ∧
      s.reports.entries = [⟨.captured, true, some 4⟩] ++ ⟨.reportsLost none, false, none⟩ :: [] ∧
      (∀ x ∈ [(⟨.captured, true, some 4⟩ : ReportEntry)], x.number.isSome = true) ∧ s.reports.sentCount < 8 ∧
      m.reports.resendMark = some 4 ∧ m.reports.entries = [] ++ ⟨.captured, true, some 4⟩ :: [⟨.reportsLost none, false, none⟩] ∧
      (after .transmitFrameEnd s).port.htxd.map (·.frame) = some (frame 0x80 0x8E 5 [9]) ∧
      (after .transmitFrameEnd m).port.htxd.map (·.frame) = some (frame 0x80 0x89 4 []) := by decide +kernel

/-! ## Receiver -/

theorem test_frame_hypotheses :
    ∃ bytes : List RxByte, (List.replicate 248 (0xC3 : Byte)).length ≤ 248 ∧ ready.port.candidate = [] ∧
      bytes.map (·.byte) = frame 0x00 0x31 7 (List.replicate 248 0xC3) :=
  ⟨(frame 0x00 0x31 7 (List.replicate 248 0xC3)).map fun b => ⟨b, 0⟩, List.length_replicate.le, rfl,
    by rw [List.map_map]; exact List.map_id _⟩

/-- A body of SOF bytes does not cut its frame short (R151). -/
theorem test_frame_with_sof_in_body :
    let bytes : List RxByte := (frame 0x00 0x31 7 [0xC3, 0xC3]).map fun b => ⟨b, 0⟩
    (bytes.foldl (fun s b => s.examine b) ready).port = (disposeFrame 0x00 0x31 7 [0xC3, 0xC3] ready).port := by decide +kernel

theorem test_row_hypotheses :
    requestOf (.start true 255 15 3 3 0xFFFFFFFF) =
        some ⟨.start, true, 255, [15, 3, 0, 3, 255, 255, 255, 255]⟩ ∧ State.reset.inReset = false := by decide +kernel

theorem test_receiver_hypotheses :
    let s := after (.commandByteReceived 0 0xC3) ready
    let c (bytes : List Byte) := ready.setPort { ready.port with candidate := bytes.map fun b => ⟨b, 0⟩ }
    let p := (c [0xC3, 3, 0, 0]).setPort { (c [0xC3, 3, 0, 0]).port with pendingBytes := [⟨0xC3, 0⟩] }
    ready.inReset = false ∧ s.port.candidate = [] ++ [⟨0xC3, 0⟩] ∧ ready.port.candidate = [] ∧
      (c [0xC3]).port.candidate = [⟨0xC3, 0⟩] ∧ (3 : Byte).toNat = 3 ∧ (251 : Byte).toNat = 251 ∧
      (c [0xC3, 3, 0, 0, 0, 1]).port.candidate = ⟨0xC3, 0⟩ :: ⟨3, 0⟩ :: [⟨0, 0⟩, ⟨0, 0⟩, ⟨0, 0⟩, ⟨1, 0⟩] ∧
      4 + 3 = (3 : Byte).toNat + 4 ∧ [(1 : Byte), 2] ≠ u16 (crc16 [3, 0, 0, 0]).toNat ∧
      p.port.pendingBytes = ⟨0xC3, 0⟩ :: [] ∧ ready.port.pendingBytes = [] ∧
      (let late := (c [0xC3, 3]).setTime { ready.time with clock := 1281 }
       late.port.candidate = [⟨0xC3, 0⟩] ++ [⟨3, 0⟩] ∧ 0 + Baud.charsMicros 64 late.port.baud < late.time.clock ∧
        late.settleReceiver.port.candidate = []) ∧
      (after (.commandByteReceived 0 2) s).reports.entries.map (·.report) = [.hello .power, .portError .length] ∧
      (after (.commandByteReceived 0 2) (c [0xC3, 3, 0, 0, 0, 1])).reports.entries.map (·.report) =
        [.hello .power, .portError .check] ∧
      (after (.commandByteReceived 0 0xC2) ready).port = ready.port := by decide +kernel

/-! ## Report queue -/

/-- A report queue with entries 254, 255 and 0 sent, and 2 reports lost. -/
def sentQueue : ReportQueue :=
  ⟨[⟨.captured, true, some 254⟩, ⟨.dataReady 0, true, some 255⟩, ⟨.starved 1, true, some 0⟩], 1, 2, some 254⟩

theorem test_ack_hypotheses :
    let s := ready.setReports sentQueue
    Entered .ackReports false 8 s ∧ Entered .resendReports false 8 s ∧
      s.reports.entries = [⟨.captured, true, some 254⟩] ++ ⟨.dataReady 0, true, some 255⟩ :: [⟨.starved 1, true, some 0⟩] ∧
      (∀ x ∈ [(⟨.captured, true, some 254⟩ : ReportEntry)], x.number.isSome = true ∧ x.number ≠ some 255) ∧
      (∀ x ∈ s.reports.entries, x.number ≠ some 253) ∧
      (after (.ackReports false 8 255) s).reports =
        ⟨[⟨.starved 1, true, some 0⟩, ⟨.reportsLost none, false, none⟩], 1, 2, some 0⟩ := by decide +kernel

theorem test_offer_hypotheses :
    let full : ReportQueue := ⟨List.replicate 47 ⟨.streamStarted 0, false, none⟩, 0, 255, none⟩
    lostQueue.entries.any (fun e => e.report.coalesceKey == some (0x89, 0)) = true ∧
      Report.coalesceKey .captured = some (0x89, 0) ∧ lostQueue.offer .captured = lostQueue ∧ full.ordinary = 47 ∧
      full.entries.any (fun e => e.report.coalesceKey.isSome) = false ∧
      (full.offer .captured).lostCount = 255 ∧ (full.offer .captured).entries.length = 48 ∧ sentQueue.ordinary < 47 ∧
      Report.isLost .captured = false ∧ Report.isOverrun .captured = false ∧
      (let q (fixed : Bool) : ReportQueue := ⟨[⟨.captured, true, some 4⟩, ⟨.cycleOverrun 9 65534, fixed, none⟩], 5, 0, none⟩
       (q false).entries = [⟨.captured, true, some 4⟩] ++ ⟨.cycleOverrun 9 65534, false, none⟩ :: [] ∧
        (∀ e ∈ [(⟨.captured, true, some 4⟩ : ReportEntry)] ++ [], e.report.isOverrun = false) ∧
        ((q false).offerOverrun 10 1 2).entries = [⟨.captured, true, some 4⟩, ⟨.cycleOverrun 9 65535, false, none⟩] ∧
        (q true).offerOverrun 10 1 2 = q true) ∧
      (∀ e ∈ full.entries, e.report.isOverrun = false) ∧ (∀ e ∈ sentQueue.entries, e.report.isOverrun = false) ∧
      (sentQueue.offerOverrun 10 1 1).entries.length = 4 := by
  decide +kernel

/-! ## Mastership -/

theorem test_configure_hypotheses :
    Entered .configureLink false 1 ready ∧ ready.master.state = .offline ∧
      (inState .faulted ready).master.state ≠ .offline ∧ LinkRate.r2_5.code = 1 ∧ 200 ≤ 800 / LinkRate.r2_5.charMicros ∧
      (after (.configureLink false 1 1 800 90 16) ready).port.replyQueue.map (·.frame) =
        [frame 0x40 0x10 1 [0x00, 0, 200, 0, 172]] ∧
      (after (.configureLink false 1 1 799 90 16) ready).port.replyQueue.map (·.frame) =
        [frame 0x40 0x10 1 [0x20, 2]] ∧
      (after (.configureLink false 1 4 799 90 16) ready).port.replyQueue.map (·.frame) =
        [frame 0x40 0x10 1 [0x20, 1]] := by decide +kernel

theorem test_configure_load_map : ∀ r : Fin 256, ready.plan.loadMap[r] = 0 := by
  intro r
  simp [ready, State.setPort, State.reset, State.afterReset, Plan.reset]

theorem test_deferred_hypotheses :
    Entered .linkUp false 1 ready ∧ ready.master.state = .offline ∧ (inState .leading ready).master.state = .leading ∧
      Entered .handover false 1 (inState .leading ready) ∧ Entered .linkUp false 1 (inState .leading ready) ∧
      Entered .handover false 1 ready ∧
      (let w := (inState .leading ready).setPort { ready.port with window := [⟨1, 0x13, none⟩, ⟨2, 0x13, none⟩] }
       let s := w.setMaster { w.master with listenRequest := some (some 9), handovers := [some 2, none, some 1] }
       s.master.listenRequest = some (some 9) ∧
        (s.settleHandovers [0]).port.replyQueue.map (·.tag) = [2, 1] ∧ (s.settleListen [0]).port = s.port ∧
        ready.master.listenRequest = none) := by decide +kernel

theorem test_link_down_hypotheses :
    Entered .linkDown false 1 ready ∧ ready.master.state = .offline ∧ Entered .linkDown false 1 exchanging ∧
      LinkLaw exchanging ∧ exchanging.master.state ≠ .offline ∧ exchanging.inFlight 15 = true ∧
      exchanging.inFlight 0 = false := by decide +kernel

/-- LINK_DOWN answers a waiting LINK_UP, or the waiting HANDOVERs in list order, before itself. -/
theorem test_link_down_replies :
    let l := (inState .listening ready).setPort { ready.port with window := [⟨1, 0x11, none⟩] }
    let l := l.setMaster { l.master with listenRequest := some (some 1), listenCount := some 2 }
    let d := (leadingAt .closed none ready).setPort { ready.port with window := [⟨1, 0x13, none⟩, ⟨2, 0x13, none⟩] }
    let d := d.setMaster { d.master with handovers := [some 2, none, some 1] }
    Entered .linkDown false 3 l ∧ LinkLaw l ∧ Entered .linkDown false 3 d ∧ LinkLaw d ∧
      (∀ i : Sid, (d.stream i).all (fun r => !r.stopPending) = true) ∧
      (after (.linkDown false 3) l).port.replyQueue.map (·.frame) =
        [frame 0x40 0x11 1 [0x02, 0x00], frame 0x40 0x12 3 [0x00]] ∧
      (after (.linkDown false 3) d).port.replyQueue.map (·.frame) =
        [frame 0x40 0x13 2 [0x02, 0x00], frame 0x40 0x13 1 [0x02, 0x00], frame 0x40 0x12 3 [0x00]] := by decide +kernel

/-- A decided transaction is applied, and an undecided one is YIELDED or dropped, when the part leaves LEADING. -/
theorem test_mastership_changed :
    let w := ready.setPort { ready.port with window := [⟨1, 0x22, none⟩] }
    let s := withRecord 3 { recordOf cyclicDef .paused with stopPending := true, stopTags := [1] } w
    let t := s.changeMastership .faulted .stuckLine
    exchanging.master.state = .leading ∧
      (exchanging.changeMastership .following .yield).stream 15 =
        some { recordOf (demandDef .inbound) .running with lastFailure := some .yielded } ∧
      ((exchanging.changeMastership .offline .linkDown).stream 15).map (·.condition) = some (some .linkLost) ∧
      (exchanging.changeMastership .offline .linkDown).memory.free = 256 ∧
      t.reports.entries.map (·.report) =
        [.hello .power, .mastership .faulted .stuckLine none, .streamEnded 3 .halted (some .linkLost) none 0 0] ∧
      t.port.replyQueue.map (·.frame) = [frame 0x40 0x22 1 [0x01, 0x07]] ∧
      (s.faulted .stuckLine).master.state = .faulted := by decide +kernel

theorem test_boundary_hypotheses :
    let f := inState .following ready
    let l := inState .listening ready
    let p := l.setMaster { l.master with listenCount := some 3 }
    let e := withRecord 0 { recordOf cyclicDef .armed with trigger := some (.atCycle 1) } (leadingAt .closed none ready)
    let n := f.setTime { f.time with offset := 999 }
    f.inReset = false ∧ n.time.offset + 1 = n.master.cycleLength ∧ NoStuck 1 n ∧ 1 ≤ f.master.cycleLength ∧
      f.time.offset + 1000 = f.master.cycleLength ∧ NoStuck 1000 f ∧ NoStuck 1000 l ∧ NoStuck 1000 e ∧
      f.master.silenceCount + 1 < f.master.silenceLimit ∧ l.master.listenCount = none ∧ 3 + 1 ≤ p.master.timeout ∧
      e.master.state = .leading ∧ (after .cycleBoundary n).time = ⟨1, 0, 1⟩ ∧
      ((after .cycleBoundary e).stream 0).map (·.state) = some .running := by decide +kernel

/-- R7: a boundary starts the streams ARMED at the new cycle in FOLLOWING and LISTENING too, with their reports. -/
theorem test_boundary_starts :
    let d := { cyclicDef with endMode := .refill }
    let r := { recordOf d .armed with trigger := some (.atCycle 1), holdsLoad := true }
    let s (m : MastState) := after .cycleBoundary (withRecord 0 r (inState m ready))
    ((s .following).stream 0).map (·.state) = some .running ∧ ((s .listening).stream 0).map (·.state) = some .running ∧
      (s .following).reports.entries.map (·.report) = [.hello .power, .streamStarted 0, .refillNeeded 0] ∧
      (s .listening).reports.entries.map (·.report) = [.hello .power, .streamStarted 0, .refillNeeded 0] := by
  decide +kernel

/-- R127, R142: at a boundary the mark lines take an entry whose offset lies beyond the cycle's end and one at offset 0 of the
new cycle, and a pulse that begins and ends on the way is over. -/
theorem test_marks_run_hypotheses :
    let old : Point := ⟨5, 1000⟩
    let new : Point := ⟨6, 0⟩
    let pre : List MarkEntry := [⟨⟨5, 1005⟩, .high, 0⟩, ⟨⟨6, 0⟩, .low, 3⟩]
    let post : List MarkEntry := [⟨⟨6, 1⟩, .high, 0⟩]
    let run (m : MarkLine) (a b : Point) := (marksRun 1000 a b (Vector.replicate 4 m))[0]
    (∀ e ∈ pre, Passed old new e.point) ∧ (∀ e ∈ post.head?, ¬Passed old new e.point) ∧
      run ⟨.low, .low, none, pre ++ post⟩ old new = ⟨.high, .low, some ⟨6, 3⟩, post⟩ ∧
      Passed old new ⟨6, 0⟩ ∧ run ⟨.low, .high, some ⟨6, 0⟩, post⟩ old new = ⟨.low, .low, none, post⟩ ∧
      Passed ⟨5, 900⟩ ⟨5, 999⟩ ⟨5, 992⟩ ∧ run ⟨.low, .low, none, [⟨⟨5, 990⟩, .high, 2⟩]⟩ ⟨5, 900⟩ ⟨5, 999⟩ = ⟨.low, .low, none, []⟩ ∧
      ¬Passed ⟨5, 900⟩ ⟨5, 999⟩ ⟨6, 2⟩ ∧
      run ⟨.low, .low, none, [⟨⟨5, 990⟩, .high, 12⟩]⟩ ⟨5, 900⟩ ⟨5, 999⟩ = ⟨.low, .high, some ⟨6, 2⟩, []⟩ := by decide +kernel

theorem test_leads_hypotheses :
    let l := inState .listening ready
    let p := (l.setMaster { l.master with listenCount := some 4 }).setTime { l.time with offset := 999 }
    let f := inState .following ready
    let q := (f.setMaster { f.master with silenceCount := 3 }).setTime { f.time with offset := 999 }
    p.master.listenCount = some p.master.timeout ∧ p.master.state = .listening ∧ q.master.state = .following ∧
      q.master.silenceCount + 1 = q.master.silenceLimit ∧ p.time.offset + 1 = p.master.cycleLength ∧ NoStuck 1 p ∧ NoStuck 1 q ∧
      (after .listenEnd p).master.state = .leading ∧ (after .takeover q).master.state = .leading := by decide +kernel

theorem test_beacon_hypotheses :
    let u (m : MastState) := (((inState m ready).passTime 5).closeWindow).passBusy 6
    let v := ((inState .following ready).passTime 5).closeWindow
    ready.inReset = false ∧ ready.engine.hearing = false ∧ v.ldrv = false ∧ 6 * v.master.rate.charMicros = 6 ∧
      UnitId.two ≠ (u .following).master.unit ∧ (u .following).master.state = .following ∧
      (u .listening).master.state = .listening ∧ (u .offline).master.state = .offline ∧
      (u .faulted).master.state = .faulted := by decide +kernel

/-- R192: the top 4 bits of a beacon's cycle characters are not tested. -/
theorem test_beacon_top_bits :
    let b : List Byte := 0xE1 :: 2 :: 0xF0 :: 7 :: u16 (crc16 [2, 0xF0, 7]).toNat
    let t := after (.beaconReceived 5 (times b) []) (inState .following ready)
    readBeacon (heardChars (linkTimes (times b) [])) = some (.two, 7) ∧ rowSpan (linkTimes (times b) []) = 6 ∧ t.master.lastPartner = some .two ∧ t.time.point = ⟨7, 6⟩ := by
  decide +kernel

/-- R115, R123: a beacon of the own id changes nothing in OFFLINE and FAULTED. -/
theorem test_own_beacon_hypotheses :
    let u (m : MastState) := (((inState m ready).passTime 5).closeWindow).passBusy 6
    let b := beaconFrame .one 9
    readBeacon (heardChars (linkTimes (times b) [])) = some (.one, 9) ∧ rowSpan (linkTimes (times b) []) = 6 ∧ (u .offline).master.state = .offline ∧
      (u .offline).master.unit = .one ∧ after (.beaconReceived 5 (times b) []) ready = u .offline ∧
      (u .faulted).master.state = .faulted ∧ after (.beaconReceived 5 (times b) []) (inState .faulted ready) = u .faulted := by
  decide +kernel

theorem test_beacon_leading_hypotheses :
    let two := exchanging.setMaster { exchanging.master with unit := .two }
    let u (s : State) := ((s.passTime 4).closeWindow).passBusy 6
    exchanging.inReset = false ∧ exchanging.engine.hearing = false ∧ ((exchanging.passTime 4).closeWindow).ldrv = false ∧
      (u exchanging).master.state = .leading ∧ (u exchanging).master.unit = .one ∧
      (u exchanging).engine.transaction = some (transactionOf .inbound .replyWindow false) ∧
      (u two).master.state = .leading ∧ (u two).master.unit = .two ∧ LinkLaw (u exchanging) ∧
      (after (.beaconReceived 4 (times (beaconFrame .two 9)) []) exchanging).engine.transaction =
        some { transactionOf .inbound .closing false with decided := some .form } ∧
      (after (.beaconReceived 4 (times (beaconFrame .one 9)) []) two).master.state = .following ∧
      (after (.beaconReceived 4 (times (beaconFrame .one 9)) []) exchanging).master.state = .faulted := by decide +kernel

theorem test_realignment_hypotheses :
    let s := followExample
    let old : Point := ⟨500, 950⟩
    let new : Point := ⟨501, 6⟩
    let sch := (s.marks[0]).schedule
    let p := s.setMarks (s.marks.set 3 ⟨.low, .high, some ⟨501, 6⟩, []⟩)
    (501 - s.time.cycle).toNat = 1 ∧ (1 ≤ 1 ∧ 1 ≤ 2048) ∧ sch = (sch.take 1 ++ [⟨⟨501, 3⟩, .low, 200⟩]) ++ sch.drop 2 ∧
      (∀ e ∈ sch.take 2, Passed old new e.point) ∧ (∀ e ∈ (sch.drop 2).head?, ¬Passed old new e.point) ∧
      Passed old new ⟨501, 6⟩ ∧ ¬Passed old new ⟨501, 7⟩ ∧ ¬Passed old new old ∧
      (p.realign 501).marks[3] = ⟨.low, .low, none, []⟩ ∧
      ¬((1 ≤ (s.time.cycle - s.time.cycle).toNat) ∨ s.time.offset < 6) ∧ (s.realign 500).marks[0] = s.marks[0] ∧
      (s.realign 500).time.point = ⟨500, 6⟩ := by decide +kernel

theorem test_stuck_hypotheses :
    exchanging.inReset = false ∧ TimeLaw exchanging ∧ LinkLaw exchanging ∧ exchanging.master.state = .leading ∧
      exchanging.time.offset + (600 * exchanging.master.rate.charMicros - exchanging.engine.busy) <
        exchanging.master.cycleLength ∧ exchanging.inFlight 0 = false := by decide +kernel

/-- R117, R119: a takeover that ends a handover hold keeps the silence limit (log entry 40). -/
theorem test_takeover_after_hold :
    let f := inState .following ready
    let h := f.setMaster { f.master with silenceCount := 7, silenceLimit := 8 }
    (after .takeover h).master.state = .leading ∧ (after .takeover h).master.silenceLimit = 8 := by decide +kernel

/-! ## Plan -/

/-- A leading part in OPENING, its beacon sent or not, an armed handover or none. -/
def openingPart (beacon : Option Nat) (armed : Bool) : State :=
  let s := leadingAt .opening none (withRecord 0 { recordOf cyclicDef .running with holdsLoad := true } ready)
  { s with
    plan := { s.plan with record := some ⟨255, beacon, [], 0, [], false, 0, [], 0⟩ }
    master := { s.master with armed := armed, handovers := if armed then [some 4] else [] } }

theorem test_beacon_grant_hypotheses :
    let s := openingPart none false
    s.plan.stage = .opening ∧ s.plan.record = some ⟨255, none, [], 0, [], false, 0, [], 0⟩ ∧ s.engine.transaction = none ∧
      s.engine.hearing = false ∧ s.master.armed = false ∧ (openingPart none true).master.armed = true ∧
      (after .beaconGrant s).engine.ltxd = beaconFrame .one 255 ∧
      (after .beaconGrant (openingPart none true)).master.state = .following ∧
      (let u := s.passTime s.untilIdle
       u.master.state = .leading ∧ u.plan.stage = .opening ∧ u.plan.record = s.plan.record ∧ u.master.armed = false) ∧
      (let u := (openingPart none true).passTime (openingPart none true).untilIdle
       u.master.state = .leading ∧ u.master.armed = true ∧ u.engine.transaction = none) ∧
      (let b := s.setEngine { s.engine with busy := 599 }
       (b.passTime b.untilIdle).master.state ≠ .leading) := by decide +kernel

theorem test_due_list_hypotheses :
    let s := openingPart (some 2) false
    s.master.state = .leading ∧ s.plan.stage = .opening ∧ s.plan.record.any (·.beaconStart.isSome) = true ∧
      (∀ i : Sid, (s.stream i).all placeRight = true) ∧ (after .cyclicPhaseStart s).plan.record.map (·.dueList) = some [0] ∧
      (let u := s.passTime (s.engine.drivenUntil + 2 * s.master.rate.charMicros - s.time.clock)
       u.master.state = .leading ∧ u.plan.stage = .opening ∧ u.plan.record = some ⟨255, some 2, [], 0, [], false, 0, [], 0⟩) ∧
      (s.considerDue 0).2 = .passed ∧
      (let d := leadingAt .cyclic none s
       let c : CycleRecord := ⟨255, some 2, [3, 0], 1, [], false, 0, [], 0⟩
       let d := d.setPlan { d.plan with record := some c }
       d.plan.stage = .cyclic ∧ d.plan.record = some c ∧ c.dueList = [3] ++ 0 :: [] ∧ c.duePlace = [(3 : Sid)].length) := by
  decide +kernel

/-- R59, R74: a record closed in OPENING counts the due RUNNING stream, one closed in CYCLIC those behind the due place. -/
theorem test_record_closed :
    let o := openingPart none false
    let c : CycleRecord := ⟨255, some 2, [3, 0], 0, [], false, 0, [], 4⟩
    let d := o.setPlan { o.plan with stage := .cyclic, record := some c }
    let skips (s : State) := s.closeRecord.reports.entries.map (·.report)
    (∀ i : Sid, (o.stream i).all placeRight = true) ∧ skips o = [.hello .power, .cycleOverrun 255 1] ∧
      (c.dueList.drop (c.duePlace + 1)).filter (fun i =>
        decide (i ∉ c.renewed) && (d.stream i).any fun r => r.state == .running) = [0] ∧
      skips d = [.hello .power, .cycleOverrun 255 5] ∧
      (d.setPlan { d.plan with stage := .demand }).closeRecord = d.setPlan { d.plan with stage := .demand } := by decide +kernel

/-- A leading part with a CYCLIC stream 0 of limit 64 that has data or none, at a position of the cycle. -/
def servingPart (bytes offset : Nat) : State :=
  let s := (openingPart (some 2) false).setTime ⟨0, offset, 0⟩
  s.setChain 0 ⟨List.replicate bytes 7, 0, none, []⟩ 256

theorem test_segment_sizes :
    let r := { recordOf { demandDef .outbound with kind := .cyclic 256 255, endMode := .refill } .running with residue := 70 }
    let c (n : Nat) : Chain := ⟨List.replicate n 7, 0, none, []⟩
    r.question (c 63) = .shortOfData ∧ r.question (c 64) = .size 64 ∧ r.question { c 64 with heldSize := some 3 } = .size 3 ∧
      { r with residue := 0 }.question (c 64) = .atRest ∧
      (recordOf (demandDef .outbound) .running).question (c 0) = .shortOfData ∧
      (recordOf (demandDef .outbound) .running).question (c 1) = .size 1 ∧
      (recordOf (demandDef .inbound) .running).question (c 0) = .size 64 := by decide +kernel

theorem test_grants_hypotheses :
    let r := { recordOf cyclicDef .running with holdsLoad := true }
    let c : CycleRecord := ⟨255, some 2, [], 0, [], false, 0, [], 0⟩
    let s := servingPart 64 908
    let late := servingPart 64 909
    let d := withRecord 5 (recordOf (demandDef .inbound) .running) (servingPart 0 0)
    s.plan.record = some c ∧ 0 ∉ c.renewed ∧ s.stream 0 = some r ∧ r.state = .running ∧
      s.time.offset / s.master.rate.charMicros + (20 + r.defn.limit) ≤ s.master.c - 8 ∧
      late.master.c - 8 < late.time.offset / late.master.rate.charMicros + (20 + r.defn.limit) ∧
      (s.considerDue 0).2 = .granted ∧ (late.considerDue 0).2 = .passed ∧
      ((servingPart 0 0).considerDue 0).1.reports.entries.map (·.report) = [.hello .power, .starved 0] ∧
      d.stream 5 = some (recordOf (demandDef .inbound) .running) ∧ 5 ∉ c.waited ∧ (d.considerDemand 5).2 = .granted ∧
      (d.considerDemand 0).2 = .passed ∧ (d.setTime ⟨0, 909, 0⟩).plan.record = some c ∧
      ((d.setTime ⟨0, 909, 0⟩).considerDemand 5).2 = .ended ∧
      (d.demandTurn.engine.transaction.map (·.stream)) = some 5 ∧ d.demandTurn.memory.reservation = some ⟨5, 1⟩ := by
  decide +kernel

/-! ## Stream table -/

/-- The fields of an accepted DEFINE of stream 15. -/
def defineFields : DefineFields := ⟨15, 30, 15, 2, 1, 256, 256, 255, 255, 64, 63, 3, 0, 15, 16, 1, 128⟩

/-- R62: the due list of the current cycle passes a stream over that is started or released in it. -/
theorem test_renewed :
    let s := withRecord 0 (recordOf cyclicDef .idle) (leadingAt .cyclic none ready)
    (after (.start false 1 0 1 0 0) s).plan.record.map (·.renewed) = some [0] ∧
      (after (.release false 1 0) s).plan.record.map (·.renewed) = some [0] := by decide +kernel

theorem test_define_hypotheses :
    Entered .define false 1 ready ∧ defineFields.sid.toNat = 15 ∧ ready.stream 15 = none ∧ DefineAccepted defineFields ∧
      ((withRecord 15 (recordOf cyclicDef .idle) ready).stream 15).isSome = true ∧
      ((after (.define false 1 defineFields) ready).stream 15).map (·.defn.retryBudget) = some 15 ∧
      15 < (16 : Byte).toNat := by decide +kernel

theorem test_define_refused :
    ¬DefineAccepted { defineFields with quota := 3 } ∧ firstRefused { defineFields with quota := 3 } = some 17 ∧
      firstRefused { defineFields with node := 31, quota := 3 } = some 2 ∧
      firstRefused { defineFields with limit := 255 } = some 9 ∧ firstRefused defineFields = none ∧
      (after (.define false 1 { defineFields with cadenceP := 64 }) ready).port.replyQueue.map (·.frame) =
        [frame 0x40 0x20 1 [0x20, 11]] := by decide +kernel

theorem test_start_hypotheses :
    let s := withRecord 15 (recordOf cyclicDef .idle) ready
    let d := withRecord 15 (recordOf cyclicDef .done) ready
    let full := s.setPlan { s.plan with loadMap := s.plan.loadMap.set 255 792 }
    Entered .start false 1 s ∧ s.stream 15 = some (recordOf cyclicDef .idle) ∧ d.stream 15 = some (recordOf cyclicDef .done) ∧
      isAhead s.time.cycle ((2048 : BitVec 16).setWidth 12) = true ∧
      (∀ x : Fin 256, x.val % 256 = 255 → s.plan.loadMap[x] + (20 + 64) ≤ s.master.b) ∧
      full.master.b < full.plan.loadMap[(255 : Fin 256)] + (20 + 64) ∧
      (let c := withRecord 15 (recordOf { demandDef .inbound with endMode := .counted } .idle) ready
       let x (k : Byte) (v : BitVec 16) (t : BitVec 32) := (after (.start false 1 15 k v t) c).port.replyQueue.map (·.frame)
       x 4 0 0 = [frame 0x40 0x21 1 [0x20, 2]] ∧ x 2 4096 0 = [frame 0x40 0x21 1 [0x20, 3]] ∧
        x 3 4 0 = [frame 0x40 0x21 1 [0x20, 3]] ∧ x 2 0 0 = [frame 0x40 0x21 1 [0x20, 4]] ∧
        x 2 0 1 = [frame 0x40 0x21 1 [0x25]] ∧ x 2 2049 1 = [frame 0x40 0x21 1 [0x25]]) ∧
      ((after (.start false 1 15 2 2048 0) s).stream 15).map (·.trigger) = some (some (.atCycle 2048)) := by decide +kernel

theorem test_stop_hypotheses :
    let s (st : StreamState) := withRecord 0 (recordOf (demandDef .outbound) st) ready
    let a := withRecord 0 { recordOf cyclicDef .armed with holdsLoad := true } ready
    let e := withRecord 0 { recordOf (demandDef .outbound) .halted with condition := some .complete } ready
    Entered .stop false 1 (s .idle) ∧ (s .idle).stream 0 = some (recordOf (demandDef .outbound) .idle) ∧
      (recordOf (demandDef .outbound) .armed).defn.isDemand = true ∧ a.stream 0 = some { recordOf cyclicDef .armed with holdsLoad := true } ∧
      (s .running).inFlight 0 = false ∧ Entered .stop false 1 exchanging ∧ exchanging.inFlight 15 = true ∧
      exchanging.stream 15 = some (recordOf (demandDef .inbound) .running) ∧
      (e.stream 0).map (·.condition) = some (some .complete) ∧
      (after (.stop false 1 15) exchanging).port.window = [⟨1, 0x22, none⟩] ∧
      (let w := ready.setPort { ready.port with window := [⟨1, 0x22, none⟩, ⟨2, 0x22, none⟩] }
       let p (st : StreamState) :=
        withRecord 0 { recordOf cyclicDef st with stopPending := true, stopTags := [1, 2], condition := some .complete } w
       (w.stream 0).all (fun r => !r.stopPending) = true ∧ ((p .done).stream 0).map (·.stopPending) = some true ∧
        ((p .done).resolveStop 0).port.replyQueue.map (·.frame) =
          [frame 0x40 0x22 1 [0x01, Condition.complete.code], frame 0x40 0x22 2 [0x01, Condition.complete.code]] ∧
        ((p .paused).resolveStop 0).port.replyQueue.map (·.frame) =
          [frame 0x40 0x22 1 [0x00], frame 0x40 0x22 2 [0x00]]) := by decide +kernel

theorem test_stream_request_hypotheses :
    let s := withRecord 15 (recordOf cyclicDef .paused) ready
    Entered .pause false 1 s ∧ Entered .unpause false 1 s ∧ Entered .resume false 1 s ∧ Entered .resetStream false 1 s ∧
      Entered .release false 1 s ∧ Entered .refill false 1 s ∧ Entered .put false 1 s ∧ Entered .take false 1 s ∧
      Entered .flush false 1 s ∧ (15 : Byte).toNat = (15 : Sid).val ∧ s.stream 15 = some (recordOf cyclicDef .paused) := by
  decide +kernel

theorem test_pause_unpause :
    let s := withRecord 15 (recordOf cyclicDef .running) ready
    ((after (.pause false 1 15) s).stream 15).map (·.state) = some .paused ∧
      ((afterAll [.pause false 1 15, .unpause false 2 15] s).stream 15).map (·.state) = some .running := by decide +kernel

theorem test_resume_reset_release :
    let s := withRecord 15 { recordOf cyclicDef .halted with condition := some .stopped, failures := 2 } ready
    ((after (.resume false 1 15) s).stream 15) = some (recordOf cyclicDef .running) ∧
      (after (.resetStream false 1 15) s).stream 15 = some (recordOf cyclicDef .idle) ∧
      (after (.release false 1 15) s).stream 15 = none := by decide +kernel

theorem test_refill_range :
    let r := { recordOf { cyclicDef with endMode := .refill } .running with total := 4294967295 - 1, residue := 7 }
    let s := withRecord 15 r ready
    ((after (.refill false 1 15 1) s).stream 15).map (fun r => (r.total, r.residue)) = some (4294967295, 8) ∧
      ((after (.refill false 1 15 2) s).stream 15) = some r := by decide +kernel

theorem test_body_check_hypotheses :
    Entered .start false 1 ready ∧ ReqKind.start ≠ .openSession ∧ ReqKind.start.fields = [1, 1] ++ 2 :: [4] ∧
      ([1, 1] : List Nat).sum ≤ 3 ∧ 3 < ([1, 1] : List Nat).sum + 2 ∧ ReqKind.start ≠ .put ∧ ReqKind.start.fields.sum < 9 ∧
      (disposeFrame 0x00 0x21 1 [0, 0, 0] ready).port.replyQueue.map (·.frame) = [frame 0x40 0x21 1 [0x20, 3]] ∧
      Entered .streamStatus false 1 ready ∧
      (after (.streamStatus false 1 16) ready).port.replyQueue.map (·.frame) = [frame 0x40 0x29 1 [0x20, 1]] := by
  decide +kernel

theorem test_stream_checks_hypotheses :
    requestOf (.stop false 1 16) = some ⟨.stop, false, 1, [16]⟩ ∧ Entered .stop false 1 ready ∧ 15 < (16 : Byte).toNat ∧
      ready.stream 15 = none ∧
      (after (.stop false 1 16) ready).port.replyQueue.map (·.frame) = [frame 0x40 0x22 1 [0x20, 1]] ∧
      (after (.stop false 1 15) ready).port.replyQueue.map (·.frame) = [frame 0x40 0x22 1 [0x22]] := by decide +kernel

/-! ## Segment memory -/

theorem test_put_bounds :
    let s := withRecord 0 (recordOf { demandDef .outbound with quota := 4 } .idle) ready
    let t := after (.put false 1 0 (List.replicate 240 1)) s
    (t.chain 0).bytes.length = 240 ∧ t.memory.free = 252 ∧
      (after (.put false 2 0 (List.replicate 17 1)) t).port.replyQueue.map (·.frame) =
        [frame 0x40 0x30 1 [0x00, 0, 240], frame 0x40 0x30 2 [0x23, 1, 0, 240]] ∧
      (after (.put false 1 0 (List.replicate 241 1)) s).port.replyQueue.map (·.frame) = [frame 0x40 0x30 1 [0x20, 2]] := by
  decide +kernel

theorem test_take_hypotheses :
    Entered .take false 1 takeExample ∧ (takeExample.stream 6).map (·.defn.direction) = some .inbound ∧
      takePieces 240 (takeExample.chain 6).records =
        ((takePieces 240 (takeExample.chain 6).records).1, (takePieces 240 (takeExample.chain 6).records).2.1, 4) := by
  decide +kernel

/-- R49: the space at its bounds, 4 and 5 bytes, with a record of 1 byte and of 2 bytes. -/
theorem test_take_bounds :
    takePieces 4 [⟨[8], 1, 0⟩] = ([], [⟨[8], 1, 0⟩], 0) ∧ takePieces 5 [⟨[8], 1, 0⟩] = ([1, 3, 0, 1, 8], [], 1) ∧
      takePieces 5 [⟨[8, 9], 1, 0⟩] = ([1, 1, 0, 1, 8], [⟨[8, 9], 1, 1⟩], 0) := by decide +kernel

theorem test_flush :
    let s := takeExample.setStream 6 (some (recordOf (demandDef .inbound) .done))
    let t := after (.flush false 1 6) s
    t.memory.free = 256 ∧ t.chain 6 = Chain.empty ∧
      t.port.replyQueue.map (·.frame) = [frame 0x40 0x32 1 [0x00, 6]] := by decide +kernel

theorem test_status_hypotheses :
    Entered .linkStatus false 1 ready ∧ Entered .poolStatus false 1 ready ∧ Entered .loadQuery false 1 ready ∧
      Entered .streamStatus false 1 ready ∧ Entered .timeStatus false 1 ready ∧ ready.stream 15 = none ∧
      (exchanging.stream 15).isSome = true ∧ Entered .streamStatus false 1 exchanging := by decide +kernel

theorem test_load_query_bounds :
    (after (.loadQuery false 1 255 64) ready).port.replyQueue.map (·.frame.length) = [7 + 5 + 128] ∧
      (after (.loadQuery false 1 255 65) ready).port.replyQueue.map (·.frame) = [frame 0x40 0x38 1 [0x20, 2]] := by
  decide +kernel

theorem test_stream_status_length :
    (after (.streamStatus false 1 15) exchanging).port.replyQueue.map (·.frame.length) = [7 + 49] ∧
      (after (.streamStatus false 1 15) ready).port.replyQueue.map (·.frame.length) = [7 + 49] := by decide +kernel

/-! ## Captures and marks -/

theorem test_set_capture_hypotheses :
    Entered .setCapture false 1 ready ∧ 3 < (4 : Byte).toNat ∧ 3 < (4 : Byte).toNat ∧ (3 : Byte).toNat = (3 : Line).val ∧
      (3 : Byte) = Edges.both.code ∧
      (after (.setCapture false 1 3 3 255) ready).capture.lines[3] = ⟨.both, 255, none, false⟩ := by decide +kernel

theorem test_take_captures_hypotheses : Entered .takeCaptures false 1 captureExample := by decide +kernel

theorem test_edge_hypotheses :
    let l := captureExample.capture.lines[2]
    l.edges.selects true = true ∧ l.lastQualifying = none ∧ (captureExample.capture.lines[0]).edges.selects true = false ∧
      captureExample.capture.queue.length < 32 ∧ ready.capture.queue = [] ∧
      32 ≤ (after (.captureEdge 0 4 4) captureExample).capture.queue.length ∧
      0 + 19 < 0 + ((after (.captureEdge 0 4 4) captureExample).capture.lines[2]).holdOff := by decide +kernel

/-- R8, R136: an edge queued first brings CAPTURED, then the reports of the streams it starts. -/
theorem test_edge_reports :
    let d := { cyclicDef with endMode := .refill }
    let s := withRecord 3 { recordOf d .armed with trigger := some (.onCapture 2), holdsLoad := true } ready
    let s := { s with capture := { s.capture with lines := s.capture.lines.set 2 ⟨.both, 0, none, false⟩ } }
    s.capture.queue = [] ∧ (s.edge 2 true).reports.entries.map (·.report) =
      [.hello .power, .captured, .streamStarted 3, .refillNeeded 3] := by decide +kernel

theorem test_schedule_hypotheses :
    Entered .scheduleMark false 1 ready ∧ 3 < (4 : Byte).toNat ∧ (3 : Byte).toNat = (3 : Line).val ∧
      (after (.scheduleMark false 1 3 4096 0 0 0) ready).port.replyQueue.map (·.frame) = [frame 0x40 0x42 1 [0x20, 2]] ∧
      (after (.scheduleMark false 1 3 1 1000 0 0) ready).port.replyQueue.map (·.frame) = [frame 0x40 0x42 1 [0x20, 3]] ∧
      (after (.scheduleMark false 1 3 1 999 2 0) ready).port.replyQueue.map (·.frame) = [frame 0x40 0x42 1 [0x20, 4]] ∧
      (after (.scheduleMark false 1 3 2049 999 1 0) ready).port.replyQueue.map (·.frame) = [frame 0x40 0x42 1 [0x25]] ∧
      (after (.scheduleMark false 1 3 2048 999 1 65535) ready).marks[3] = ⟨.low, .low, none, [⟨⟨2048, 999⟩, .high, 65535⟩]⟩ := by
  decide +kernel

theorem test_schedule_order_and_room :
    let cs : List Instr := [.scheduleMark false 1 0 3 5 1 0, .scheduleMark false 2 0 2 9 1 0, .scheduleMark false 3 0 2 8 1 0,
      .transmitFrameEnd, .transmitFrameEnd, .transmitFrameEnd, .scheduleMark false 4 0 2 8 1 0, .scheduleMark false 5 0 4 0 1 0,
      .scheduleMark false 6 0 5 0 1 0]
    let t := afterAll cs ready
    (t.marks[0]).schedule.map (·.point) = [⟨2, 8⟩, ⟨2, 9⟩, ⟨3, 5⟩, ⟨4, 0⟩] ∧
      t.port.replyQueue.map (·.frame) =
        [frame 0x40 0x42 4 [0x20, 3], frame 0x40 0x42 5 [0x00, 4], frame 0x40 0x42 6 [0x23]] := by decide +kernel

theorem test_mark_request_hypotheses :
    Entered .cancelMarks false 1 followExample ∧ Entered .forceMark false 1 followExample ∧ (1 : Byte) = Level.high.code ∧
      1 < (2 : Byte).toNat ∧ (0 : Byte).toNat = (0 : Line).val ∧
      (after (.cancelMarks false 1 0) followExample).marks[0] = ⟨.low, .low, none, []⟩ ∧
      (after (.forceMark false 1 0 1) followExample).marks[0] =
        ⟨.high, .high, none, (followExample.marks[0]).schedule⟩ := by decide +kernel

theorem test_mark_fires_hypotheses :
    let s := followExample
    let e : MarkEntry := ⟨⟨500, 980⟩, .high, 0⟩
    let p := { s with marks := s.marks.set 3 ⟨.low, .high, some ⟨500, 999⟩, []⟩ }
    (s.marks[0]).schedule = e :: (s.marks[0]).schedule.tail ∧ e.point.cycle = s.time.cycle ∧
      s.time.offset < e.point.offset ∧ e.point.offset < s.master.cycleLength ∧ 250 ≤ s.master.cycleLength ∧ e.width ≤ 65535 ∧
      (∀ x ∈ (s.marks[0]).schedule.tail, x.point.cycle ≠ s.time.cycle ∨ e.point.offset < x.point.offset) ∧
      (p.marks[3]).pulseEnd = some ⟨500, 999⟩ ∧ p.time.offset < 999 ∧ 999 < p.master.cycleLength ∧
      after (.markFires 0) s = s.passTime 30 ∧ after (.pulseEnd 3) p = p.passTime 49 ∧
      (after (.markFires 0) s).time.point = ⟨500, 980⟩ ∧ (after (.markFires 0) s).marks[0] =
        ⟨.high, .high, none, (s.marks[0]).schedule.tail⟩ ∧
      (after (.pulseEnd 3) p).marks[3] = ⟨.low, .low, none, []⟩ := by decide +kernel

/-! ## Link engine -/

/-- A leading part with a transaction of stream 15 at a phase. -/
def atPhaseOf (d : Direction) (ph : Phase) (begun : Bool) : State :=
  { exchanging with
    engine := { exchanging.engine with transaction := some (transactionOf d ph begun) }
    streams := exchanging.streams.set 15 (some (recordOf (demandDef d) .running)) }

theorem test_frames_begin_hypotheses :
    let h := atPhaseOf .inbound .header false
    let d := atPhaseOf .outbound .dataOut false
    let a := atPhaseOf .inbound .answering false
    let u (s : State) := s.passTime s.untilIdle
    let b := h.setEngine { h.engine with busy := 599 }
    h.inReset = false ∧ h.master.state = .leading ∧ h.engine.hearing = false ∧ h.untilIdle = 2 ∧
      (u h).engine.transaction = some (transactionOf .inbound .header false) ∧ (u h).master.state = .leading ∧
      (u d).engine.transaction = some (transactionOf .outbound .dataOut false) ∧
      (u a).engine.transaction = some (transactionOf .inbound .answering false) ∧ (u b).engine.transaction = none ∧
      (after .headerSend h).engine.ltxd = headerFrame 1 0 .inbound false true 64 ∧
      (after .dataFrameSend d).engine.ltxd = [0x78, 0x00, 0x00] ++ crcBytes [0x00, 0x00] ∧
      (after .takenSend a).engine.ltxd = [0x1E, 0x59, 0xA6] := by decide +kernel

theorem test_frames_sent_hypotheses :
    let h := atPhaseOf .inbound .header true
    let d := atPhaseOf .outbound .dataOut true
    let tx := { transactionOf .inbound .answering true with received := some (true, 64) }
    let a := { exchanging with engine := { exchanging.engine with transaction := some tx, drivenUntil := 3 } }
    let u (s : State) := s.passTime (s.engine.drivenUntil - s.time.clock)
    (u h).engine.transaction = some (transactionOf .inbound .header true) ∧ (u h).master.state = .leading ∧
      (u h).engine.drivenUntil = h.engine.drivenUntil ∧
      (u d).engine.transaction = some (transactionOf .outbound .dataOut true) ∧ (u a).engine.transaction = some tx ∧
      (u a).engine.drivenUntil = 3 ∧ tx.direction = .inbound ∧ tx.received = some (true, 64) ∧ tx.phase = .answering ∧
      (after .takenSent a).engine.transaction.bind (·.decided) = some .accepted := by decide +kernel

theorem test_reply_hypotheses :
    let o := atPhaseOf .outbound .replyWindow false
    let b : List Byte := [0x1E, 0x59, 0xA6]
    let row := linkTimes (times b) []
    let f := heardChars row
    let v := o.passTime 4
    let w := v.passBusy 3
    let q := o.passTime 4
    v.master.state = .leading ∧ v.engine.transaction = some (transactionOf .outbound .replyWindow false) ∧
      v.time.clock ≤ 0 + 4 * o.master.rate.charMicros ∧ v.ldrv = false ∧ f.head? ≠ some (some 0x78) ∧
      rowSpan row = row.length ∧ f = heard b ∧ readBeacon f = none ∧ frameWhole f = true ∧
      w.engine.transaction = some (transactionOf .outbound .replyWindow false) ∧ w.master.state = .leading ∧
      o.engine.hearing = false ∧ frameWhole (heard [0x1E, 0x59]) = false ∧ frameWhole [none] = false ∧
      rowSpan (linkTimes (times [0x78, 0, 1] ++ times [5, 1, 2]) [3]) = 6 ∧ 0 ∉ [3] ∧ false = decide (1 ∈ [3] ∨ 2 ∈ [3]) ∧
      linkChars [5, 1, 2] [0] = heardChars ((linkTimes (times [0x78, 0, 1] ++ times [5, 1, 2]) [3]).drop 3) ∧
      (after (.nodeAnswerReceived 4 (times [0x78, 0, 1] ++ times [5, 1, 2]) [3]) exchanging) =
        after (.inboundDataFrameEnd 3 [5, 1, 2] [0]) (after (.dataLengthRead 4 0 1 false) exchanging) ∧
      q.engine.transaction = some (transactionOf .outbound .replyWindow false) ∧
      2 * o.master.rate.charMicros ≤ q.engine.quiet ∧ q.ldrv = false ∧
      (after (.nodeAnswerReceived 4 (times b) []) o).engine.transaction.bind (·.decided) = some .accepted ∧
      (after (.nodeAnswerReceived 4 (times b) [2]) o).engine.transaction.bind (·.decided) = some .form ∧
      ((after .replyWindowExpiry o).stream 15).map (fun r => (r.failures, r.lastFailure)) = some (1, some .silent) := by
  decide +kernel

/-- The window closes while the line has not been idle for 2 characters: SILENT waits in CLOSING. -/
theorem test_expiry_busy_hypotheses :
    let s := atPhaseOf .outbound .replyWindow false
    let o := s.setEngine { s.engine with drivenUntil := 3 }
    let u := o.passTime 4
    u.engine.transaction = some (transactionOf .outbound .replyWindow false) ∧ u.master.state = .leading ∧
      u.engine.quiet < 2 * o.master.rate.charMicros ∧
      (after .replyWindowExpiry o).engine.transaction.bind (·.decided) = some .silent := by decide +kernel

theorem test_inbound_read_hypotheses :
    let tx := { transactionOf .inbound .receiving false with received := some (false, 1) }
    let s := { exchanging with engine := {
      exchanging.engine with transaction := some tx, hearing := true, control := some (0x00, 0x01) } }
    let v := exchanging.passTime 4
    let u := v.passBusy 3
    let e := (s.passBusy 3).setEngine { (s.passBusy 3).engine with hearing := false, control := none }
    let good := [0x05] ++ crcBytes [0x00, 0x01, 0x05]
    v.master.state = .leading ∧ v.engine.transaction = some (transactionOf .inbound .replyWindow false) ∧
      v.time.clock ≤ 0 + 4 * v.master.rate.charMicros ∧ v.ldrv = false ∧
      u.engine.transaction = some (transactionOf .inbound .replyWindow false) ∧ u.master.state = .leading ∧
      s.engine.hearing = true ∧ s.engine.control = some (0x00, 0x01) ∧ tx.received = some (false, 1) ∧
      e.engine.transaction = some tx ∧ e.master.state = .leading ∧ linkChars good [] = ([0x05] ++ crcBytes [0x00, 0x01, 0x05]).map some ∧
      (after (.dataLengthRead 4 0x80 0x40 false) exchanging).engine.transaction =
        some { transactionOf .inbound .receiving false with received := some (true, 64) } ∧
      (after (.dataLengthRead 4 0x00 0x41 false) exchanging).engine.transaction.bind (·.decided) = some .overrun ∧
      (after (.dataLengthRead 4 0x00 0x41 true) exchanging).engine.control = none ∧
      (after (.inboundDataFrameEnd 3 good []) s).engine.transaction =
        some { tx with phase := .answering, payload := [0x05] } ∧
      (after (.inboundDataFrameEnd 3 [0x05, 0x00, 0x00] []) s).engine.transaction.bind (·.decided) = some .check ∧
      (after (.inboundDataFrameEnd 2 [0x05, 0x00] []) s).time.clock = 4 := by decide +kernel

/-- A data frame that no transaction receives: one that drains, one outside every transaction, one cut before its control
characters in the window and elsewhere, and one whose control characters come while another is heard, while the part drives
the line, and outside a window. -/
theorem test_unheard_data_hypotheses :
    let drain := { transactionOf .inbound .drain false with decided := some .overrun }
    let s := { exchanging with engine := {
      exchanging.engine with transaction := some drain, hearing := true, control := some (0x00, 0x41) } }
    let f := { inState .following ready with engine := { ready.engine with hearing := true, control := some (0x00, 0x01) } }
    let ended (s : State) (n : Nat) := (s.closeWindow.passBusy n).setEngine
      { (s.closeWindow.passBusy n).engine with hearing := false, control := none }
    let deaf := exchanging.setEngine { exchanging.engine with drivenUntil := 9 }
    Unheard .receiving (ended s 67) ∧ (after (.inboundDataFrameEnd 67 (List.replicate 67 0) []) s).engine.transaction = some drain ∧
      Unheard .receiving (ended f 3) ∧ (after (.inboundDataFrameEnd 3 [1, 2, 3] []) f).engine.hearing = false ∧
      exchanging.engine.control = none ∧
      ((exchanging.closeWindow.passBusy 2).passTime 2).engine.transaction = some (transactionOf .inbound .replyWindow false) ∧
      (after (.inboundDataFrameEnd 2 [0x78, 1] []) exchanging).engine.transaction.bind (·.decided) = some .check ∧
      Unheard .replyWindow ((ready.closeWindow.passBusy 2).passTime 2) ∧
      (after (.inboundDataFrameEnd 2 [0x78, 1] []) ready).time.clock = 4 ∧
      after (.dataLengthRead 0 0 1 false) s = s ∧ (deaf.passTime 1).closeWindow.ldrv = true ∧
      (after (.dataLengthRead 1 0 1 false) deaf).engine.transaction = deaf.engine.transaction ∧
      Unheard .replyWindow (((ready.passTime 1).closeWindow).passBusy 3) ∧
      (after (.dataLengthRead 1 0 1 true) ready).engine.control = none := by decide +kernel

/-- A part whose transaction has its outcome. -/
def decidedPart (o : Outcome) : State :=
  { exchanging with
    engine := { exchanging.engine with
      transaction := some { transactionOf .inbound .closing false with
        decided := some o, received := some (false, 1), payload := [7] } } }

theorem test_outcome_hypotheses :
    let s := decidedPart .accepted
    let tx := { transactionOf .inbound .closing false with decided := some .accepted, received := some (false, 1), payload := [7] }
    let b := s.setEngine { s.engine with busy := 599 }
    s.stream 15 = some (recordOf (demandDef .inbound) .running) ∧ s.engine.hearing = false ∧
      (s.passTime s.untilIdle).engine.transaction = some tx ∧ (b.passTime b.untilIdle).engine.transaction = none ∧
      s.memory.reservation = some ⟨15, 1⟩ ∧ tx.received = some (false, 1) ∧ tx.payload.length = 1 ∧
      ((after .transactionEnd s).chain 15).records = [⟨[7], 0, 0⟩] ∧
      ((after .transactionEnd (decidedPart .reject)).stream 15).map (·.condition) = some (some .rejected) ∧
      ((after .transactionEnd (decidedPart .check)).stream 15).map (·.lastFailure) = some (some .check) ∧
      ((after .transactionEnd (decidedPart .wait)).chain 15).records = [] ∧
      (after .transactionEnd (decidedPart .wait)).memory.free = 256 := by decide +kernel

/-- R21, R23, R24: a COUNTED outbound stream at its mark pauses, and ends when the residue is gone. -/
theorem test_accepted_counts :
    let d := { demandDef .outbound with endMode := .counted, markCount := 2, autopause := true }
    let r (n : Nat) := { recordOf d .running with total := 200, residue := n, takenCount := 1 }
    let s (n : Nat) := (withRecord 15 (r n) exchanging).setChain 15 ⟨List.replicate 96 7, 0, some 64, []⟩ 254
    let tx := transactionOf .outbound .closing false
    (s 65).stream 15 = some (r 65) ∧ (r 65).defn.direction = tx.direction ∧
      (((s 65).applyOutcome tx .accepted).stream 15).map (fun r => (r.state, r.residue, r.takenCount)) =
        some (.paused, 1, 0) ∧
      (((s 64).applyOutcome tx .accepted).stream 15).map (fun r => (r.state, r.condition)) = some (.done, some .complete) ∧
      ((s 65).applyOutcome tx .accepted).reports.entries.map (·.report) =
        [.hello .power, .streamMark 15, .streamPaused 15] ∧
      ((s 65).applyOutcome tx .accepted).memory.free = 255 := by decide +kernel

theorem test_ignored_hypotheses :
    let b := times [0x1E, 0x59, 0xA6]
    let f := linkTimes b []
    let late := (atPhaseOf .outbound .replyWindow false).passTime 5
    let deaf := ready.setEngine { ready.engine with drivenUntil := 9 }
    readBeacon (heardChars f) = none ∧ b[1]? = some (some 0x59) ∧ f.head? ≠ some none ∧ f.getLast? ≠ some none ∧
      frameLength (heardChars f) = some 3 ∧ rowSpan (linkTimes (times [0x55, 0x66]) []) = 2 ∧ ready.engine.hearing = false ∧
      frameLength (heardChars (linkTimes (times [0x55, 0x66]) [])) = none ∧
      ready.engine.transaction = none ∧ (heardChars f).head? ≠ some (some 0x78) ∧ deaf.closeWindow.ldrv = true ∧
      late.engine.transaction = some (transactionOf .outbound .replyWindow false) ∧
      0 + 4 * late.master.rate.charMicros < late.time.clock ∧ 2 * late.master.rate.charMicros ≤ late.engine.quiet ∧
      late.ldrv = false ∧ late.closeWindow.engine.transaction = none ∧
      (after (.ignoredFrame 5 b []) ready).time.clock = 8 ∧ (after (.ignoredFrame 5 (times [0x1E]) []) ready).time.clock = 8 ∧
      (after (.ignoredFrame 5 b []) (ready.setHearing true)).time.clock = 0 := by decide +kernel

/-- R80, R98: a data frame outside a reply window, or begun while the part drives the line, and one cut to its type character. -/
theorem test_ignored_data_hypotheses :
    let f := times (dataFrame false [5])
    let deaf := exchanging.setEngine { exchanging.engine with drivenUntil := 4 }
    let a (s : State) := s.closeWindow.passBusy 3
    let u (s : State) := (a s).passBusy 3
    frameWhole (heardChars (linkTimes f [])) = true ∧ heardChars (linkTimes (f.take 3) []) = heard [0x78, 0, 1] ∧ ready.closeWindow.ldrv = false ∧ Unheard .replyWindow (a ready) ∧
      Unheard .receiving (u ready) ∧ deaf.closeWindow.ldrv = true ∧ Unheard .receiving (u deaf) ∧
      ([some 0x78] : List LinkChar).length < 3 ∧ readBeacon [some 0x78] = none ∧
      Unheard .replyWindow ((ready.closeWindow.passBusy 1).passTime 2) ∧
      (after (.ignoredFrame 0 f []) ready).time.clock = 6 ∧ (after (.ignoredFrame 0 (times [0x78]) []) ready).time.clock = 3 ∧
      (after (.ignoredFrame 0 f []) deaf).engine.transaction = deaf.engine.transaction := by decide +kernel

/-! ## Levels on LRXD that form no character (R77) -/

/-- R77, R84: through the whole reply window a level brings no character, and the window closes SILENT at its end, the idle count
at 0; a character with an error, in the same place, begins a frame, which is FORM; a level that ends in the window leaves it
open, and the answer behind it is read. -/
theorem test_level_in_window :
    let o := atPhaseOf .outbound .replyWindow false
    let t := after (.ignoredFrame 1 (levels 5) [0]) o
    t.engine.transaction = some { transactionOf .outbound .closing false with decided := some .silent } ∧
      t.engine.quiet = 0 ∧ t.time.clock = 6 ∧
      (after (.nodeAnswerReceived 1 [some 0] [0]) o).engine.transaction.bind (·.decided) = some .form ∧
      (after (.nodeAnswerReceived 1 (levels 3 ++ times [0x1E, 0x59, 0xA6]) []) o).engine.transaction.bind (·.decided) =
        some .accepted ∧
      (after (.nodeAnswerReceived 1 (levels 4 ++ times [0x1E, 0x59, 0xA6]) []) o).engine.transaction.bind (·.decided) =
        some .silent := by decide +kernel

/-- R77: a level returns the idle count to 0, so what waits for an idle line waits 2 characters from its end. -/
theorem test_level_zeroes_idle :
    let s := (leadingAt .opening none ready).passTime 3
    let t := after (.ignoredFrame 0 (levels 3) []) s
    s.engine.quiet ≠ 0 ∧ t.engine.quiet = 0 ∧ t.untilIdle = 2 ∧ t.engine.transaction = none ∧
      (t.plan, t.master, t.port) = (s.plan, s.master, s.port) := by decide +kernel

/-- R77, R79: levels among the characters of a beacon, a character time each, do not end it; one behind it belongs to no
frame. -/
theorem test_level_in_beacon :
    let b := times (beaconFrame .two 7)
    let t := after (.beaconReceived 0 (b.take 2 ++ levels 3 ++ b.drop 2 ++ levels 1) []) (inState .following ready)
    rowSpan (linkTimes (b.take 2 ++ levels 3 ++ b.drop 2) []) = 9 ∧ t.master.lastPartner = some .two ∧
      t.time = ⟨7, 7, 10⟩ := by decide +kernel

/-- R77, R87: levels among the characters of a data frame, in one row, take their time and no place in it. -/
theorem test_level_in_data :
    let d := times (dataFrame false [5])
    let f := linkTimes (d.take 1 ++ levels 2 ++ (d.drop 1).take 2) []
    let g := linkTimes (levels 1 ++ d.drop 3) []
    let v := exchanging.passTime 2
    let t := State.dataBegins 5 (some (0, 1)) v
    heardChars f = heard [0x78, 0, 1] ∧ f.head? ≠ some none ∧ f.getLast? ≠ some none ∧ v.closeWindow = v ∧ v.ldrv = false ∧
      linkChars ([5] ++ crcBytes [0, 1, 5]) [] = heardChars g ∧ rowSpan (f ++ g) = 9 ∧
      (v.passBusy 5).engine.transaction = some (transactionOf .inbound .replyWindow false) ∧
      (v.passBusy 5).master.state = .leading ∧
      State.hearFrame v (f ++ g) = after (.inboundDataFrameEnd 4 ([5] ++ crcBytes [0, 1, 5]) []) t ∧
      (State.hearFrame v (f ++ g)).engine.transaction.map (fun tx => (tx.phase, tx.payload)) = some (.answering, [5]) := by
  decide +kernel

/-- The three ways a level holds the line about a window: it ends before the window does; the window ends in it, before or as it
begins. -/
theorem test_hold_level_hypotheses :
    let o := atPhaseOf .outbound .replyWindow false
    let late := o.passTime 5
    let u := o.passBusy 4
    o.time.clock + 4 ≤ 0 + 4 * o.master.rate.charMicros ∧ (o.holdLevel 4).engine.transaction = o.engine.transaction ∧
      0 + 4 * o.master.rate.charMicros < o.time.clock + 6 ∧ u.engine.transaction = o.engine.transaction ∧
      u.master.state = .leading ∧ u.engine.quiet < 2 * o.master.rate.charMicros ∧
      (o.holdLevel 6).engine.transaction.bind (·.decided) = some .silent ∧
      2 * late.master.rate.charMicros ≤ late.engine.quiet ∧ (late.holdLevel 1).engine.transaction = none ∧
      (late.holdLevel 1).engine.quiet = 0 ∧ TimeLaw late := by decide +kernel

/-- R84, R104, R122: a line held by a level until it is stuck ends a reply window SILENT on the way, and the outcome decided is
handed on at the fault. -/
theorem test_stuck_in_window :
    let o := atPhaseOf .outbound .replyWindow false
    let t := after .stuckLine o
    o.time.clock + (600 - o.engine.busy) > 0 + 4 * o.master.rate.charMicros ∧ t = o.holdLevel (600 - o.engine.busy) ∧
      t.master.state = .faulted ∧ t.engine.transaction = none ∧
      (t.stream 15).map (fun r => (r.state, r.failures, r.lastFailure)) = some (.halted, 1, some .silent) := by decide +kernel

/-- What the clauses of StuckLineFaults need: in a part that follows, and in a leading one outside the reply window, in one that
lies still ahead and in one that ends while the line is held; a stream that is not in flight halts with LINK_LOST. -/
theorem test_stuck_clauses :
    let hold (s : State) := 600 * s.master.rate.charMicros - s.engine.busy
    let ok (s : State) := decide (s.inReset = false ∧ TimeLaw s ∧ LinkLaw s ∧ IdleLaw s ∧
      s.time.offset + hold s < s.master.cycleLength)
    let f := withRecord 3 (recordOf (demandDef .outbound) .running) (inState .following ready)
    let c := withRecord 3 (recordOf (demandDef .outbound) .running) (atPhaseOf .outbound .closing false)
    let ahead := exchanging.setEngine { exchanging.engine with
      transaction := some { transactionOf .inbound .replyWindow false with windowFrom := 596 } }
    let idle := exchanging.passTime 3
    ok f ∧ ok c ∧ ok ahead ∧ ok exchanging ∧ ok idle ∧ c.inFlight 3 = false ∧
      f.time.clock + hold f = 600 ∧ ahead.time.clock + hold ahead ≤ 596 + 4 * ahead.master.rate.charMicros ∧
      0 + 4 * exchanging.master.rate.charMicros < exchanging.time.clock + hold exchanging ∧
      2 * idle.master.rate.charMicros ≤ idle.engine.quiet ∧ idle.engine.busy = 0 ∧
      (∀ s ∈ [f, c, ahead], after .stuckLine s = State.setHearing s.engine.hearing
        (State.faulted .stuckLine ((s.setHearing true).elapse (hold s)))) ∧
      (∀ s ∈ [f, c], ((after .stuckLine s).stream 3).map (fun r => (r.state, r.condition)) =
        some (.halted, some .linkLost)) := by decide +kernel

end Sys2Proof.Tests
end

section
/-! SUPPORT. The load map (3.6): when a change of one stream's record and of the load map keeps the load law, and what every
operation of the part does to it. -/

set_option Elab.async false

namespace Sys2Proof.Machine

open Sys2Proof.Safety

/-! ## The load law under a change of one stream -/

theorem allSids_eq_finRange : allSids = List.finRange 16 := by decide

theorem sum_map_allSids (f : Sid → Nat) : (allSids.map f).sum = ∑ i, f i := by
  rw [allSids_eq_finRange, Fin.sum_univ_def]

/-- Two sums over the streams that differ in one stream only. -/
theorem sum_allSids_change {f g : Sid → Nat} {i : Sid} (h : ∀ j, j ≠ i → g j = f j) :
    (allSids.map g).sum + f i = (allSids.map f).sum + g i := by
  have hrest : ∑ j ∈ Finset.univ.erase i, g j = ∑ j ∈ Finset.univ.erase i, f j :=
    Finset.sum_congr rfl fun j hj => h j (Finset.ne_of_mem_erase hj)
  have hf := Finset.add_sum_erase Finset.univ f (Finset.mem_univ i)
  have hg := Finset.add_sum_erase Finset.univ g (Finset.mem_univ i)
  rw [sum_map_allSids, sum_map_allSids]
  omega

/-- The one rule of the load law: one stream's record and the load map change together, and every entry changes by what the
stream adds to it. -/
theorem loadLaw_change {s t : State} (h : LoadLaw s) (i : Sid) (hne : ∀ j, j ≠ i → t.stream j = s.stream j)
    (hmap : ∀ e : Fin 256,
      t.plan.loadMap[e] + loadOf e.val (s.stream i) = s.plan.loadMap[e] + loadOf e.val (t.stream i))
    (hb : ∀ e : Fin 256, t.plan.loadMap[e] ≤ t.master.b) (hholds : (t.stream i).all holdsRight = true)
    (hplace : (t.stream i).all placeRight = true) : LoadLaw t := by
  obtain ⟨hsum, -, hh, hp⟩ := h
  refine ⟨fun e => ?_, hb, fun j => ?_, fun j => ?_⟩
  · have hs := hsum e
    have hc := sum_allSids_change (f := fun j => loadOf e.val (s.stream j)) (g := fun j => loadOf e.val (t.stream j))
      (i := i) fun j hj => by rw [hne j hj]
    have hm := hmap e
    omega
  · by_cases hj : j = i
    · exact hj ▸ hholds
    · rw [hne j hj]; exact hh j
  · by_cases hj : j = i
    · exact hj ▸ hplace
    · rw [hne j hj]; exact hp j

/-! ## The invariant -/

/-- What the load law reads of a record. -/
def StreamRecord.loadCore (r : StreamRecord) : StreamDef × StreamState × Bool := (r.defn, r.state, r.holdsLoad)

/-- The stream of a transaction can still send. -/
def StreamRecord.inUse (r : StreamRecord) : Bool := r.state == .running || r.state == .paused

/-- Only a leading part has a transaction, and its stream is RUNNING or PAUSED: the part of the link law that the load law leans
on (R38). -/
def TransactionServed (s : State) : Prop :=
  ∀ tx, s.engine.transaction = some tx → s.master.state = .leading ∧ (s.stream tx.stream).any StreamRecord.inUse = true

/-- The load law with what it needs to be kept by every operation. -/
structure LoadInv (s : State) : Prop where
  law : LoadLaw s
  served : TransactionServed s

theorem LoadInv.of_laws {s : State} (hl : LinkLaw s) (h : LoadLaw s) : LoadInv s := by
  obtain ⟨hlead, -, -, -, hserv, -⟩ := hl
  refine ⟨h, fun tx htx => ⟨hlead (by rw [htx]; rfl), ?_⟩⟩
  have hs := hserv tx htx
  revert hs
  cases s.stream tx.stream with
  | none => simp
  | some r => simpa [inService, StreamRecord.inUse] using fun hs _ => hs

theorem loadOf_of_core {a b : Option StreamRecord} (h : a.map StreamRecord.loadCore = b.map StreamRecord.loadCore) (e : Nat) :
    loadOf e a = loadOf e b := by
  cases a <;> cases b <;> simp_all [StreamRecord.loadCore, loadOf]

theorem holdsRight_of_core {a b : Option StreamRecord} (h : a.map StreamRecord.loadCore = b.map StreamRecord.loadCore) :
    a.all holdsRight = b.all holdsRight := by
  cases a <;> cases b <;> simp_all [StreamRecord.loadCore, holdsRight]

theorem placeRight_of_core {a b : Option StreamRecord} (h : a.map StreamRecord.loadCore = b.map StreamRecord.loadCore) :
    a.all placeRight = b.all placeRight := by
  cases a <;> cases b <;> simp_all [StreamRecord.loadCore, placeRight]

theorem inUse_of_core {a b : Option StreamRecord} (h : a.map StreamRecord.loadCore = b.map StreamRecord.loadCore) :
    a.any StreamRecord.inUse = b.any StreamRecord.inUse := by
  cases a <;> cases b <;> simp_all [StreamRecord.loadCore, StreamRecord.inUse]

theorem loadLaw_of_core {s t : State} (h : LoadLaw s) (hmap : t.plan.loadMap = s.plan.loadMap)
    (hb : t.master.b = s.master.b)
    (hs : ∀ i, (t.stream i).map StreamRecord.loadCore = (s.stream i).map StreamRecord.loadCore) : LoadLaw t := by
  obtain ⟨h1, h2, h3, h4⟩ := h
  refine ⟨fun e => ?_, fun e => ?_, fun i => ?_, fun i => ?_⟩
  · rw [hmap, h1 e]
    congr 2
    funext i
    exact (loadOf_of_core (hs i) e.val).symm
  · rw [hmap, hb]; exact h2 e
  · rw [holdsRight_of_core (hs i)]; exact h3 i
  · rw [placeRight_of_core (hs i)]; exact h4 i

/-- Operations that leave the load map, the budget and what the load law reads of the records keep the invariant, when they begin
no transaction. -/
theorem LoadInv.of_core {s t : State} (h : LoadInv s) (hmap : t.plan.loadMap = s.plan.loadMap)
    (hb : t.master.b = s.master.b)
    (hs : ∀ i, (t.stream i).map StreamRecord.loadCore = (s.stream i).map StreamRecord.loadCore)
    (htx : ∀ tx, t.engine.transaction = some tx →
      t.master.state = s.master.state ∧ ∃ tx', s.engine.transaction = some tx' ∧ tx'.stream = tx.stream) : LoadInv t := by
  refine ⟨loadLaw_of_core h.law hmap hb hs, fun tx ht => ?_⟩
  obtain ⟨hstate, tx', ht', hstream⟩ := htx tx ht
  obtain ⟨hlead, huse⟩ := h.served tx' ht'
  rw [inUse_of_core (hs tx.stream), ← hstream, hstate]
  exact ⟨hlead, huse⟩

/-- Operations that leave the load map, the records, the mastership record and the transaction. -/
theorem LoadInv.of_same {s t : State} (h : LoadInv s) (hmap : t.plan.loadMap = s.plan.loadMap := by simp)
    (hs : t.streams = s.streams := by simp) (hm : t.master = s.master := by simp)
    (htx : t.engine.transaction = s.engine.transaction := by simp) : LoadInv t :=
  h.of_core hmap (by rw [hm]) (fun i => by simp only [State.stream, hs]) fun tx ht => by
    rw [hm]; exact ⟨rfl, tx, htx ▸ ht, rfl⟩

end Sys2Proof.Machine
end

section
/-! SUPPORT. Every operation of the stream table, the plan, the link engine and the mastership unit keeps the load law. -/

set_option Elab.async false

namespace Sys2Proof.Machine

open Sys2Proof.Safety

/-! ## One stream's record changes -/

theorem holdsRight_of_active {r : StreamRecord} (hr : holdsRight r = true) {st st' : StreamState} (hs : r.state = st)
    (h : (st == .armed || st == .running || st == .paused || st == .halted) =
      (st' == .armed || st' == .running || st' == .paused || st' == .halted)) {r' : StreamRecord}
    (hd : r'.defn = r.defn) (hl : r'.holdsLoad = r.holdsLoad) (hst : r'.state = st') : holdsRight r' = true := by
  subst hs hst
  simpa only [holdsRight, hd, hl, ← h] using hr

/-- A stream takes another record of the same definition and load, right for its new state; the stream of a transaction stays in
use. -/
theorem LoadInv.restream {s t : State} (h : LoadInv s) {i : Sid} {r r' : StreamRecord} (hi : s.stream i = some r)
    (hd : r'.defn = r.defn) (hl : r'.holdsLoad = r.holdsLoad) (hr : holdsRight r' = true)
    (huse : r'.inUse = true ∨ s.inFlight i = false)
    (hs : t.streams = (s.setStream i (some r')).streams := by simp)
    (hmap : t.plan.loadMap = s.plan.loadMap := by simp) (hm : t.master = s.master := by simp)
    (htx : t.engine.transaction = s.engine.transaction := by simp) : LoadInv t := by
  have hself : t.stream i = some r' := by
    have := State.setStream_stream_self i (some r') s
    simpa only [State.stream, hs] using this
  have hne : ∀ j, j ≠ i → t.stream j = s.stream j := fun j hj => by
    have := State.setStream_stream_ne (Ne.symm hj) (some r') s
    simpa only [State.stream, hs] using this
  obtain ⟨hlaw, hserved⟩ := h
  have hplace : placeRight r' = true := by
    have := hlaw.2.2.2 i
    rw [hi] at this
    simpa [placeRight, hd] using this
  refine ⟨loadLaw_change hlaw i hne (fun e => ?_) (fun e => ?_) ?_ ?_, fun tx ht => ?_⟩
  · simp only [hmap, hself, hi, loadOf, hd, hl]
  · rw [hmap, hm]; exact hlaw.2.1 e
  · simpa [hself] using hr
  · simpa [hself] using hplace
  · rw [htx] at ht
    obtain ⟨hlead, hu⟩ := hserved tx ht
    refine ⟨by rw [hm]; exact hlead, ?_⟩
    by_cases hj : tx.stream = i
    · rcases huse with hu' | hf
      · simpa [hj, hself] using hu'
      · simp [State.inFlight, ht, hj] at hf
    · rw [hne _ hj]; exact hu

theorem LoadInv.holds {s : State} (h : LoadInv s) {i : Sid} {r : StreamRecord} (hi : s.stream i = some r) :
    holdsRight r = true := by
  have := h.law.2.2.1 i
  simpa [hi] using this

theorem LoadInv.place {s : State} (h : LoadInv s) {i : Sid} {r : StreamRecord} (hi : s.stream i = some r) :
    placeRight r = true := by
  have := h.law.2.2.2 i
  simpa [hi] using this

/-- No transaction of a stream that is neither RUNNING nor PAUSED is in flight. -/
theorem LoadInv.notInFlight {s : State} (h : LoadInv s) {i : Sid} {r : StreamRecord} (hi : s.stream i = some r)
    (hu : r.inUse = false) : s.inFlight i = false := by
  cases ht : s.engine.transaction with
  | none => simp [State.inFlight, ht]
  | some tx =>
    have := (h.served tx ht).2
    by_cases hj : tx.stream = i
    · simp [hj, hi, hu] at this
    · simp [State.inFlight, ht, hj]

/-- No transaction of a FREE stream is in flight. -/
theorem LoadInv.notInFlight_free {s : State} (h : LoadInv s) {i : Sid} (hi : s.stream i = none) : s.inFlight i = false := by
  cases ht : s.engine.transaction with
  | none => simp [State.inFlight, ht]
  | some tx =>
    have := (h.served tx ht).2
    by_cases hj : tx.stream = i
    · simp [hj, hi] at this
    · simp [State.inFlight, ht, hj]

/-- A transaction of a stream that is not in flight is another stream's. -/
theorem State.stream_ne_of_notInFlight {s : State} {i : Sid} (h : s.inFlight i = false) {tx : Transaction}
    (ht : s.engine.transaction = some tx) : tx.stream ≠ i := by
  simpa [State.inFlight, ht] using h

/-! ## The load of one stream enters or leaves the map -/

/-- What an operation does that changes the record of one stream without a transaction, together with its entries of the load
map. -/
theorem LoadInv.reload {s t : State} (h : LoadInv s) (i : Sid) (hfree : s.inFlight i = false)
    (hne : ∀ j, j ≠ i → t.stream j = s.stream j)
    (hmap : ∀ e : Fin 256,
      t.plan.loadMap[e] + loadOf e.val (s.stream i) = s.plan.loadMap[e] + loadOf e.val (t.stream i))
    (hb : ∀ e : Fin 256, t.plan.loadMap[e] ≤ t.master.b) (hholds : (t.stream i).all holdsRight = true)
    (hplace : (t.stream i).all placeRight = true) (hm : t.master = s.master := by simp)
    (htx : t.engine.transaction = s.engine.transaction := by simp) : LoadInv t := by
  refine ⟨loadLaw_change h.law i hne hmap hb hholds hplace, fun tx ht => ?_⟩
  rw [htx] at ht
  rw [hm, hne _ (State.stream_ne_of_notInFlight hfree ht)]
  exact h.served tx ht

@[simp] theorem Plan.addLoad_loadMap (period phase cost : Nat) (p : Plan) (e : Fin 256) :
    (p.addLoad period phase cost).loadMap[e] =
      if loadEntryOf period phase e.val then p.loadMap[e] + cost else p.loadMap[e] := by
  simp [Plan.addLoad]

@[simp] theorem Plan.removeLoad_loadMap (period phase cost : Nat) (p : Plan) (e : Fin 256) :
    (p.removeLoad period phase cost).loadMap[e] =
      if loadEntryOf period phase e.val then p.loadMap[e] - cost else p.loadMap[e] := by
  simp [Plan.removeLoad]

/-- An entry holds at least what one stream adds to it. -/
theorem loadOf_le_loadMap {s : State} (h : LoadLaw s) (i : Sid) (e : Fin 256) :
    loadOf e.val (s.stream i) ≤ s.plan.loadMap[e] := by
  rw [h.1 e, sum_map_allSids]
  exact Finset.single_le_sum (f := fun j => loadOf e.val (s.stream j)) (fun _ _ => Nat.zero_le _) (Finset.mem_univ i)

/-- Writing back the record that stands. -/
theorem State.setStream_same {i : Sid} {x : Option StreamRecord} {s : State} (h : s.stream i = x) : s.setStream i x = s := by
  subst h
  simp [State.setStream, State.setStreams, State.stream]

/-- The load map without what a record adds to it (R71). -/
def Plan.without (r : StreamRecord) (p : Plan) : Plan :=
  { p with loadMap := Vector.ofFn fun e : Fin 256 => p.loadMap[e] - loadOf e.val (some r) }

@[simp] theorem Plan.without_loadMap (r : StreamRecord) (p : Plan) (e : Fin 256) :
    (p.without r).loadMap[e] = p.loadMap[e] - loadOf e.val (some r) := by
  simp [Plan.without]

/-- A record that adds nothing leaves the load map as it is. -/
theorem Plan.without_of_zero {r : StreamRecord} (h : ∀ e, loadOf e (some r) = 0) (p : Plan) : p.without r = p := by
  obtain ⟨m, _, _, _⟩ := p
  simp only [Plan.without, h, Nat.sub_zero, Plan.mk.injEq, and_true]
  ext e he
  simp

/-- The cost of a CYCLIC stream that holds load, taken from its entries. -/
theorem Plan.removeLoad_eq_without {r : StreamRecord} {period phase : Nat} (hk : r.defn.kind = .cyclic period phase)
    (hl : r.holdsLoad = true) (p : Plan) : p.removeLoad period phase r.defn.cost = p.without r := by
  simp only [Plan.removeLoad, Plan.without, loadOf, hk, hl, Bool.true_and, Plan.mk.injEq, and_true]
  ext e he
  simp only [Vector.getElem_ofFn]
  split <;> simp

/-- Releasing a stream's load, whole: the record holds load no more, and what it added leaves the map (R71). -/
theorem State.releaseLoad_eq {i : Sid} {r : StreamRecord} {s : State} (h : s.stream i = some r) :
    s.releaseLoad i =
      (s.setStream i (some { r with holdsLoad := r.holdsLoad && r.defn.isDemand })).setPlan (s.plan.without r) := by
  have same : (s.setStream i (some r)).setPlan s.plan = s := by rw [State.setStream_same h]; rfl
  have stays : r.holdsLoad = (r.holdsLoad && r.defn.isDemand) → (∀ e, loadOf e (some r) = 0) →
      s = (s.setStream i (some { r with holdsLoad := r.holdsLoad && r.defn.isDemand })).setPlan (s.plan.without r) :=
    fun hl hz => by rw [Plan.without_of_zero hz, ← hl]; exact same.symm
  simp only [State.releaseLoad, h]
  split
  next period phase hk hl =>
    rw [Plan.removeLoad_eq_without hk hl, show (r.holdsLoad && r.defn.isDemand) = false by simp [StreamDef.isDemand, hk]]
  next period phase hk hl => exact stays (by simp [hl]) fun e => by simp [loadOf, hk, hl]
  next hk => exact stays (by simp [StreamDef.isDemand, hk]) fun e => by simp [loadOf, hk]

theorem State.releaseLoad_free {i : Sid} {s : State} (h : s.stream i = none) : s.releaseLoad i = s := by
  simp [State.releaseLoad, h]

/-- Releasing a stream's load leaves every other record. -/
theorem State.releaseLoad_stream_ne {i j : Sid} (h : j ≠ i) (s : State) : (s.releaseLoad i).stream j = s.stream j := by
  cases hs : s.stream i with
  | none => rw [State.releaseLoad_free hs]
  | some r => rw [State.releaseLoad_eq hs, State.setPlan_stream, State.setStream_stream_ne (Ne.symm h)]

/-- A stream without a transaction gives up its load and takes a record that holds none, or becomes FREE (R71). -/
theorem LoadInv.unload {s t : State} (h : LoadInv s) {i : Sid} {r : StreamRecord} (hi : s.stream i = some r)
    (hfree : s.inFlight i = false)
    (hx : ∀ r', t.stream i = some r' → r'.defn = r.defn ∧ r'.holdsLoad = false ∧ holdsRight r' = true)
    (hne : ∀ j, j ≠ i → t.stream j = s.stream j) (hmap : t.plan.loadMap = (s.plan.without r).loadMap)
    (hm : t.master = s.master := by simp) (htx : t.engine.transaction = s.engine.transaction := by simp) : LoadInv t := by
  refine h.reload i hfree hne (fun e => ?_) (fun e => ?_) ?_ ?_ hm htx
  · have hzero : loadOf e.val (t.stream i) = 0 := by
      cases ht : t.stream i with
      | none => rfl
      | some r' =>
        simp only [loadOf, (hx r' ht).2.1]
        split <;> simp
    have := hi ▸ loadOf_le_loadMap h.law i e
    rw [hmap, Plan.without_loadMap, hzero, hi]
    omega
  · have := h.law.2.1 e
    rw [hmap, Plan.without_loadMap, hm]
    omega
  · exact (Option.all_eq_true _ _).mpr fun r' ht => (hx r' ht).2.2
  · refine (Option.all_eq_true _ _).mpr fun r' ht => ?_
    have hp := h.place hi
    simpa only [placeRight, (hx r' ht).1] using hp

end Sys2Proof.Machine
end

section
/-! SUPPORT. Outcomes, halts, changes of mastership, boundaries and beacons keep the load law. -/

set_option Elab.async false

namespace Sys2Proof.Machine

open Sys2Proof.Safety

/-! ## Records that the load law does not read -/

/-- Writing a record with the same definition, state and load. -/
theorem LoadInv.setStream_core {s : State} (h : LoadInv s) {i : Sid} {r r' : StreamRecord} (hi : s.stream i = some r)
    (hc : r'.loadCore = r.loadCore) : LoadInv (s.setStream i (some r')) := by
  refine h.of_core (by simp) (by simp) (fun j => ?_) fun tx ht => ⟨rfl, tx, ht, rfl⟩
  by_cases hj : j = i
  · subst hj; simp [hi, hc]
  · rw [State.setStream_stream_ne (Ne.symm hj)]

theorem LoadInv.setPort {s : State} (h : LoadInv s) (p : Port) : LoadInv (s.setPort p) := h.of_same

theorem LoadInv.setReports {s : State} (h : LoadInv s) (q : ReportQueue) : LoadInv (s.setReports q) := h.of_same

theorem LoadInv.offer {s : State} (h : LoadInv s) (r : Report) : LoadInv (s.offer r) := h.of_same

theorem LoadInv.answer {s : State} (h : LoadInv s) (tag : Byte) (b : Body) : LoadInv (s.answer tag b) := h.of_same

theorem LoadInv.answerAll {s : State} (h : LoadInv s) (tags : List Byte) (b : Body) :
    LoadInv (tags.foldl (fun s t => s.answer t b) s) :=
  List.foldlRecOn tags _ h fun _ ht t _ => ht.answer t b

theorem LoadInv.offerRefill {s : State} (h : LoadInv s) (i : Sid) (r : StreamRecord) : LoadInv (s.offerRefill i r) :=
  h.of_same

theorem LoadInv.renew {s : State} (h : LoadInv s) (i : Sid) : LoadInv (s.renew i) := h.of_same rfl

/-- Every request is abandoned: only TAGs leave the records. -/
theorem LoadInv.abandonRequests {s : State} (h : LoadInv s) : LoadInv s.abandonRequests := by
  refine h.of_core (by simp) rfl (fun i => ?_) fun tx ht => ⟨rfl, tx, ht, rfl⟩
  cases hi : s.stream i <;> simp_all [State.abandonRequests, State.stream, StreamRecord.loadCore]

/-- Every record waits for a resync. -/
theorem LoadInv.resyncAll {s : State} (h : LoadInv s) : LoadInv s.resyncAll := by
  refine h.of_core (by simp) rfl (fun i => ?_) fun tx ht => ⟨rfl, tx, ht, rfl⟩
  cases hi : s.stream i <;> simp_all [State.resyncAll, State.setStreams, State.stream, StreamRecord.loadCore]

/-- Nothing is in flight: the mastership state is free to change. -/
theorem LoadInv.of_noTransaction {s t : State} (h : LoadInv s) (hmap : t.plan.loadMap = s.plan.loadMap := by simp)
    (hs : t.streams = s.streams := by simp) (hb : t.master.b = s.master.b := by simp)
    (htx : t.engine.transaction = none := by simp) : LoadInv t :=
  h.of_core hmap hb (fun i => by simp only [State.stream, hs]) fun tx ht => by simp [htx] at ht

/-! ## Starts and halts -/

theorem StreamRecord.armed_of_armedAt {hit : Cycle → Bool} {r : StreamRecord} (h : r.armedAt hit = true) : r.state = .armed := by
  unfold StreamRecord.armedAt at h
  split at h
  · assumption
  · simp at h

theorem StreamRecord.armed_of_armedOn {k : Line} {r : StreamRecord} (h : r.armedOn k = true) : r.state = .armed := by
  unfold StreamRecord.armedOn at h
  split at h
  · assumption
  · simp at h

theorem LoadInv.trigger {s : State} (h : LoadInv s) {i : Sid} {r : StreamRecord} (hi : s.stream i = some r)
    (ha : r.state = .armed) : LoadInv (s.trigger i) := by
  have hr := h.holds hi
  rw [State.trigger, hi]
  exact ((h.restream hi (r' := { r with state := .running, trigger := none }) rfl rfl
    (by simpa [holdsRight, ha] using hr) (.inl rfl)).offer _).offerRefill i r

/-- An event that starts ARMED streams keeps the load law. -/
theorem LoadInv.triggerAll {s : State} (h : LoadInv s) {test : StreamRecord → Bool}
    (ht : ∀ r, test r = true → r.state = .armed) : LoadInv (s.triggerAll test) := by
  refine List.foldlRecOn allSids _ h fun t hinv i _ => ?_
  split
  next hany =>
    obtain ⟨r, hi, htest⟩ := (Option.any_eq_true _ _).mp hany
    exact hinv.trigger hi (ht r htest)
  next => exact hinv

theorem LoadInv.passCycleStarts {s : State} (h : LoadInv s) (a b : Cycle) : LoadInv (s.passCycleStarts a b) :=
  h.triggerAll fun _ => StreamRecord.armed_of_armedAt

/-- A stream in ARMED, RUNNING, PAUSED or HALTED that halts keeps its load. -/
theorem LoadInv.halt {s : State} (h : LoadInv s) {i : Sid} {r r' : StreamRecord} (hi : s.stream i = some r)
    (hst : r.state = .armed ∨ r.state = .running ∨ r.state = .paused ∨ r.state = .halted) (hd : r'.defn = r.defn)
    (hl : r'.holdsLoad = r.holdsLoad) (hfree : s.inFlight i = false) (c : Condition) : LoadInv (s.halt i r' c) := by
  have hr := h.holds hi
  refine (h.restream hi (r' := { r' with state := .halted, condition := some c }) hd hl ?_ (.inr hfree)).offer _
  rcases hst with hst | hst | hst | hst <;> simpa [holdsRight, hst, hd, hl] using hr

/-- A waiting STOP is resolved when nothing of the stream is in flight and the stream can halt. -/
theorem LoadInv.resolveStop {s : State} (h : LoadInv s) {i : Sid}
    (hst : ∀ r, s.stream i = some r → r.state ≠ .idle) (hfree : s.inFlight i = false) : LoadInv (s.resolveStop i) := by
  cases hi : s.stream i with
  | none => simpa [State.resolveStop, hi] using h
  | some r =>
    have hends (t : State) (ht : LoadInv t) (b : Body) : LoadInv (r.stopTags.foldl (fun s t => s.answer t b) t) :=
      ht.answerAll _ _
    by_cases hp : r.stopPending = true
    · cases hs : r.state with
      | halted | done =>
        simpa [State.resolveStop, hi, hp, hs] using hends _ (h.setStream_core hi (by simp [StreamRecord.loadCore, hs])) _
      | armed | running | paused =>
        simpa [State.resolveStop, hi, hp, hs] using
          hends _ (h.halt hi (by simp [hs]) (by rfl) (by rfl) hfree .stopped) _
      | idle => exact absurd hs (hst r hi)
    · simpa [State.resolveStop, hi, hp] using h

end Sys2Proof.Machine
end

section
/-! SUPPORT. Outcomes, halts, changes of mastership, boundaries and beacons keep the load law. -/

set_option Elab.async false

namespace Sys2Proof.Machine

open Sys2Proof.Safety

/-! ## Outcomes -/

theorem State.setStream_setStream (i : Sid) (a b : Option StreamRecord) (s : State) :
    (s.setStream i a).setStream i b = s.setStream i b := by
  simp [State.setStream, State.setStreams]

/-- Only the definition and the load of a record count. -/
theorem Plan.without_congr {r r' : StreamRecord} (hd : r'.defn = r.defn) (hl : r'.holdsLoad = r.holdsLoad) (p : Plan) :
    p.without r' = p.without r := by
  simp only [Plan.without, loadOf, hd, hl]

/-- Entry to DONE, whole: the record without its load, the load map without the stream, STREAM_ENDED (R24, R71). -/
theorem State.finish_eq (i : Sid) (r : StreamRecord) (c : Condition) (s : State) :
    s.finish i r c =
      (((s.setStream i (some { r with
        state := .done, condition := some c, holdsLoad := r.holdsLoad && r.defn.isDemand })).setPlan
          (s.plan.without r)).offer
        (.streamEnded i .done (some c) r.lastFailure r.residue r.accepted)) := by
  rw [State.finish, State.releaseLoad_eq (State.setStream_stream_self _ _ _), State.setStream_setStream,
    State.setStream_plan, Plan.without_congr (r := r) rfl rfl]
  rfl

theorem LoadInv.finish {s : State} (h : LoadInv s) {i : Sid} {r r' : StreamRecord} (hi : s.stream i = some r)
    (hd : r'.defn = r.defn) (hl : r'.holdsLoad = r.holdsLoad) (hfree : s.inFlight i = false) (c : Condition) :
    LoadInv (s.finish i r' c) := by
  have hr := h.holds hi
  have hnone : (r.holdsLoad && r.defn.isDemand) = false := by
    cases hdem : r.defn.isDemand <;> simp_all [holdsRight]
  rw [State.finish_eq]
  refine LoadInv.offer ?_ _
  refine h.unload hi hfree (fun r' hr' => ?_) (fun j hj => ?_) ?_
  · simp only [State.setPlan_stream, State.setStream_stream_self, Option.some.injEq] at hr'
    subst hr'
    simp [hd, hl, hnone, holdsRight]
  · simp [State.setStream_stream_ne (Ne.symm hj)]
  · simp [Plan.without_congr hd hl]

/-- The record of a stream that goes on after an accepted outcome (R23). -/
def StreamRecord.goneOn (r : StreamRecord) (marked : Bool) : StreamRecord :=
  if marked && r.defn.autopause && r.state == .running then { r with state := .paused } else r

theorem State.goOn_streams (i : Sid) (r : StreamRecord) (marked : Bool) (s : State) :
    (s.goOn i r marked).streams = (s.setStream i (some (r.goneOn marked))).streams := by
  unfold State.goOn StreamRecord.goneOn
  split <;> simp

theorem StreamRecord.goneOn_loadKept (r : StreamRecord) (marked : Bool) :
    (r.goneOn marked).defn = r.defn ∧ (r.goneOn marked).holdsLoad = r.holdsLoad ∧
      (r.inUse = true → (r.goneOn marked).inUse = true) := by
  unfold StreamRecord.goneOn
  split <;> simp [StreamRecord.inUse]

/-- A stream in use is right for the load exactly when it holds load as a CYCLIC stream does. -/
theorem holdsRight_of_inUse {r r' : StreamRecord} (hr : holdsRight r = true) (hu : r.inUse = true) (hu' : r'.inUse = true)
    (hd : r'.defn = r.defn) (hl : r'.holdsLoad = r.holdsLoad) : holdsRight r' = true := by
  have e (x : StreamRecord) (hx : x.inUse = true) :
      (x.state == .armed || x.state == .running || x.state == .paused || x.state == .halted) = true := by
    simp only [StreamRecord.inUse, Bool.or_eq_true] at hx ⊢
    tauto
  simpa only [holdsRight, e r hu, e r' hu', hd, hl] using hr

/-- A stream in use that stays in use keeps its load. -/
theorem LoadInv.stayInUse {s t : State} (h : LoadInv s) {i : Sid} {r r' : StreamRecord} (hi : s.stream i = some r)
    (hu : r.inUse = true) (hu' : r'.inUse = true) (hd : r'.defn = r.defn) (hl : r'.holdsLoad = r.holdsLoad)
    (hs : t.streams = (s.setStream i (some r')).streams := by simp)
    (hmap : t.plan.loadMap = s.plan.loadMap := by simp) (hm : t.master = s.master := by simp)
    (htx : t.engine.transaction = s.engine.transaction := by simp) : LoadInv t :=
  h.restream hi hd hl (holdsRight_of_inUse (h.holds hi) hu hu' hd hl) (.inl hu') hs hmap hm htx

/-- After an outcome the stream is not IDLE, so that a waiting STOP can halt it. -/
def Settled (i : Sid) (s : State) : Prop := LoadInv s ∧ ∀ r, s.stream i = some r → r.state ≠ .idle

theorem Settled.of_stream {s : State} {i : Sid} {r : StreamRecord} (h : LoadInv s) (hi : s.stream i = some r)
    (hr : r.state ≠ .idle) : Settled i s :=
  ⟨h, fun r' h' => by rw [hi] at h'; cases h'; exact hr⟩

theorem Settled.goOn {s : State} (h : LoadInv s) {i : Sid} {r r' : StreamRecord} (hi : s.stream i = some r)
    (hu : r.inUse = true) (hd : r'.defn = r.defn) (hl : r'.holdsLoad = r.holdsLoad) (hst : r'.state = r.state)
    (marked : Bool) : Settled i (s.goOn i r' marked) := by
  obtain ⟨hd', hl', hu'⟩ := r'.goneOn_loadKept marked
  have hu'' : (r'.goneOn marked).inUse = true := hu' (by simpa [StreamRecord.inUse, hst] using hu)
  have hself : (s.goOn i r' marked).stream i = some (r'.goneOn marked) := by
    simp only [State.stream, State.goOn_streams]
    exact State.setStream_stream_self i _ s
  refine .of_stream (h.stayInUse hi hu hu'' (hd'.trans hd) (hl'.trans hl) (State.goOn_streams i r' marked s)) hself ?_
  intro he
  simp [StreamRecord.inUse, he] at hu''

theorem Settled.finish {s : State} (h : LoadInv s) {i : Sid} {r r' : StreamRecord} (hi : s.stream i = some r)
    (hd : r'.defn = r.defn) (hl : r'.holdsLoad = r.holdsLoad) (hfree : s.inFlight i = false) (c : Condition) :
    Settled i (s.finish i r' c) := by
  refine .of_stream (h.finish hi hd hl hfree c) (r := { r' with
    state := .done, condition := some c, holdsLoad := r'.holdsLoad && r'.defn.isDemand }) ?_ (by simp)
  rw [State.finish_eq]
  exact State.setStream_stream_self _ _ _

theorem Settled.halt {s : State} (h : LoadInv s) {i : Sid} {r r' : StreamRecord} (hi : s.stream i = some r)
    (hu : r.inUse = true) (hd : r'.defn = r.defn) (hl : r'.holdsLoad = r.holdsLoad) (hfree : s.inFlight i = false)
    (c : Condition) : Settled i (s.halt i r' c) := by
  have hst : r.state = .running ∨ r.state = .paused := by simpa [StreamRecord.inUse] using hu
  exact .of_stream (h.halt hi (by tauto) hd hl hfree c) (State.setStream_stream_self _ _ _) (by simp)

/-- The record after an accepted outcome, before its end checks (R20, R21, R23). -/
def StreamRecord.afterAccepted (tx : Transaction) (r : StreamRecord) : StreamRecord :=
  { r.progress tx.moved tx.carried with takenCount := r.nextTaken }

/-- What the end checks of R24 lead to. -/
def State.conclude (i : Sid) (r : StreamRecord) (marked : Bool) (s : State) : EndCheck → State
  | .closed => s.finish i { r with closingPending := false } .complete
  | .closeEmpty => s.goOn i { r with closingPending := true } marked
  | .complete => s.finish i r .complete
  | .short => s.finish i r .shortEnd
  | .stays => s.goOn i r marked

/-- The accepted outcome in the stream table: STREAM_MARK, then what the end checks lead to. -/
theorem State.applyAccepted_eq (tx : Transaction) (r : StreamRecord) (s : State) :
    s.applyAccepted tx r =
      (if r.marks then s.offer (.streamMark tx.stream) else s).conclude tx.stream (r.afterAccepted tx) r.marks
        ((r.afterAccepted tx).endCheck tx.moved tx.baseSize tx.size) := by
  simp only [State.applyAccepted, StreamRecord.afterAccepted]
  generalize StreamRecord.endCheck _ _ _ _ = e
  cases e <;> rfl

theorem Settled.conclude {s : State} (h : LoadInv s) {i : Sid} {r r' : StreamRecord} (hi : s.stream i = some r)
    (hu : r.inUse = true) (hd : r'.defn = r.defn) (hl : r'.holdsLoad = r.holdsLoad) (hst : r'.state = r.state)
    (hfree : s.inFlight i = false) (marked : Bool) (e : EndCheck) : Settled i (s.conclude i r' marked e) := by
  cases e with
  | closed | complete | short => exact .finish h hi (by exact hd) (by exact hl) hfree _
  | closeEmpty | stays => exact .goOn h hi hu (by exact hd) (by exact hl) (by exact hst) _

theorem Settled.applyAccepted {s : State} (h : LoadInv s) {tx : Transaction} {r : StreamRecord}
    (hi : s.stream tx.stream = some r) (hu : r.inUse = true) (hfree : s.inFlight tx.stream = false) :
    Settled tx.stream (s.applyAccepted tx r) := by
  rw [State.applyAccepted_eq]
  split
  · exact .conclude (h.offer _) hi hu (by rfl) (by rfl) (by rfl) hfree _ _
  · exact .conclude h hi hu (by rfl) (by rfl) (by rfl) hfree _ _

/-- A record that changes in nothing the load law reads is settled as it was. -/
theorem Settled.setStream_core {s : State} (h : LoadInv s) {i : Sid} {r r' : StreamRecord} (hi : s.stream i = some r)
    (hu : r.inUse = true) (hc : r'.loadCore = r.loadCore) : Settled i (s.setStream i (some r')) := by
  have hst : r'.state = r.state := congrArg (·.2.1) hc
  refine .of_stream (h.setStream_core hi hc) (State.setStream_stream_self _ _ _) ?_
  intro he
  simp [StreamRecord.inUse, ← hst, he] at hu

theorem Settled.applyFailure {s : State} (h : LoadInv s) {i : Sid} {r : StreamRecord} (hi : s.stream i = some r)
    (hu : r.inUse = true) (hfree : s.inFlight i = false) (k : FailureKind) : Settled i (s.applyFailure i k r) := by
  simp only [State.applyFailure]
  split
  · exact .halt h hi hu (by rfl) (by rfl) hfree _
  · exact .setStream_core h hi hu rfl

theorem Settled.applyToStream {s : State} (h : LoadInv s) {tx : Transaction}
    (hu : (s.stream tx.stream).any StreamRecord.inUse = true) (hfree : s.inFlight tx.stream = false) (o : Outcome) :
    Settled tx.stream (s.applyToStream tx o) := by
  obtain ⟨r, hi, hu⟩ := (Option.any_eq_true _ _).mp hu
  simp only [State.applyToStream, hi]
  cases o with
  | accepted => exact .applyAccepted h hi hu hfree
  | duplicate | wait | yielded => exact .setStream_core h hi hu rfl
  | reject | overrun => exact .halt h hi hu (by rfl) (by rfl) hfree _
  | silent | check | form => exact .applyFailure h hi hu hfree _

@[simp] theorem State.joinWaited_loadMap (tx : Transaction) (o : Outcome) (s : State) :
    (s.joinWaited tx o).plan.loadMap = s.plan.loadMap := by
  unfold State.joinWaited
  split <;> rfl

@[simp] theorem State.applyOutcome_engine (tx : Transaction) (o : Outcome) (s : State) :
    (s.applyOutcome tx o).engine = { s.engine with transaction := none } := by
  simp [State.applyOutcome]

/-- The end of a transaction keeps the load law (R92). -/
theorem LoadInv.applyOutcome {s : State} (h : LoadInv s) {tx : Transaction} (ht : s.engine.transaction = some tx)
    (o : Outcome) : LoadInv (s.applyOutcome tx o) := by
  have hu := (h.served tx ht).2
  have h1 : LoadInv ((s.setEngine { s.engine with transaction := none }).applyToMemory tx o) :=
    h.of_noTransaction
  obtain ⟨h2, hst⟩ := Settled.applyToStream h1 (tx := tx) (by simpa [State.stream] using hu) (by simp [State.inFlight]) o
  refine LoadInv.resolveStop (h2.of_same) (fun r hr => hst r ?_) (by simp [State.inFlight])
  simpa [State.stream] using hr

theorem LoadInv.dropTransaction {s : State} (h : LoadInv s) : LoadInv s.dropTransaction :=
  h.of_noTransaction (htx := by simp [State.dropTransaction])

/-! ## Changes of mastership -/

theorem LoadInv.settleTransaction {s : State} (h : LoadInv s) (new : MastState) : LoadInv (s.settleTransaction new) := by
  unfold State.settleTransaction
  split
  next => exact h
  next tx ht =>
    split
    next o _ => exact h.applyOutcome ht o
    next => split; exacts [h.applyOutcome ht .yielded, h.dropTransaction]

theorem State.settleTransaction_noTransaction (new : MastState) (s : State) :
    (s.settleTransaction new).engine.transaction = none := by
  unfold State.settleTransaction
  (repeat' split) <;> simp_all [State.dropTransaction]

theorem LoadInv.leaveLeading {s : State} (h : LoadInv s) (new : MastState) :
    LoadInv (s.leaveLeading new) ∧ (s.leaveLeading new).engine.transaction = none := by
  unfold State.leaveLeading
  split
  · exact ⟨LoadInv.settleTransaction (h.of_same (t := s.releaseLine) (htx := rfl)) new, State.settleTransaction_noTransaction _ _⟩
  next hne =>
    refine ⟨h, ?_⟩
    cases ht : s.engine.transaction with
    | none => rfl
    | some tx => exact absurd (h.served tx ht).1 hne

theorem LoadInv.loseLink {s : State} (h : LoadInv s) (hno : s.engine.transaction = none) (i : Sid) :
    LoadInv (s.loseLink i) := by
  have hfree (t : State) (ht : t.engine.transaction = none) : t.inFlight i = false := by simp [State.inFlight, ht]
  cases hi : s.stream i with
  | none => simpa [State.loseLink, hi] using h
  | some r =>
    have lost (hst : r.state = .armed ∨ r.state = .running ∨ r.state = .paused) :
        LoadInv ((s.halt i { r with trigger := none } .linkLost).resolveStop i) := by
      refine LoadInv.resolveStop (h.halt hi (by tauto) (by rfl) (by rfl) (hfree s hno) _) (fun r' hr' => ?_) (hfree _ hno)
      have : some { r with state := .halted, trigger := none, condition := some .linkLost } = some r' :=
        (State.setStream_stream_self i _ s).symm.trans hr'
      cases this
      simp
    cases hs : r.state with
    | armed | running | paused => simpa [State.loseLink, hi, hs] using lost (by simp [hs])
    | idle | halted | done => simpa [State.loseLink, hi, hs] using h

theorem LoadInv.loseAll {s : State} (h : LoadInv s) (hno : s.engine.transaction = none) : LoadInv s.loseAll :=
  (List.foldlRecOn (motive := fun t => LoadInv t ∧ t.engine.transaction = none) allSids _ ⟨h, hno⟩
    fun _ ht i _ => ⟨ht.1.loseLink ht.2 i, by simpa using ht.2⟩).1

theorem LoadInv.streamsFollow {s : State} (h : LoadInv s) (hno : s.engine.transaction = none) (new : MastState) :
    LoadInv (s.streamsFollow new) := by
  cases new with
  | offline | faulted => exact h.loseAll hno
  | leading => exact h.resyncAll
  | listening | following => exact h

@[simp] theorem State.planFollows_loadMap (new : MastState) (s : State) :
    (s.planFollows new).plan.loadMap = s.plan.loadMap := by
  unfold State.planFollows
  (repeat' split) <;> rfl

@[simp] theorem State.planFollows_transaction (new : MastState) (s : State) :
    (s.planFollows new).engine.transaction = s.engine.transaction := by
  unfold State.planFollows
  (repeat' split) <;> rfl

@[simp] theorem Mastership.b_withState (m : Mastership) (x : MastState) (k : Option Cause) :
    Mastership.b { m with state := x, lastCause := k } = m.b := rfl

theorem LoadInv.planFollows {s : State} (h : LoadInv s) (new : MastState) : LoadInv (s.planFollows new) := h.of_same

/-- A change of mastership keeps the load law and leaves no transaction in flight (R106). -/
theorem LoadInv.changeMastership {s : State} (h : LoadInv s) (new : MastState) (cause : Cause) :
    LoadInv (s.changeMastership new cause) ∧ (s.changeMastership new cause).engine.transaction = none := by
  obtain ⟨h1, hno⟩ := h.leaveLeading new
  have h2 := h1.of_noTransaction
    (t := (s.leaveLeading new).setMaster { (s.leaveLeading new).master with state := new, lastCause := some cause })
    (htx := hno)
  exact ⟨((h2.offer _).streamsFollow hno new).planFollows new, by simpa [State.changeMastership] using hno⟩

end Sys2Proof.Machine
end

section
/-! SUPPORT. The passing of time, the cycle plan and the link engine keep the load law. -/

set_option Elab.async false

namespace Sys2Proof.Machine

open Sys2Proof.Safety

/-! ## Boundaries, beacons, the passing of time -/

theorem LoadInv.setMaster {s : State} (h : LoadInv s) {m : Mastership} (hb : m.b = s.master.b := by rfl)
    (hst : m.state = s.master.state := by rfl) : LoadInv (s.setMaster m) :=
  h.of_core rfl hb (fun _ => rfl) fun tx ht => ⟨hst, tx, ht, rfl⟩

theorem LoadInv.answerWaiter {s : State} (h : LoadInv s) (w : Waiter) (b : Body) : LoadInv (s.answerWaiter w b) := h.of_same

theorem LoadInv.settleListen {s : State} (h : LoadInv s) (b : Body) : LoadInv (s.settleListen b) := by
  unfold State.settleListen
  split
  · exact h
  · exact LoadInv.answerWaiter h.setMaster _ b

theorem LoadInv.settleHandovers {s : State} (h : LoadInv s) (b : Body) : LoadInv (s.settleHandovers b) :=
  List.foldlRecOn s.master.handovers _ (LoadInv.setMaster h) fun _ ht w _ => ht.answerWaiter w b

theorem LoadInv.masterBoundary {s : State} (h : LoadInv s) : LoadInv s.masterBoundary := by
  unfold State.masterBoundary
  split
  · split
    · exact h.setMaster
    · split
      · exact (LoadInv.changeMastership h.setMaster _ _).1.settleListen _
      · exact h.setMaster
  · split
    · exact (LoadInv.changeMastership h.setMaster _ _).1
    · exact h.setMaster
  · exact h.setMaster
  · exact h
  · exact h

@[simp] theorem State.mapRecord_loadMap (f : CycleRecord → CycleRecord) (s : State) :
    (s.mapRecord f).plan.loadMap = s.plan.loadMap := rfl

@[simp] theorem State.enterStage_loadMap (st : Stage) (s : State) : (s.enterStage st).plan.loadMap = s.plan.loadMap := rfl

@[simp] theorem State.openRecord_loadMap (s : State) : s.openRecord.plan.loadMap = s.plan.loadMap := rfl

@[simp] theorem State.pointAt_loadMap (i : Sid) (s : State) : (s.pointAt i).plan.loadMap = s.plan.loadMap := rfl

@[simp] theorem State.noteLate_loadMap (n : Nat) (s : State) : (s.noteLate n).plan.loadMap = s.plan.loadMap := by
  unfold State.noteLate
  split <;> rfl

@[simp] theorem State.closeRecord_loadMap (s : State) : s.closeRecord.plan.loadMap = s.plan.loadMap := by
  unfold State.closeRecord
  split <;> simp

theorem LoadInv.noteLate {s : State} (h : LoadInv s) (n : Nat) : LoadInv (s.noteLate n) := h.of_same

theorem LoadInv.mapRecord {s : State} (h : LoadInv s) (f : CycleRecord → CycleRecord) : LoadInv (s.mapRecord f) := h.of_same

theorem LoadInv.enterStage {s : State} (h : LoadInv s) (st : Stage) : LoadInv (s.enterStage st) := h.of_same

theorem LoadInv.planBoundary {s : State} (h : LoadInv s) : LoadInv s.planBoundary := by
  unfold State.planBoundary
  split
  · exact h.of_same
  · exact h

theorem LoadInv.cycleBoundary {s : State} (h : LoadInv s) : LoadInv s.cycleBoundary := by
  have ht : LoadInv s.timeBoundary := h.of_same
  simp only [State.cycleBoundary]
  exact (ht.planBoundary.passCycleStarts _ _).masterBoundary

theorem LoadInv.realign {s : State} (h : LoadInv s) (c : Cycle) : LoadInv (s.realign c) := by
  simp only [State.realign]
  split
  · exact LoadInv.passCycleStarts h.of_same _ _
  · exact h.of_same

theorem LoadInv.follow {s : State} (h : LoadInv s) (u : UnitId) (c : Cycle) (cause : Cause) : LoadInv (s.follow u c cause) :=
  (LoadInv.changeMastership h.setMaster _ _).1.realign c

theorem LoadInv.faulted {s : State} (h : LoadInv s) (cause : Cause) : LoadInv (s.faulted cause) :=
  ((LoadInv.changeMastership h.setMaster _ _).1.settleListen _).settleHandovers _

theorem LoadInv.decideOutcome {s : State} (h : LoadInv s) (o : Outcome) (ph : Phase) : LoadInv (s.decideOutcome o ph) := by
  refine h.of_core rfl rfl (fun _ => rfl) fun tx ht => ⟨rfl, ?_⟩
  obtain ⟨tx', ht', rfl⟩ := Option.map_eq_some_iff.mp ht
  exact ⟨tx', ht', rfl⟩

theorem LoadInv.clash {s : State} (h : LoadInv s) (u : UnitId) (c : Cycle) : LoadInv (s.clash u c) := by
  simp only [State.clash]
  split
  · split
    · exact LoadInv.decideOutcome (LoadInv.offer h.setMaster _) _ _
    · exact LoadInv.offer h.setMaster _
  · exact (h.follow _ _ _).settleHandovers _

/-- A heard beacon keeps the load law (R111, R114 to R116, R123). -/
theorem LoadInv.beaconHeard {s : State} (h : LoadInv s) (u : UnitId) (c : Cycle) : LoadInv (s.beaconHeard u c) := by
  unfold State.beaconHeard
  split
  · split
    · exact h
    · exact h
    all_goals exact h.faulted _
  · split
    · exact h.setMaster
    · exact h.setMaster
    · exact (h.follow _ _ _).settleListen _
    · exact h.clash _ _
    · exact LoadInv.realign h.setMaster _

theorem LoadInv.elapse {s : State} (h : LoadInv s) (n : Nat) : LoadInv (s.elapse n) :=
  h.of_same (htx := by
    simp only [State.elapse, LinkEngine.silent, LinkEngine.active]
    split <;> rfl)

/-- The passing of time keeps the load law. -/
theorem LoadInv.passTime {s : State} (h : LoadInv s) (n : Nat) : LoadInv (s.passTime n) :=
  State.passTime_preserves (fun n _ h => h.elapse n) (fun _ h => h.cycleBoundary) (fun _ h => h.faulted _) n s h

theorem LoadInv.setHearing {s : State} (h : LoadInv s) (b : Bool) : LoadInv (s.setHearing b) := h.of_same (htx := rfl)

theorem LoadInv.passBusy {s : State} (h : LoadInv s) (n : Nat) : LoadInv (s.passBusy n) :=
  ((h.setHearing true).passTime n).setHearing _

theorem LoadInv.handoverEffect {s : State} (h : LoadInv s) : LoadInv s.handoverEffect :=
  (LoadInv.changeMastership h.setMaster _ _).1.settleHandovers _

/-! ## The cycle plan -/

/-- A grant of a leading part to a RUNNING stream (R38). -/
theorem LoadInv.grant {s : State} (h : LoadInv s) {i : Sid} {r : StreamRecord} (hi : s.stream i = some r)
    (hr : r.state = .running) (hlead : s.master.state = .leading) (size : Nat) : LoadInv (s.grant i r size) := by
  refine ⟨loadLaw_of_core h.law (by simp) (by simp) fun j => by simp [State.stream], fun tx ht => ⟨by simpa, ?_⟩⟩
  have hstream : tx.stream = i := by
    unfold State.grant at ht
    cases hd : r.defn.direction <;> simp only [hd] at ht <;> cases ht <;> rfl
  have hi' : s.streams[i.val] = some r := hi
  simp [State.stream, hstream, hi', StreamRecord.inUse, hr]

theorem State.serviceable_some {i : Sid} {r : StreamRecord} {s : State} (h : s.serviceable i = some r) :
    s.stream i = some r ∧ r.state = .running := by
  unfold State.serviceable at h
  split at h
  · simp at h
  · simpa [Option.filter_eq_some_iff] using h

theorem LoadInv.considerDue {s : State} (h : LoadInv s) (hlead : s.master.state = .leading) (i : Sid) :
    LoadInv (s.considerDue i).1 := by
  unfold State.considerDue
  split
  next => exact h
  next r hr =>
    obtain ⟨hi, hrun⟩ := State.serviceable_some hr
    have hres (n : Nat) : LoadInv (s.reserve i n) := h.of_same
    split
    · exact h.noteLate 1
    · split
      · exact h
      · exact h.offer _
      · split
        · exact h.grant hi hrun hlead _
        · split
          · exact (hres _).grant hi hrun hlead _
          · exact h.offer _

theorem LoadInv.considerDemand {s : State} (h : LoadInv s) (hlead : s.master.state = .leading) (i : Sid) :
    LoadInv (s.considerDemand i).1 := by
  unfold State.considerDemand
  split
  next => exact h
  next r hi =>
    have hres (n : Nat) : LoadInv (s.reserve i n) := h.of_same
    split
    next => exact h
    next hc =>
      have hrun : r.state = .running := by simp at hc; exact hc.1.2
      split
      · exact h
      · exact h
      · split
        · exact h
        · split
          · exact h.grant hi hrun hlead _
          · split
            · exact (hres _).grant hi hrun hlead _
            · exact h.offer _

theorem LoadInv.searchDemand {s : State} (h : LoadInv s) (hlead : s.master.state = .leading) (k : Nat) (i : Sid) :
    LoadInv (State.searchDemand k i s) := by
  induction k generalizing i s with
  | zero => exact h.enterStage _
  | succ k ih =>
    have hc := h.considerDemand hlead i
    have hm := State.considerDemand_master i s
    unfold State.searchDemand
    split <;> rename_i e <;> rw [e] at hc hm
    · exact hc.of_same
    · exact hc.enterStage _
    · exact ih (hc.mapRecord _) ((congrArg Mastership.state hm).trans hlead) _

theorem LoadInv.demandTurn {s : State} (h : LoadInv s) (hlead : s.master.state = .leading) : LoadInv s.demandTurn :=
  h.searchDemand hlead _ _

theorem LoadInv.serveDue {s : State} (h : LoadInv s) (hlead : s.master.state = .leading) (l : List Sid) :
    LoadInv (State.serveDue l s) := by
  induction l generalizing s with
  | nil => exact ((h.enterStage .demand).mapRecord _).demandTurn hlead
  | cons i l ih =>
    have hc := h.considerDue hlead i
    have hm := State.considerDue_master i s
    unfold State.serveDue
    split <;> rename_i e <;> rw [e] at hc hm
    · exact hc
    all_goals exact ih (hc.mapRecord _) ((congrArg Mastership.state hm).trans hlead)

theorem LoadInv.enterCyclic {s : State} (h : LoadInv s) (hlead : s.master.state = .leading) : LoadInv s.enterCyclic := by
  unfold State.enterCyclic
  split
  · exact h
  · exact ((h.enterStage .cyclic).mapRecord _).serveDue hlead _

theorem LoadInv.planContinues {s : State} (h : LoadInv s) (hlead : s.master.state = .leading) : LoadInv s.planContinues := by
  unfold State.planContinues
  split
  · exact (h.mapRecord _).serveDue hlead _
  · exact h.demandTurn hlead
  · exact h

/-! ## The link engine -/

/-- The transaction record changes, and stays the stream's. -/
theorem LoadInv.setTransaction {s : State} (h : LoadInv s) {tx tx' : Transaction} (ht : s.engine.transaction = some tx)
    (hs : tx'.stream = tx.stream) : LoadInv (s.setTransaction tx') :=
  h.of_core rfl rfl (fun _ => rfl) fun x hx => ⟨rfl, tx, ht, by cases hx; exact hs.symm⟩

theorem State.atPhase_some {ph : Phase} {b : Bool} {tx : Transaction} {s : State} (h : s.atPhase ph b = some tx) :
    s.master.state = .leading ∧ s.engine.transaction = some tx := by
  unfold State.atPhase at h
  split at h
  next hl => exact ⟨hl, (Option.filter_eq_some_iff.mp h).1⟩
  next => simp at h

theorem LoadInv.whenPhase {s : State} (h : LoadInv s) {ph : Phase} {b : Bool} {wait : State → State}
    {act : Transaction → State → State} (hw : ∀ s, LoadInv s → LoadInv (wait s))
    (ha : ∀ tx s, LoadInv s → s.engine.transaction = some tx → LoadInv (act tx s)) :
    LoadInv (s.whenPhase ph b wait act) := by
  unfold State.whenPhase
  split
  · dsimp only
    split
    next tx ht => exact ha tx _ (hw s h) (State.atPhase_some ht).2
    next => exact hw s h
  · exact h

theorem LoadInv.sendAtPhase {s : State} (h : LoadInv s) (ph : Phase) (chars : Transaction → State → List Byte)
    {note : Transaction → State → Transaction} (hn : ∀ tx s, (note tx s).stream = tx.stream) :
    LoadInv (s.sendAtPhase ph chars note) := by
  unfold State.sendAtPhase
  split
  · exact h
  · refine h.whenPhase (fun _ h => h.passTime _) fun tx s h ht => ?_
    have hb : LoadInv (s.beginFrame (chars (note tx s) s)) := h.of_same (htx := rfl)
    exact hb.setTransaction (tx := tx) ht (hn tx s)

theorem LoadInv.sentAtPhase {s : State} (h : LoadInv s) (ph : Phase) {act : Transaction → State → State}
    (ha : ∀ tx s, LoadInv s → s.engine.transaction = some tx → LoadInv (act tx s)) : LoadInv (s.sentAtPhase ph act) :=
  h.whenPhase (fun _ h => h.passTime _) ha

theorem LoadInv.endTransaction {s : State} (h : LoadInv s) : LoadInv s.endTransaction := by
  unfold State.endTransaction
  split
  next => exact h
  next tx ht =>
    split
    · exact h
    · exact (h.applyOutcome ht _).planContinues (by simpa using (h.served tx ht).1)

theorem LoadInv.silentReply {s : State} (h : LoadInv s) : LoadInv s.silentReply := by
  have hd := h.decideOutcome .silent .closing
  simp only [State.silentReply]
  split
  · exact hd.endTransaction
  · exact hd

theorem LoadInv.waitWindow {s : State} (h : LoadInv s) : LoadInv s.waitWindow := by
  unfold State.waitWindow
  split
  · exact h
  · exact h.passTime _

theorem LoadInv.closeWindow {s : State} (h : LoadInv s) : LoadInv s.closeWindow := by
  unfold State.closeWindow
  split
  · exact h
  · split
    · exact h.silentReply
    · exact h

theorem LoadInv.holdLevel {s : State} (h : LoadInv s) (n : Nat) : LoadInv (s.holdLevel n) := by
  unfold State.holdLevel
  split
  · exact h.passBusy n
  · split
    · exact LoadInv.passBusy (h.whenPhase (fun _ h => h.passBusy _) fun _ _ h _ => h.silentReply) _
    · exact h.passBusy n

theorem Transaction.readReply_stream (chars : List LinkChar) (tx : Transaction) : (tx.readReply chars).stream = tx.stream := by
  unfold Transaction.readReply Transaction.decide
  split <;> rfl

theorem Transaction.readCut_stream (tx : Transaction) : tx.readCut.stream = tx.stream := by
  unfold Transaction.readCut Transaction.decide
  split <;> rfl

theorem Transaction.readControl_stream (c : Option (Byte × Byte)) (tx : Transaction) : (tx.readControl c).stream = tx.stream := by
  simp only [Transaction.readControl]
  (repeat' split) <;> rfl

theorem Transaction.readEnd_stream (c : Option (Byte × Byte)) (rest : List LinkChar) (tx : Transaction) :
    (tx.readEnd c rest).stream = tx.stream := by
  unfold Transaction.readEnd Transaction.decide
  (repeat' split) <;> rfl

theorem LoadInv.takeFrame {s : State} (h : LoadInv s) (chars : List LinkChar) : LoadInv (s.takeFrame chars) := by
  unfold State.takeFrame
  split
  · exact h.beaconHeard _ _
  · split
    next tx ht =>
      refine h.setTransaction (State.atPhase_some ht).2 ?_
      split
      · exact tx.readCut_stream
      · exact tx.readReply_stream chars
    next => exact h

theorem LoadInv.frameStops {s : State} (h : LoadInv s) (whole : Bool) : LoadInv (s.frameStops whole) := by
  unfold State.frameStops
  split
  · exact h
  · exact h.passTime _

theorem LoadInv.dataBegins {s : State} (h : LoadInv s) (n : Nat) (c : Option (Byte × Byte)) : LoadInv (s.dataBegins n c) := by
  have heard : LoadInv ((s.passBusy n).setEngine { (s.passBusy n).engine with hearing := true, control := c }) :=
    LoadInv.of_same (h.passBusy n) (htx := rfl)
  simp only [State.dataBegins]
  split
  next tx _ ht => exact heard.setTransaction (State.atPhase_some ht).2 (tx.readControl_stream c)
  next => exact heard

theorem LoadInv.dataEnds {s : State} (h : LoadInv s) (n : Nat) (rest : List LinkChar) : LoadInv (s.dataEnds n rest) := by
  unfold State.dataEnds
  extract_lets c t
  have hb : LoadInv (s.passBusy n).endHearing := LoadInv.of_same (h.passBusy n) (htx := rfl)
  have ht : LoadInv t := hb.frameStops _
  split
  · split
    next tx hx => exact ht.setTransaction (State.atPhase_some hx).2 (tx.readEnd_stream _ _)
    next => exact ht
  · split
    next tx hx => exact ht.setTransaction (State.atPhase_some hx).2 tx.readCut_stream
    next => exact ht

theorem LoadInv.hearShort {s : State} (h : LoadInv s) (n : Nat) (chars : List LinkChar) : LoadInv (s.hearShort n chars) := by
  have ht := (h.passBusy n).frameStops (frameWhole chars)
  simp only [State.hearShort]
  split
  · exact ht
  · exact ht.takeFrame chars

theorem LoadInv.hearChars {s : State} (h : LoadInv s) (times : List LinkTime) : LoadInv (s.hearChars times) := by
  unfold State.hearChars
  split
  · split
    · exact (h.dataBegins _ _).dataEnds _ _
    · exact h.hearShort _ _
  · exact h.hearShort _ _

theorem LoadInv.hearFrame {s : State} (h : LoadInv s) (times : List LinkTime) : LoadInv (s.hearFrame times) := by
  unfold State.hearFrame
  split
  · exact h.holdLevel _
  · exact h.closeWindow.hearChars _

theorem LoadInv.hearAll {s : State} (h : LoadInv s) (times : List LinkTime) : LoadInv (s.hearAll times) :=
  List.foldlRecOn (framesOf times) _ h fun _ ht f _ => ht.hearFrame f

theorem LoadInv.frameHeard {s : State} (h : LoadInv s) (n : Nat) (times : List LinkTime) : LoadInv (s.frameHeard n times) := by
  unfold State.frameHeard
  split
  · exact h
  · exact (h.passTime n).hearAll times

theorem LoadInv.lengthRead {s : State} (h : LoadInv s) (n : Nat) (c : Option (Byte × Byte)) : LoadInv (s.lengthRead n c) := by
  unfold State.lengthRead
  split
  · exact h
  · exact (h.passTime n).closeWindow.dataBegins _ _

theorem LoadInv.dataFrameEnd {s : State} (h : LoadInv s) (n : Nat) (rest : List LinkChar) : LoadInv (s.dataFrameEnd n rest) :=
  (h.closeWindow.dataEnds _ _).hearAll _

theorem State.opening_some {c : CycleRecord} {s : State} (h : s.opening = some c) : s.master.state = .leading := by
  unfold State.opening at h
  split at h
  next hl => exact hl.1
  next => simp at h

theorem LoadInv.openCycle {s : State} (h : LoadInv s) : LoadInv s.openCycle := by
  unfold State.openCycle
  split
  · exact h
  · split
    · exact h.handoverEffect
    · extract_lets at0 t t'
      have ht' : LoadInv t' := by
        simp only [t']
        split
        · exact (h.mapRecord _).noteLate 0
        · exact h.mapRecord _
      exact ht'.of_same (htx := rfl)

theorem LoadInv.beaconGrant {s : State} (h : LoadInv s) : LoadInv s.beaconGrant := by
  unfold State.beaconGrant
  split
  · exact h
  · split
    · exact h
    · exact (h.passTime _).openCycle

theorem LoadInv.cyclicPhaseStart {s : State} (h : LoadInv s) : LoadInv s.cyclicPhaseStart := by
  unfold State.cyclicPhaseStart
  split
  · dsimp only
    split
    next hb =>
      obtain ⟨c, hc, -⟩ := (Option.any_eq_true _ _).mp hb
      exact LoadInv.enterCyclic (h.passTime _) (State.opening_some hc)
    next => exact h.passTime _
  · exact h

theorem LoadInv.holdLine {s : State} (h : LoadInv s) : LoadInv s.holdLine := by
  unfold State.holdLine
  split
  · exact h.holdLevel _
  · exact h

end Sys2Proof.Machine
end

section
/-! SUPPORT. The requests, the command port and every command keep the load law; O11. -/

set_option Elab.async false

namespace Sys2Proof.Machine

open Sys2Proof.Safety

/-! ## The requests of the stream table -/

theorem withStream_loadInv {s : State} (h : LoadInv s) (sid : Byte) {k : Sid → StreamRecord → State → Executed}
    (hk : ∀ i r, s.stream i = some r → LoadInv (k i r s).1) : LoadInv (withStream sid k s).1 := by
  unfold withStream
  split
  · exact h
  · split
    · exact h
    next r hr => exact hk _ r hr

@[simp] theorem State.reply_fst (b : Body) (s : State) : (s.reply b).1 = s := rfl

@[simp] theorem loadOf_none (e : Nat) : loadOf e none = 0 := rfl

/-- A record without load adds nothing to the map. -/
theorem loadOf_of_free {r : StreamRecord} {e : Nat} (h : r.holdsLoad = false) : loadOf e (some r) = 0 := by
  simp only [loadOf, h]
  split <;> simp

/-- Fields that R3 accepts define a stream at a period and phase of R3. -/
theorem placeRight_defined {f : DefineFields} (h : defineFirstBad f = none) :
    placeRight (newRecordOf (defineDefinition f)) = true := by
  have hall : ∀ c ∈ defineChecks f, c.2 = true := by
    simpa [defineFirstBad, List.find?_eq_none] using h
  have check (k : Nat) (hk : k < 16) : ((defineChecks f)[k]'(hk)).2 = true := hall _ (List.getElem_mem _)
  have h7 : (!(f.kind == 1) || periods.contains f.period.toNat) = true := check 5 (by decide)
  have h8 : (!(f.kind == 1) || decide (f.phase.toNat < f.period.toNat)) = true := check 6 (by decide)
  by_cases h1 : f.kind = 1
  · simp only [h1, beq_self_eq_true, Bool.not_true, Bool.false_or] at h7 h8
    simp only [placeRight, newRecordOf, defineDefinition, defineKind, h1, if_true, Option.getD_some, h7, h8, Bool.and_self]
  · have hkind : (newRecordOf (defineDefinition f)).defn.kind = .demand := by
      simp only [newRecordOf, defineDefinition, defineKind, if_neg h1]
      split <;> rfl
    simp only [placeRight, hkind]

theorem LoadInv.defineStream {s : State} (h : LoadInv s) (f : DefineFields) : LoadInv (defineStream f s).1 := by
  unfold Machine.defineStream
  split
  next => exact h
  next i _ =>
    split
    next => exact h
    next hfree =>
      have hi : s.stream i = none := by simpa using hfree
      split
      next => exact h
      next hbad =>
        refine LoadInv.renew ?_ i
        refine h.reload i (h.notInFlight_free hi) (fun j hj => ?_) (fun e => ?_) h.law.2.1 ?_ ?_
        · simp [State.setStream_stream_ne (Ne.symm hj)]
        · have hnew : loadOf e.val (some (newRecordOf (defineDefinition f))) = 0 := loadOf_of_free rfl
          simp [hi, hnew]
        · simp [holdsRight, newRecordOf]
        · simpa using placeRight_defined hbad

/-- A START that the load check admits keeps every entry within the budget (R70). -/
theorem fullEntry_none {period phase cost budget : Nat} {p : Plan} (h : p.fullEntry period phase cost budget = none)
    (e : Fin 256) (he : loadEntryOf period phase e.val = true) : p.loadMap[e] + cost ≤ budget := by
  have := List.find?_eq_none.mp h e (List.mem_finRange e)
  simpa [he] using this

/-- What an admitted stream adds to the load map (R70). -/
theorem State.admitLoad_loadMap (d : StreamDef) (s : State) (e : Fin 256) {r : StreamRecord} (hd : r.defn = d)
    (hl : r.holdsLoad = !d.isDemand) :
    (s.admitLoad d).plan.loadMap[e] = s.plan.loadMap[e] + loadOf e.val (some r) := by
  subst hd
  unfold State.admitLoad
  split
  next hk => simp [loadOf, hk]
  next p f hk =>
    simp only [State.setPlan_plan, Plan.addLoad_loadMap, loadOf, hk, hl, StreamDef.isDemand]
    split <;> simp_all

theorem State.admitLoad_budget {d : StreamDef} {s : State} (h : LoadLaw s) (ha : s.admissionFault d = none) (e : Fin 256) :
    (s.admitLoad d).plan.loadMap[e] ≤ s.master.b := by
  have hb := h.2.1 e
  unfold State.admitLoad
  split
  next => exact hb
  next p f hk =>
    simp only [State.admissionFault, hk, Option.map_eq_none_iff] at ha
    rw [State.setPlan_plan, Plan.addLoad_loadMap]
    split
    next he => exact fullEntry_none ha e he
    next => exact hb

theorem LoadInv.startStream {s : State} (h : LoadInv s) {i : Sid} {r : StreamRecord} (hi : s.stream i = some r)
    (hst : r.state = .idle ∨ r.state = .done) (ha : s.admissionFault r.defn = none) (t : StartTrigger) (total : Nat) :
    LoadInv (s.startStream i r t total) := by
  have hfree := h.notInFlight hi (by rcases hst with hst | hst <;> simp [StreamRecord.inUse, hst])
  have hzero (e : Nat) : loadOf e (some r) = 0 := by
    have hrest : (r.state == .armed || r.state == .running || r.state == .paused || r.state == .halted) = false := by
      rcases hst with hst | hst <;> rw [hst] <;> rfl
    exact loadOf_of_free (by simpa [holdsRight, hrest] using h.holds hi)
  have hadmit (e : Fin 256) := State.admitLoad_loadMap r.defn s e (r := r.started t total) rfl rfl
  have hstarted : LoadInv (((s.admitLoad r.defn).setStream i (some (r.started t total))).clearHeld i) := by
    refine h.reload i hfree (fun j hj => ?_) (fun e => ?_) (fun e => ?_) ?_ ?_
    · simp only [State.stream, State.clearHeld_streams]
      exact (State.setStream_stream_ne (Ne.symm hj) _ _).trans (by simp [State.stream])
    · have hself : ((((s.admitLoad r.defn).setStream i (some (r.started t total))).clearHeld i).stream i) =
          some (r.started t total) := State.setStream_stream_self _ _ _
      rw [hself, hi, hzero, State.clearHeld_plan, State.setStream_plan, hadmit]
      omega
    · simpa using State.admitLoad_budget h.law ha e
    · have : holdsRight (r.started t total) = true := by
        cases t <;> cases hdem : r.defn.isDemand <;> simp [holdsRight, StreamRecord.started, hdem]
      simpa [State.clearHeld] using this
    · have hp := h.place hi
      have : placeRight (r.started t total) = true := by simpa only [placeRight, StreamRecord.started] using hp
      simpa [State.clearHeld] using this
  unfold State.startStream
  cases t with
  | now => exact (hstarted.renew i).offerRefill i _
  | arm _ => exact hstarted.renew i

theorem LoadInv.startRequest {s : State} (h : LoadInv s) (sid kind : Byte) (value : BitVec 16) (total : BitVec 32) :
    LoadInv (startRequest sid kind value total s).1 := by
  refine withStream_loadInv h sid fun i r hi => ?_
  have started (hst : r.state = .idle ∨ r.state = .done) (t : StartTrigger) :
      LoadInv (match s.admissionFault r.defn with
        | some (e, v) => s.reply (noLoad e v)
        | none => (s.startStream i r t total.toNat).reply (done [])).1 := by
    split
    · exact h
    next ha => exact h.startStream hi hst ha t _
  split
  case h_1 hs | h_2 hs =>
    split
    · exact h
    · split
      · exact h
      · split
        · exact h
        · exact started (by simp [hs]) _
  case h_3 | h_4 | h_5 | h_6 => exact h

theorem LoadInv.stopRequest {s : State} (h : LoadInv s) (tag sid : Byte) : LoadInv (stopRequest tag sid s).1 := by
  refine withStream_loadInv h sid fun i r hi => ?_
  have hr := h.holds hi
  have halted (hst : r.state = .running ∨ r.state = .paused) :
      LoadInv (if s.inFlight i then
          (s.setStream i (some { r with stopPending := true, stopTags := r.stopTags ++ [tag] }), none)
        else (s.halt i r .stopped).reply (done []) : Executed).1 := by
    split
    · exact h.setStream_core hi rfl
    next hf => exact h.halt hi (by tauto) rfl rfl (by simpa using hf) _
  split
  case h_1 | h_5 | h_6 => exact h
  case h_3 hs | h_4 hs => exact halted (by simp [hs])
  case h_2 hs =>
    simp only [State.reply]
    have hself := State.setStream_stream_self i (some { r with state := .idle, trigger := none }) s
    rw [State.releaseLoad_eq hself, State.setStream_setStream]
    refine h.unload hi (h.notInFlight hi (by simp [StreamRecord.inUse, hs])) (fun r' hr' => ?_) (fun j hj => ?_) ?_
    · have hnone : (r.holdsLoad && r.defn.isDemand) = false := by
        cases hdem : r.defn.isDemand <;> simp_all [holdsRight]
      simp only [State.setPlan_stream, State.setStream_stream_self, Option.some.injEq] at hr'
      subst hr'
      simp [hnone, holdsRight]
    · simp [State.setStream_stream_ne (Ne.symm hj)]
    · rfl

theorem LoadInv.pauseRequest {s : State} (h : LoadInv s) (sid : Byte) : LoadInv (pauseRequest sid s).1 := by
  refine withStream_loadInv h sid fun i r hi => ?_
  split
  case h_1 hs => exact h.stayInUse hi (by simp [StreamRecord.inUse, hs]) (r' := { r with state := .paused }) rfl rfl rfl
  all_goals exact h

theorem LoadInv.unpauseRequest {s : State} (h : LoadInv s) (sid : Byte) : LoadInv (unpauseRequest sid s).1 := by
  refine withStream_loadInv h sid fun i r hi => ?_
  split
  case h_1 hs => exact h.stayInUse hi (by simp [StreamRecord.inUse, hs]) (r' := { r with state := .running }) rfl rfl rfl
  all_goals exact h

theorem LoadInv.resumeRequest {s : State} (h : LoadInv s) (sid : Byte) : LoadInv (resumeRequest sid s).1 := by
  refine withStream_loadInv h sid fun i r hi => ?_
  have hr := h.holds hi
  split
  case h_1 hs =>
    refine LoadInv.offerRefill ?_ _ _
    exact h.restream hi (r' := { r with state := .running, failures := 0, lastFailure := none, condition := none })
      rfl rfl (by simpa [holdsRight, hs] using hr) (.inl rfl)
  all_goals exact h

theorem LoadInv.resetStreamRequest {s : State} (h : LoadInv s) (sid : Byte) : LoadInv (resetStreamRequest sid s).1 := by
  refine withStream_loadInv h sid fun i r hi => ?_
  have hreset (hst : r.state = .halted ∨ r.state = .done) :
      LoadInv (((s.releaseLoad i).setStream i (some r.resetRun)).clearHeld i) := by
    have hfree := h.notInFlight hi (by rcases hst with hst | hst <;> simp [StreamRecord.inUse, hst])
    rw [State.releaseLoad_eq hi]
    refine h.unload hi hfree (fun r' hr' => ?_) (fun j hj => ?_) ?_
    · have : some r.resetRun = some r' := (State.setStream_stream_self _ _ _).symm.trans hr'
      cases this
      simp [StreamRecord.resetRun, holdsRight]
    · simp [State.clearHeld, State.setStream_stream_ne (Ne.symm hj)]
    · simp
  split
  case h_1 hs | h_2 hs => exact hreset (by simp [hs])
  all_goals exact h

theorem LoadInv.releaseRequest {s : State} (h : LoadInv s) (sid : Byte) : LoadInv (releaseRequest sid s).1 := by
  refine withStream_loadInv h sid fun i r hi => ?_
  have hreleased (hst : r.state = .idle ∨ r.state = .halted ∨ r.state = .done) :
      LoadInv ((((s.freeChain i).releaseLoad i).setStream i none).renew i) := by
    have hfree := h.notInFlight hi (by rcases hst with hst | hst | hst <;> simp [StreamRecord.inUse, hst])
    have hi' : (s.freeChain i).stream i = some r := hi
    rw [State.releaseLoad_eq hi']
    refine LoadInv.renew (h.unload hi hfree (fun r' hr' => ?_) (fun j hj => ?_) ?_) i
    · rw [State.setStream_stream_self] at hr'
      cases hr'
    · simp [State.freeChain, State.setStream_stream_ne (Ne.symm hj)]
    · simp
  split
  case h_1 hs | h_2 hs | h_3 hs => exact hreleased (by simp [hs])
  all_goals exact h

theorem LoadInv.refillRequest {s : State} (h : LoadInv s) (sid : Byte) (n : BitVec 32) :
    LoadInv (refillRequest sid n s).1 := by
  refine withStream_loadInv h sid fun i r hi => ?_
  have written : LoadInv (if Config.maxTotal < r.total + n.toNat then s.reply (badForm 2) else
      (s.setStream i (some { r with total := r.total + n.toNat, residue := r.residue + n.toNat })).reply (done [])).1 := by
    split
    · exact h
    · exact h.setStream_core hi rfl
  split
  · exact h
  · split
    case h_1 | h_2 | h_3 => exact written
    all_goals exact h

/-! ## The requests of the other blocks -/

theorem LoadInv.configureLink {s : State} (h : LoadInv s) (rate : Byte) (c : BitVec 16) (share timeout : Byte) :
    LoadInv (configureLink rate c share timeout s).1 := by
  unfold Machine.configureLink
  split
  next => exact h
  next hoff =>
    simp only [not_or, not_not, Vector.any_eq_true, not_exists] at hoff
    obtain ⟨hstate, hmap⟩ := hoff
    have hzero (e : Fin 256) : s.plan.loadMap[e] = 0 := by simpa using hmap e.val e.isLt
    split
    · exact h
    · obtain ⟨⟨hsum, -, hholds, hplace⟩, hserved⟩ := h
      refine ⟨⟨hsum, fun e => ?_, hholds, hplace⟩, fun tx ht => ?_⟩
      · exact (hzero e).le.trans (Nat.zero_le _)
      · exact absurd (hserved tx ht).1 (by simp [hstate])

theorem LoadInv.linkUp {s : State} (h : LoadInv s) (tag : Byte) : LoadInv (linkUp tag s).1 := by
  unfold Machine.linkUp
  split
  · dsimp only
    exact (LoadInv.changeMastership h.setMaster _ _).1
  · exact h

theorem LoadInv.linkDown {s : State} (h : LoadInv s) : LoadInv (linkDown s).1 := by
  unfold Machine.linkDown
  split
  · exact h
  · dsimp only [State.reply]
    exact ((LoadInv.changeMastership h.setMaster _ _).1.settleListen _).settleHandovers _

theorem LoadInv.handoverRequest {s : State} (h : LoadInv s) (tag : Byte) : LoadInv (handoverRequest tag s).1 := by
  unfold Machine.handoverRequest
  split
  · exact h.setMaster
  · exact h

/-- Every request's block keeps the load law. -/
theorem LoadInv.bodyEffect {s : State} (h : LoadInv s) (k : ReqKind) (tag : Byte) (b : List Byte) :
    LoadInv (bodyEffect k tag b s).1 := by
  cases k with
  | openSession => exact h
  | restart => exact h.abandonRequests.setPort _
  | ackReports | resendReports | linkStatus | streamStatus | put | take | flush | poolStatus | loadQuery | setCapture
  | takeCaptures | scheduleMark | cancelMarks | forceMark | timeStatus =>
    simp only [Machine.bodyEffect]
    exact h.of_same
  | configureLink => exact h.configureLink _ _ _ _
  | linkUp => exact h.linkUp tag
  | linkDown => exact h.linkDown
  | handover => exact h.handoverRequest tag
  | define => exact h.defineStream _
  | start => exact h.startRequest _ _ _ _
  | stop => exact h.stopRequest tag _
  | pause => exact h.pauseRequest _
  | unpause => exact h.unpauseRequest _
  | resume => exact h.resumeRequest _
  | resetStream => exact h.resetStreamRequest _
  | release => exact h.releaseRequest _
  | refill => exact h.refillRequest _ _

/-! ## The command port -/

theorem LoadInv.enterWindow {k tag : Byte} {x : Executed} (h : LoadInv x.1) : LoadInv (State.enterWindow k tag x) := by
  obtain ⟨s, body⟩ := x
  cases body <;> exact h.setPort _

theorem LoadInv.request {s : State} (h : LoadInv s) (k : ReqKind) (retry : Bool) (tag : Byte) {effect : State → Executed}
    (he : LoadInv (effect s).1) : LoadInv (request k retry tag effect s) := by
  unfold Machine.request
  split
  · exact h
  · split
    · exact h.setPort _
    · split
      · exact h
      · exact h.setPort _
      · exact h.setPort _
      · exact he.enterWindow

theorem LoadInv.openRequest {s : State} (h : LoadInv s) (retry : Bool) (tag : Byte) (body : List Byte) :
    LoadInv (openRequest retry tag body s) := by
  unfold Machine.openRequest
  split
  · exact h
  · split
    · exact h
    · split
      · exact h.setPort _
      · split
        · exact ((h.abandonRequests.setPort _).setReports _).setPort _
        · exact h.setPort _

theorem LoadInv.disposeFrame {s : State} (h : LoadInv s) (flags kind tag : Byte) (body : List Byte) :
    LoadInv (disposeFrame flags kind tag body s) := by
  have himproper : LoadInv (s.improper kind tag) := by
    unfold State.improper
    split
    · exact h
    · exact h.setPort _
  unfold Machine.disposeFrame
  split
  · exact h.openRequest _ _ _
  · refine h.request _ _ _ ?_
    unfold requestEffect
    split
    · exact h
    · exact h.bodyEffect _ _ _
  · exact himproper
  · exact himproper

theorem LoadInv.abandonCandidate {s : State} (h : LoadInv s) (k : PortErrorKind) : LoadInv (s.abandonCandidate k) :=
  (h.setPort _).offer _

theorem LoadInv.judge {s : State} (h : LoadInv s) : LoadInv s.judge := by
  unfold State.judge
  split
  · split
    · exact h.abandonCandidate _
    · split
      · exact h
      · split
        · exact (h.setPort _).disposeFrame _ _ _ _
        · exact h.abandonCandidate _
  · exact h

theorem LoadInv.examine {s : State} (h : LoadInv s) (b : RxByte) : LoadInv (s.examine b) := by
  unfold State.examine
  split
  · exact h
  · exact (h.setPort _).judge

theorem LoadInv.examinePending {s : State} (h : LoadInv s) (k : Nat) : LoadInv (State.examinePending k s) := by
  induction k generalizing s with
  | zero => exact h
  | succ k ih =>
    unfold State.examinePending
    split
    · exact ih ((h.setPort _).examine _)
    · split
      · exact ih (h.abandonCandidate _)
      · exact h

theorem LoadInv.byteArrives {s : State} (h : LoadInv s) (after : Nat) (b : Byte) : LoadInv (s.byteArrives after b) :=
  LoadInv.examinePending (LoadInv.examine ((h.passTime after).examinePending _) _) _

theorem LoadInv.candidateGap {s : State} (h : LoadInv s) : LoadInv s.candidateGap := by
  unfold State.candidateGap
  split
  · exact h
  · exact LoadInv.examinePending (LoadInv.abandonCandidate (h.passTime _) _) _

/-- Every block at its reset values: no stream, no load. -/
theorem LoadInv.afterReset (baud : Baud) (unit : UnitId) (epoch : Byte) (cause : HelloCause) (clock : Nat)
    (pending : List Instr) : LoadInv (State.afterReset baud unit epoch cause clock pending) := by
  have hfree (i : Sid) : (State.afterReset baud unit epoch cause clock pending).stream i = none := by
    simp [State.stream, State.afterReset]
  have hzero (e : Fin 256) : (State.afterReset baud unit epoch cause clock pending).plan.loadMap[e] = 0 := by
    simp [State.afterReset, Plan.reset]
  refine ⟨⟨fun e => ?_, fun e => ?_, fun i => by simp [hfree], fun i => by simp [hfree]⟩, fun tx ht => ?_⟩
  · rw [hzero]
    simp [hfree, loadOf, allSids]
  · rw [hzero]
    exact Nat.zero_le _
  · simp [State.afterReset, LinkEngine.reset] at ht

theorem LoadInv.chooseFrame {s : State} (h : LoadInv s) : LoadInv s.chooseFrame := h.of_same

theorem LoadInv.transmitEnd {s : State} (h : LoadInv s) : LoadInv s.transmitEnd := by
  unfold State.transmitEnd
  split
  · exact h.chooseFrame
  · split
    · exact .afterReset _ _ _ _ _ _
    · exact LoadInv.chooseFrame (h.passTime _)

theorem LoadInv.restartEnd {s : State} (h : LoadInv s) : LoadInv s.restartEnd := by
  unfold State.restartEnd
  split
  · exact h
  · split
    · exact .afterReset _ _ _ _ _ _
    · exact h

/-! ## Captures and marks -/

theorem LoadInv.edge {s : State} (h : LoadInv s) (k : Line) (rise : Bool) : LoadInv (s.edge k rise) := by
  unfold State.edge
  split
  · exact LoadInv.triggerAll h.of_same fun _ => StreamRecord.armed_of_armedOn
  · exact h

theorem LoadInv.sample {s : State} (h : LoadInv s) (changed level : BitVec 4) : LoadInv (s.sample changed level) := by
  refine List.foldlRecOn allLines _ (LoadInv.of_same h) fun t ht k _ => ?_
  split
  · exact ht.edge k _
  · exact ht

theorem LoadInv.sampleAfter {s : State} (h : LoadInv s) (n : Nat) (changed level : BitVec 4) :
    LoadInv (s.sampleAfter n changed level) :=
  LoadInv.sample ((h.passTime n).passTime _) _ _

theorem LoadInv.runToMark {s : State} (h : LoadInv s) (k : Line) : LoadInv (s.runToMark k) := by
  unfold State.runToMark
  split
  · exact h
  · split
    · exact h.passTime _
    · exact h

theorem LoadInv.runToPulseEnd {s : State} (h : LoadInv s) (k : Line) : LoadInv (s.runToPulseEnd k) := by
  unfold State.runToPulseEnd
  split
  · exact h
  · split
    · exact h.passTime _
    · exact h

theorem LoadInv.sendHeader {s : State} (h : LoadInv s) : LoadInv s.sendHeader := by
  unfold State.sendHeader
  exact h.sendAtPhase _ _ fun _ _ => rfl

theorem LoadInv.sendData {s : State} (h : LoadInv s) : LoadInv s.sendData := by
  unfold State.sendData
  exact h.sendAtPhase _ _ fun _ _ => rfl

theorem LoadInv.sendTaken {s : State} (h : LoadInv s) : LoadInv s.sendTaken := by
  unfold State.sendTaken
  exact h.sendAtPhase _ _ fun _ _ => rfl

theorem LoadInv.frameSent {s : State} (h : LoadInv s) {tx : Transaction} (ht : s.engine.transaction = some tx) (ph : Phase) :
    LoadInv (s.frameSent tx ph) := h.setTransaction ht (by rfl)

theorem LoadInv.headerSent {s : State} (h : LoadInv s) : LoadInv s.headerSent := by
  unfold State.headerSent
  exact h.sentAtPhase _ fun tx _ h ht => h.frameSent ht _

theorem LoadInv.dataSent {s : State} (h : LoadInv s) : LoadInv s.dataSent := by
  unfold State.dataSent
  exact h.sentAtPhase _ fun tx _ h ht => h.frameSent ht _

theorem LoadInv.takenSent {s : State} (h : LoadInv s) : LoadInv s.takenSent := by
  unfold State.takenSent
  exact h.sentAtPhase _ fun _ _ h _ => h.decideOutcome _ _

theorem LoadInv.transactionEnd {s : State} (h : LoadInv s) : LoadInv s.transactionEnd := by
  unfold State.transactionEnd
  split
  · exact LoadInv.endTransaction (h.passTime _)
  · exact h

theorem LoadInv.windowExpiry {s : State} (h : LoadInv s) : LoadInv s.windowExpiry := by
  unfold State.windowExpiry
  split
  · exact h
  · exact h.whenPhase (fun _ h => h.waitWindow) fun _ _ h _ => h.silentReply

/-! ## Every command, every step -/

/-- The commands that take effect while the part runs. -/
theorem LoadInv.whenRunning {s t : State} (h : LoadInv s) {f : State → State} (hf : LoadInv (f s))
    (ht : whenRunning f s = .next t) : LoadInv t := by
  simp only [Machine.whenRunning, Host.Outcome.next.injEq] at ht
  subst ht
  split
  · exact h
  · exact hf

theorem LoadInv.exec {s t : State} (h : LoadInv s) {c : Instr} (ht : exec c s = .next t) : LoadInv t := by
  cases c with
  | resetNRelease => cases ht; exact .afterReset _ _ _ _ _ _
  | hardReset => exact h.whenRunning (h.of_same (t := s.heldInReset) rfl rfl rfl rfl) ht
  | commandByteReceived after b => exact h.whenRunning (h.byteArrives after b) ht
  | candidateGap => exact h.whenRunning h.candidateGap ht
  | openSession retry tag body => exact h.whenRunning (h.openRequest retry tag body) ht
  | restart => exact h.whenRunning (h.request _ _ _ (h.abandonRequests.setPort _)) ht
  | ackReports | resendReports | linkStatus | streamStatus | put | take | flush | poolStatus | loadQuery | setCapture
  | takeCaptures | scheduleMark | cancelMarks | forceMark | timeStatus =>
    exact h.whenRunning (h.request _ _ _ h.of_same) ht
  | configureLink => exact h.whenRunning (h.request _ _ _ (h.configureLink _ _ _ _)) ht
  | linkUp retry tag => exact h.whenRunning (h.request _ _ _ (h.linkUp tag)) ht
  | linkDown => exact h.whenRunning (h.request _ _ _ h.linkDown) ht
  | handover retry tag => exact h.whenRunning (h.request _ _ _ (h.handoverRequest tag)) ht
  | define retry tag f => exact h.whenRunning (h.request _ _ _ (h.defineStream f)) ht
  | start => exact h.whenRunning (h.request _ _ _ (h.startRequest _ _ _ _)) ht
  | stop retry tag sid => exact h.whenRunning (h.request _ _ _ (h.stopRequest tag sid)) ht
  | pause retry tag sid => exact h.whenRunning (h.request _ _ _ (h.pauseRequest sid)) ht
  | unpause retry tag sid => exact h.whenRunning (h.request _ _ _ (h.unpauseRequest sid)) ht
  | resume retry tag sid => exact h.whenRunning (h.request _ _ _ (h.resumeRequest sid)) ht
  | resetStream retry tag sid => exact h.whenRunning (h.request _ _ _ (h.resetStreamRequest sid)) ht
  | release retry tag sid => exact h.whenRunning (h.request _ _ _ (h.releaseRequest sid)) ht
  | refill retry tag sid n => exact h.whenRunning (h.request _ _ _ (h.refillRequest sid n)) ht
  | transmitFrameEnd => exact h.whenRunning h.transmitEnd ht
  | restartReset => exact h.whenRunning h.restartEnd ht
  | cycleBoundary => exact h.whenRunning (h.passTime _) ht
  | listenEnd | takeover =>
    refine h.whenRunning ?_ ht
    split
    · exact h.passTime _
    · exact h
  | markFires k => exact h.whenRunning (h.runToMark k) ht
  | pulseEnd k => exact h.whenRunning (h.runToPulseEnd k) ht
  | captureEdge n changed level => exact h.whenRunning (h.sampleAfter n changed level) ht
  | beaconGrant => exact h.whenRunning h.beaconGrant ht
  | cyclicPhaseStart => exact h.whenRunning h.cyclicPhaseStart ht
  | headerSend => exact h.whenRunning h.sendHeader ht
  | headerSent => exact h.whenRunning h.headerSent ht
  | dataFrameSend => exact h.whenRunning h.sendData ht
  | dataFrameSent => exact h.whenRunning h.dataSent ht
  | replyWindowExpiry => exact h.whenRunning h.windowExpiry ht
  | nodeAnswerReceived | beaconReceived | ignoredFrame => exact h.whenRunning (h.frameHeard _ _) ht
  | dataLengthRead => exact h.whenRunning (h.lengthRead _ _) ht
  | inboundDataFrameEnd => exact h.whenRunning (h.dataFrameEnd _ _) ht
  | takenSend => exact h.whenRunning h.sendTaken ht
  | takenSent => exact h.whenRunning h.takenSent ht
  | transactionEnd => exact h.whenRunning h.transactionEnd ht
  | stuckLine => exact h.whenRunning h.holdLine.holdLine ht

theorem LoadInv.step {s t : State} (h : LoadInv s) (ht : step s = .next t) : LoadInv t := by
  unfold Machine.step at ht
  split at ht
  · exact LoadInv.exec (s := s.setPending _) h.of_same ht
  · unfold stepIdle at ht
    split at ht
    · exact h.exec ht
    · cases ht
      unfold State.tick
      split
      · exact h
      · exact h.passTime 1

/-- Settles O11: the load law, together with the link law's facts about the transaction in flight, is kept by every command. -/
theorem loadLawKept : Obligations.LoadLawKept :=
  fun _ _ hlink hload hstep => (LoadInv.of_laws hlink hload).step hstep |>.law

end Sys2Proof.Machine
end

section
/-! SUPPORT. The requests of the stream table, state by state: O43, O44, O45, O46, O42, O41, O40, O23. -/

set_option Elab.async false

namespace Sys2Proof.Machine

open Sys2Proof.Safety

/-! ## A request that enters the window and is answered at once -/

/-- An entered request whose block answers at once and leaves the port to the window. -/
theorem entered_replies {k : ReqKind} {retry : Bool} {tag : Byte} {s t : State} {body : Body} {effect : State → Executed}
    (h : Entered k retry tag s) (he : effect s = t.reply body) (hp : t.port = s.port := by simp) :
    whenRunning (request k retry tag effect) s = .next (replied k tag body t) :=
  whenRunning_replied h he (by rw [hp]; exact h.2.1)

/-! ## UNPAUSE, RESUME, PAUSE, REFILL -/

theorem unpauseRequest_eq {sid : Byte} {i : Sid} {r : StreamRecord} {s : State} (hi : sid.toNat = i.val)
    (hr : s.stream i = some r) :
    unpauseRequest sid s =
      if r.state = .paused then (s.setStream i (some { r with state := .running })).reply (done []) else s.reply badState := by
  rw [unpauseRequest, withStream_some hi hr]
  split <;> simp [*]

theorem resumeRequest_eq {sid : Byte} {i : Sid} {r : StreamRecord} {s : State} (hi : sid.toNat = i.val)
    (hr : s.stream i = some r) :
    resumeRequest sid s =
      if r.state = .halted then
        ((s.setStream i (some { r with state := .running, failures := 0, lastFailure := none, condition := none })).setReports
          (if r.defn.endMode = .refill ∧ r.residue = 0 then s.reports.offer (.refillNeeded i) else s.reports)).reply
          (done [])
      else s.reply badState := by
  rw [resumeRequest, withStream_some hi hr]
  split
  next hs =>
    simp only [hs, if_true, State.offerRefill, StreamRecord.needsRefill, Bool.and_eq_true, beq_iff_eq]
    split <;> rfl
  all_goals simp [*]

/-- Settles O43, by the state of the stream. -/
theorem streamMoves : Obligations.StreamMoves := by
  refine ⟨fun retry tag sid i s h hi => ?_, fun retry tag sid i s h hi => ?_⟩
  · cases hr : s.stream i with
    | none => exact entered_replies h (withStream_none hi hr _)
    | some r =>
      have he := unpauseRequest_eq hi hr
      dsimp only
      split_ifs at he ⊢ <;> exact entered_replies h he
  · cases hr : s.stream i with
    | none => exact entered_replies h (withStream_none hi hr _)
    | some r =>
      have he := resumeRequest_eq hi hr
      dsimp only
      by_cases hs : r.state = .halted
      · rw [if_pos hs] at he ⊢
        exact entered_replies h he
      · rw [if_neg hs] at he ⊢
        exact entered_replies h he

theorem pauseRequest_eq {sid : Byte} {i : Sid} {r : StreamRecord} {s : State} (hi : sid.toNat = i.val)
    (hr : s.stream i = some r) :
    pauseRequest sid s =
      if r.state = .running then (s.setStream i (some { r with state := .paused })).reply (done [])
      else if r.state = .paused then s.reply (done []) else s.reply badState := by
  rw [pauseRequest, withStream_some hi hr]
  split <;> simp [*]

theorem refillRequest_eq {sid : Byte} {i : Sid} {r : StreamRecord} {s : State} (hi : sid.toNat = i.val)
    (hr : s.stream i = some r) (n : BitVec 32) :
    refillRequest sid n s =
      if r.defn.endMode ≠ .refill then s.reply (badForm 2)
      else if r.state = .idle ∨ r.state = .armed ∨ r.state = .done then s.reply badState
      else if 4294967295 < r.total + n.toNat then s.reply (badForm 2)
      else (s.setStream i (some { r with total := r.total + n.toNat, residue := r.residue + n.toNat })).reply (done []) := by
  rw [refillRequest, withStream_some hi hr]
  split
  · rfl
  · split <;> simp [*, Config.maxTotal]

/-- Settles O44, by the checks of the two requests in their order. -/
theorem pauseAndRefill : Obligations.PauseAndRefill := by
  refine ⟨fun retry tag sid i r s h hi hr => ?_, fun retry tag sid n i r s h hi hr => ?_⟩
  · have he := pauseRequest_eq hi hr
    split_ifs at he ⊢ <;> exact entered_replies h he
  · have he := refillRequest_eq hi hr n
    split_ifs at he ⊢ <;> exact entered_replies h he

end Sys2Proof.Machine
end

section
/-! SUPPORT. RESET_STREAM, RELEASE, FLUSH, STOP and the waiting STOPs: O45, O46, O42. -/

set_option Elab.async false

namespace Sys2Proof.Machine

open Sys2Proof.Safety

/-- The load map without a record, entry by entry as R71 states it. -/
theorem Plan.without_eq (r : StreamRecord) (p : Plan) :
    p.without r = { p with loadMap := Vector.ofFn fun x : Fin 256 =>
      match r.defn.kind with
      | .cyclic period phase =>
        if r.holdsLoad = true ∧ x.val % period = phase then p.loadMap[x] - (20 + r.defn.limit) else p.loadMap[x]
      | .demand => p.loadMap[x] } := by
  simp only [Plan.without, Plan.mk.injEq, and_true]
  congr 1
  funext x
  cases hk : r.defn.kind <;>
    simp [loadOf, hk, loadEntryOf, StreamDef.cost, Config.transactionCost]
  split <;> simp

/-! ## RESET_STREAM, RELEASE, FLUSH -/

theorem resetStreamRequest_eq {sid : Byte} {i : Sid} {r : StreamRecord} {s : State} (hi : sid.toNat = i.val)
    (hr : s.stream i = some r) :
    resetStreamRequest sid s =
      if r.state = .halted ∨ r.state = .done then
        (((s.setStream i (some r.resetRun)).setPlan (s.plan.without r)).clearHeld i).reply (done [])
      else s.reply badState := by
  have hreset : (s.releaseLoad i).setStream i (some r.resetRun) =
      (s.setStream i (some r.resetRun)).setPlan (s.plan.without r) := by
    rw [State.releaseLoad_eq hr]
    exact congrArg (State.setPlan _) (State.setStream_setStream _ _ _ s)
  rw [resetStreamRequest, withStream_some hi hr, ← hreset]
  split <;> simp [*]

/-- Settles O45, by the state of the stream. -/
theorem resetStreamClears : Obligations.ResetStreamClears := by
  refine fun retry tag sid i s h hi => ⟨fun hr => entered_replies h (withStream_none hi hr _), fun r hr h1 h2 => ?_,
    fun r hr hst => ?_⟩
  · have he := resetStreamRequest_eq hi hr
    rw [if_neg (by tauto)] at he
    exact entered_replies h he
  · have he := resetStreamRequest_eq hi hr
    rw [if_pos hst, Plan.without_eq] at he
    exact entered_replies h he

theorem releaseRequest_eq {sid : Byte} {i : Sid} {r : StreamRecord} {s : State} (hi : sid.toNat = i.val)
    (hr : s.stream i = some r) :
    releaseRequest sid s =
      if r.state = .idle ∨ r.state = .halted ∨ r.state = .done then
        (((((s.freeChain i).setStream i none).setPlan (s.plan.without r))).renew i).reply (done [])
      else s.reply badState := by
  have hrelease : ((s.freeChain i).releaseLoad i).setStream i none =
      ((s.freeChain i).setStream i none).setPlan (s.plan.without r) := by
    rw [State.releaseLoad_eq (show (s.freeChain i).stream i = some r from hr)]
    exact congrArg (State.setPlan _) (State.setStream_setStream _ _ _ (s.freeChain i))
  rw [releaseRequest, withStream_some hi hr, ← hrelease]
  split <;> simp [*]

theorem flushRequest_eq {sid : Byte} {i : Sid} {r : StreamRecord} {s : State} (hi : sid.toNat = i.val)
    (hr : s.stream i = some r) :
    flushRequest sid s =
      if r.state = .idle ∨ r.state = .halted ∨ r.state = .done then
        (s.freeChain i).reply (done (u8 (s.chain i).blocks))
      else s.reply badState := by
  rw [flushRequest, withStream_some hi hr]
  split <;> simp [*]

/-- Settles O46, by the state of the stream. -/
theorem chainsFreed : Obligations.ChainsFreed := by
  refine ⟨fun retry tag sid i r s h hi hr => ⟨fun hst => ?_, fun hst => ?_⟩, fun retry tag sid i r s h hi hr => ?_⟩
  · have he := releaseRequest_eq hi hr
    rw [if_neg (by rcases hst with hst | hst | hst <;> simp [hst])] at he
    exact entered_replies h he
  · have he := releaseRequest_eq hi hr
    rw [if_pos hst, Plan.without_eq] at he
    refine (entered_replies h he).trans ?_
    simp only [State.renew, State.setPlan, State.setStream, State.setStreams, State.freeChain, State.setChain, State.setMemory]
    rfl
  · have he := flushRequest_eq hi hr
    split_ifs at he ⊢ <;> exact entered_replies h he

/-! ## STOP -/

theorem stopRequest_eq {tag sid : Byte} {i : Sid} {r : StreamRecord} {s : State} (hi : sid.toNat = i.val)
    (hr : s.stream i = some r) :
    stopRequest tag sid s =
      if r.state = .idle then s.reply badState
      else if r.state = .armed then
        ((s.setStream i (some { r with
          state := .idle, trigger := none, holdsLoad := r.holdsLoad && r.defn.isDemand })).setPlan
          (s.plan.without r)).reply (done [])
      else if r.state = .running ∨ r.state = .paused then
        if s.inFlight i then
          (s.setStream i (some { r with stopPending := true, stopTags := r.stopTags ++ [tag] }), none)
        else (s.halt i r .stopped).reply (done [])
      else s.reply (ended r.condition) := by
  have hrelease : (s.setStream i (some { r with state := .idle, trigger := none })).releaseLoad i =
      (s.setStream i (some { r with
        state := .idle, trigger := none, holdsLoad := r.holdsLoad && r.defn.isDemand })).setPlan (s.plan.without r) := by
    rw [State.releaseLoad_eq (State.setStream_stream_self _ _ _), State.setStream_setStream, State.setStream_plan]
    rfl
  rw [stopRequest, withStream_some hi hr, ← hrelease]
  split <;> simp [*]

/-- Deferred replies of one body to several tags. -/
theorem answerAll_eq (tags : List Byte) (b : Body) (s : State) :
    tags.foldl (fun s t => s.answer t b) s = s.setPort (tags.foldl (fun p t => p.makeReady t b) s.port) := by
  induction tags generalizing s with
  | nil => rfl
  | cons t l ih => rw [List.foldl_cons, List.foldl_cons, ih]; rfl

theorem resolveStop_none {i : Sid} {s : State} (h : (s.stream i).all (fun r => !r.stopPending) = true) :
    s.resolveStop i = s := by
  cases hr : s.stream i with
  | none => simp [State.resolveStop, hr]
  | some r =>
    have hp : r.stopPending = false := by simpa [hr] using h
    simp [State.resolveStop, hr, hp]

/-- The STOPs that wait on a stream that has ended (R13, R14). -/
theorem resolveStop_ended {i : Sid} {r : StreamRecord} {c : Condition} {s : State} (hr : s.stream i = some r)
    (hp : r.stopPending = true) (hst : r.state = .halted ∨ r.state = .done) (hc : r.condition = some c) :
    s.resolveStop i = (s.setStream i (some { r with stopPending := false, stopTags := [] })).setPort
      (r.stopTags.foldl (fun p tag => p.makeReady tag [0x01, c.code]) s.port) := by
  have hans := answerAll_eq r.stopTags (ended r.condition) (s.setStream i (some { r with stopPending := false, stopTags := [] }))
  simp only [State.resolveStop, hr, hp, if_true]
  rcases hst with hst | hst <;> simp only [hst] <;> simp only [hst, hc] at hans <;> rw [hc] <;> exact hans

/-- The STOPs that wait on a stream that goes on (R13, R14). -/
theorem resolveStop_halts {i : Sid} {r : StreamRecord} {s : State} (hr : s.stream i = some r)
    (hp : r.stopPending = true) (hst : r.state = .running ∨ r.state = .paused) :
    s.resolveStop i =
      ((s.setStream i (some { r with
        state := .halted, condition := some .stopped, stopPending := false, stopTags := [] })).offer
        (.streamEnded i .halted (some .stopped) r.lastFailure r.residue r.accepted)).setPort
      (r.stopTags.foldl (fun p tag => p.makeReady tag [0x00]) s.port) := by
  have hans := answerAll_eq r.stopTags (done []) (s.halt i { r with stopPending := false, stopTags := [] } .stopped)
  simp only [State.resolveStop, hr, hp, if_true]
  rcases hst with hst | hst <;> simp only [hst] <;> simp only [hst] at hans <;> exact hans

/-- Settles O42: STOP by the state of the stream, the waiting STOPs by whether the stream has ended. -/
theorem stopResolved : Obligations.StopResolved := by
  refine ⟨fun retry tag sid i r s h hi hr => ?_, fun i s => ⟨resolveStop_none, fun r hr hp =>
    ⟨fun hst c hc => resolveStop_ended hr hp hst hc, resolveStop_halts hr hp⟩⟩⟩
  have he := stopRequest_eq (tag := tag) hi hr
  refine ⟨fun hst => ?_, fun hst hd => ?_, fun hst period phase hk => ?_, fun hst hf => ?_, fun hst hf => ?_,
    fun hst c hc => ?_⟩
  · rw [if_pos hst] at he
    exact entered_replies h he
  · have hz : ∀ e, loadOf e (some r) = 0 := fun e => by
      cases hk : r.defn.kind <;> simp_all [loadOf, StreamDef.isDemand]
    rw [if_neg (by simp [hst]), if_pos hst, Plan.without_of_zero hz, hd, Bool.and_true] at he
    exact entered_replies h he
  · have hd : r.defn.isDemand = false := by simp [StreamDef.isDemand, hk]
    rw [if_neg (by simp [hst]), if_pos hst, Plan.without_eq, hd, Bool.and_false, hk] at he
    exact entered_replies h he
  · rw [if_neg (by rcases hst with hst | hst <;> simp [hst]), if_neg (by rcases hst with hst | hst <;> simp [hst]),
      if_pos hst, if_neg (by simp [hf])] at he
    exact entered_replies h he
  · rw [if_neg (by rcases hst with hst | hst <;> simp [hst]), if_neg (by rcases hst with hst | hst <;> simp [hst]),
      if_pos hst, if_pos hf] at he
    exact whenRunning_waiting h he
  · rw [if_neg (by rcases hst with hst | hst <;> simp [hst]), if_neg (by rcases hst with hst | hst <;> simp [hst]),
      if_neg (by rcases hst with hst | hst <;> simp [hst]), hc] at he
    exact entered_replies h he

end Sys2Proof.Machine
end

section
/-! SUPPORT. DEFINE, the common checks of the stream requests, the status requests, START: O40, O23, O49, O41. -/

set_option Elab.async false

namespace Sys2Proof.Machine

open Sys2Proof.Safety

/-! ## DEFINE -/

/-- One more check in front of a list of checks of R3. -/
theorem firstBad_cons (k : Nat) (b : Bool) (l : List (Nat × Bool)) :
    (((k, b) :: l).find? fun c => !c.2).map (·.1) = if b = false then some k else (l.find? fun c => !c.2).map (·.1) := by
  cases b <;> simp

/-- A check of R3 and the clause of `firstRefused` that is its failure, with what follows on both sides. -/
theorem firstBad_step {b : Bool} {c : Prop} [Decidable c] {k : Nat} {index : Byte} (hk : index.toNat = k) (hb : b = false ↔ c)
    {x : Option Nat} {y : Option Byte} (hrest : ¬c → x = y.map BitVec.toNat) :
    (if b = false then some k else x) = (if c then some index else y).map BitVec.toNat := by
  by_cases hc : c
  · simp [hb.mpr hc, hc, hk]
  · rw [if_neg hc, if_neg (mt hb.mp hc), hrest hc]

theorem not_outside {a b x : Nat} (ha : a ≤ x) (hb : x ≤ b) : ¬ (x < a ∨ b < x) := by omega

/-- The floor of R3 on the quota, by the direction's code. -/
theorem quotaFloor_any {d : Byte} (hd : d = 1 ∨ d = 2) (limit q : Nat) :
    (Direction.ofCode d).any (fun d => decide (quotaFloor d limit ≤ q)) =
      decide ((if d = 2 then (limit + 63) / 64 else (limit + 126) / 64) ≤ q) := by
  rcases hd with hd | hd <;> simp [hd, Direction.ofCode, quotaFloor, blocksFor, Nat.add_assoc]

/-- The two clauses of the last check: the range of the quota and its floor. -/
theorem quota_check {q floor : Nat} :
    (if (decide (1 ≤ q ∧ q ≤ 128) && decide (floor ≤ q)) = false then some 17 else none) =
      (if q < 1 ∨ 128 < q then some (17 : Byte) else if q < floor then some 17 else none).map BitVec.toNat := by
  by_cases h : 1 ≤ q ∧ q ≤ 128
  · by_cases hf : floor ≤ q
    · rw [if_neg (not_outside h.1 h.2), if_neg (Nat.not_lt.mpr hf)]
      simp [h, hf]
    · rw [if_neg (not_outside h.1 h.2), if_pos (Nat.not_le.mp hf)]
      simp [hf]
  · rw [if_pos (by omega : q < 1 ∨ 128 < q)]
    simp [h]

theorem Direction.ofCode_isSome_eq_false {b : Byte} : (Direction.ofCode b).isSome = false ↔ b ≠ 1 ∧ b ≠ 2 := by
  unfold Direction.ofCode
  split_ifs <;> simp_all

theorem EndMode.ofCode_isSome_eq_false {b : Byte} : (EndMode.ofCode b).isSome = false ↔ b ≠ 1 ∧ b ≠ 2 ∧ b ≠ 3 := by
  unfold EndMode.ofCode
  split_ifs <;> simp_all

theorem ofYesNo_isSome_eq_false {b : Byte} : (ofYesNo b).isSome = false ↔ b ≠ 0 ∧ b ≠ 1 := by
  unfold ofYesNo
  split_ifs <;> simp_all

/-- The first bad field of R3, in the words of the statement. -/
theorem defineFirstBad_eq (f : DefineFields) : defineFirstBad f = (firstRefused f).map BitVec.toNat := by
  unfold defineFirstBad defineChecks firstRefused
  simp only [firstBad_cons]
  have hw : (f.cadenceW.toNat == 0) = (f.cadenceW == 0) := by simp [← BitVec.toNat_inj, Bool.beq_eq_decide_eq]
  refine firstBad_step (by rfl) ?_ fun _ => firstBad_step (by rfl) ?_ fun _ => firstBad_step (by rfl) ?_ fun hd =>
    firstBad_step (by rfl) ?_ fun _ => firstBad_step (by rfl) ?_ fun _ => firstBad_step (by rfl) ?_ fun _ =>
    firstBad_step (by rfl) ?_ fun _ => firstBad_step (by rfl) ?_ fun _ => firstBad_step (by rfl) ?_ fun _ =>
    firstBad_step (by rfl) ?_ fun _ => firstBad_step (by rfl) ?_ fun _ => firstBad_step (by rfl) ?_ fun _ =>
    firstBad_step (by rfl) ?_ fun _ => firstBad_step (by rfl) ?_ fun _ => firstBad_step (by rfl) ?_ fun _ => ?_
  · simp only [decide_eq_false_iff_not]; omega
  · simp only [decide_eq_false_iff_not]; omega
  · exact Direction.ofCode_isSome_eq_false
  · simp
  · simp only [decide_eq_false_iff_not]; omega
  · simp [periods]
  · simp
  · simp only [hw, Bool.or_eq_false_iff, decide_eq_false_iff_not, beq_eq_false_iff_ne]; grind
  · simp only [hw, Bool.or_eq_false_iff, decide_eq_false_iff_not, beq_eq_false_iff_ne]; grind
  · simp only [hw, Bool.or_eq_false_iff, decide_eq_false_iff_not, beq_eq_false_iff_ne]; grind
  · exact EndMode.ofCode_isSome_eq_false
  · simp
  · simp
  · simp
  · exact ofYesNo_isSome_eq_false
  · rw [quotaFloor_any (or_iff_not_and_not.mpr hd)]
    exact quota_check

theorem firstRefused_of_accepted {f : DefineFields} (h : DefineAccepted f) : firstRefused f = none := by
  obtain ⟨-, h2, h2', h3, h4, h5, h6, h6', h78, h9, h12, h13, h14, h15, h16, h17, hfloor⟩ := h
  have hq : 1 ≤ f.quota.toNat := by
    clear h78 h9
    split at hfloor <;> omega
  unfold firstRefused
  rw [if_neg (not_outside h2 h2'), if_neg (Nat.not_lt.mpr h3), if_neg fun hn => h4.elim hn.1 hn.2,
    if_neg fun hn => h5.elim hn.1 hn.2, if_neg (not_outside h6 h6'), if_neg fun hn => hn.2 (h78 hn.1).1,
    if_neg fun hn => Nat.not_le.mpr (h78 hn.1).2 hn.2, if_neg fun hn => Nat.not_lt.mpr (h9 hn.1).1 hn.2,
    if_neg fun hn => not_outside (h9 hn.1).2.1 (h9 hn.1).2.2.1 hn.2,
    if_neg fun hn => hn.2.elim (Nat.not_lt.mpr (h9 hn.1).2.2.2.1) (Nat.not_le.mpr (h9 hn.1).2.2.2.2),
    if_neg fun hn => h12.elim hn.1 fun h => h.elim hn.2.1 hn.2.2, if_neg fun hn => h13.elim hn.1 hn.2,
    if_neg (Nat.not_lt.mpr h14), if_neg (Nat.not_lt.mpr h15), if_neg fun hn => h16.elim hn.1 hn.2,
    if_neg (not_outside hq h17), if_neg (Nat.not_lt.mpr hfloor)]

theorem defineStream_bad {f : DefineFields} {s : State} (h : 15 < f.sid.toNat) : defineStream f s = s.reply (badForm 1) := by
  simp [defineStream, sidOf, show ¬ f.sid.toNat < 16 by omega]

theorem sidOf_eq {b : Byte} {i : Sid} (h : b.toNat = i.val) : sidOf b = some i := by
  simp [sidOf, h]

theorem defineDefinition_eq {f : DefineFields} (h : DefineAccepted f) : defineDefinition f = {
    node := f.node.toNat, port := f.port.toNat
    direction := if f.direction = 1 then .outbound else .inbound
    kind := if f.kind = 1 then .cyclic f.period.toNat f.phase.toNat else .demand
    limit := f.limit.toNat
    cadence := if f.cadenceW = 0 then none else some ⟨f.cadenceW.toNat, f.cadenceQ.toNat, f.cadenceP.toNat⟩
    endMode := if f.endMode = 1 then .counted else if f.endMode = 2 then .openEnd else .refill
    closeEmpty := f.closeEmpty == 1
    retryBudget := if f.retryBudget = 0 then 3 else f.retryBudget.toNat
    markCount := f.markCount.toNat, autopause := f.autopause == 1, quota := f.quota.toNat } := by
  obtain ⟨-, -, -, -, h4, h5, -, -, -, -, h12, -⟩ := h
  have hd : (Direction.ofCode f.direction).getD .outbound = if f.direction = 1 then .outbound else .inbound := by
    rcases h4 with h | h <;> rw [h] <;> rfl
  have hk : (defineKind f).getD .demand = if f.kind = 1 then .cyclic f.period.toNat f.phase.toNat else .demand := by
    unfold defineKind
    rcases h5 with h | h <;> rw [h] <;> rfl
  have he : (EndMode.ofCode f.endMode).getD .counted =
      if f.endMode = 1 then .counted else if f.endMode = 2 then .openEnd else .refill := by
    rcases h12 with h | h | h <;> rw [h] <;> rfl
  simp only [defineDefinition, hd, hk, he]

/-- Settles O40, by the checks of DEFINE in their order. -/
theorem defineWrites : Obligations.DefineWrites := by
  refine fun retry tag f s h => ⟨fun hi => entered_replies h (defineStream_bad hi), fun i hi =>
    ⟨fun hr => ?_, fun hr index hbad => ?_, fun hr hf => ⟨firstRefused_of_accepted hf, ?_⟩⟩⟩
  · exact entered_replies (t := s) (body := badState) h (by simp [defineStream, sidOf_eq hi, hr])
  · have hbad' : defineFirstBad f = some index.toNat := by rw [defineFirstBad_eq, hbad]; rfl
    have he : defineStream f s = s.reply (badForm index.toNat) := by
      simp [defineStream, sidOf_eq hi, hr, hbad']
    rw [show badForm index.toNat = [0x20, index] by simp [badForm, u8, Status.code]] at he
    exact entered_replies h he
  · have hnone : defineFirstBad f = none := by rw [defineFirstBad_eq, firstRefused_of_accepted hf]; rfl
    have he : defineStream f s = ((((s.setStream i (some (newRecordOf (defineDefinition f)))).setChain i Chain.empty
        s.memory.free).renew i).reply (done [])) := by
      simp [defineStream, sidOf_eq hi, hr, hnone]
    rw [defineDefinition_eq hf] at he
    refine (entered_replies h he).trans ?_
    simp only [State.renew, State.setPlan, State.setStream, State.setStreams, State.setChain, State.setMemory]
    rfl

end Sys2Proof.Machine
end

section
/-! SUPPORT. The common checks of the stream requests, the status requests and START: O23, O49, O41. -/

set_option Elab.async false

namespace Sys2Proof.Machine

open Sys2Proof.Safety

/-! ## The common checks -/

/-- A stream request on an id above 15. -/
theorem entered_badId {k : ReqKind} {retry : Bool} {tag sid : Byte} {s : State} {f : Sid → StreamRecord → State → Executed}
    (h : Entered k retry tag s) (hi : 15 < sid.toNat) :
    whenRunning (request k retry tag (withStream sid f)) s = .next (replied k tag [0x20, 1] s) :=
  entered_replies h (withStream_bad hi f)

/-- A stream request on a FREE stream. -/
theorem entered_free {k : ReqKind} {retry : Bool} {tag sid : Byte} {i : Sid} {s : State}
    {f : Sid → StreamRecord → State → Executed} (h : Entered k retry tag s) (hi : sid.toNat = i.val)
    (hr : s.stream i = none) :
    whenRunning (request k retry tag (withStream sid f)) s = .next (replied k tag [0x22] s) :=
  entered_replies h (withStream_none hi hr f)

/-- The eleven requests that make the two common checks. -/
def ReqKind.checksStream : ReqKind → Bool
  | .start | .stop | .pause | .unpause | .resume | .resetStream | .release | .refill | .put | .take | .flush => true
  | .openSession | .restart | .ackReports | .resendReports | .configureLink | .linkUp | .linkDown | .handover | .linkStatus
  | .define | .streamStatus | .poolStatus | .loadQuery | .setCapture | .takeCaptures | .scheduleMark | .cancelMarks
  | .forceMark | .timeStatus => false

/-- A command of one of the eleven requests is a stream request on the first byte of its body. -/
theorem exec_checksStream {c : Instr} {q : RequestFrame} {sid : Byte} {rest : List Byte} (hq : requestOf c = some q)
    (hk : q.kind.checksStream = true) (hb : q.body = sid :: rest) :
    ∃ f, ∀ s, exec c s = whenRunning (request q.kind q.retry q.tag (withStream sid f)) s := by
  cases c <;> cases hq <;> first | exact absurd hk Bool.false_ne_true | (cases hb; exact ⟨_, fun _ => rfl⟩)

/-- The first field that is not wholly present (R188). -/
theorem lengthError_missing (index : Nat) (pre post : List Nat) (n len : Nat) (h1 : pre.sum ≤ len) (h2 : len < pre.sum + n) :
    lengthError index (pre ++ n :: post) len = some (index + pre.length) := by
  induction pre generalizing index len with
  | nil => simp only [List.sum_nil, Nat.zero_add] at h2; simp [lengthError, h2]
  | cons m l ih =>
    simp only [List.sum_cons] at h1 h2
    rw [List.cons_append, lengthError, if_neg (by omega), ih _ _ (by omega) (by omega), List.length_cons]
    congr 1
    omega

/-- Bytes left over (R188). -/
theorem lengthError_left (index : Nat) (fields : List Nat) (len : Nat) (h : fields.sum < len) :
    lengthError index fields len = some (index + fields.length) := by
  induction fields generalizing index len with
  | nil =>
    simp only [List.sum_nil] at h
    simp [lengthError, show len ≠ 0 by omega]
  | cons m l ih =>
    simp only [List.sum_cons] at h
    rw [lengthError, if_neg (by omega), ih _ _ (by omega), List.length_cons]
    congr 1
    omega

theorem ReqKind.lengthError_eq {k : ReqKind} (hput : k ≠ .put) (len : Nat) :
    k.lengthError len = Machine.lengthError 1 k.fields len := by
  unfold ReqKind.lengthError
  split
  · exact absurd rfl hput
  · rfl

theorem ReqKind.lengthError_missing {k : ReqKind} {pre post : List Nat} {n len : Nat} (hf : k.fields = pre ++ n :: post)
    (h1 : pre.sum ≤ len) (h2 : len < pre.sum + n) : k.lengthError len = some (pre.length + 1) := by
  by_cases hput : k = .put
  · subst hput
    cases pre with
    | nil => cases hf; simp [ReqKind.lengthError, show len = 0 by simpa using h2]
    | cons m l => simp [ReqKind.fields] at hf
  · rw [ReqKind.lengthError_eq hput, hf, Machine.lengthError_missing 1 pre post n len h1 h2, Nat.add_comm]

theorem ReqKind.lengthError_left {k : ReqKind} {len : Nat} (hput : k ≠ .put) (h : k.fields.sum < len) :
    k.lengthError len = some (k.fields.length + 1) := by
  rw [ReqKind.lengthError_eq hput, Machine.lengthError_left 1 k.fields len h, Nat.add_comm]

theorem ReqKind.ofCode_code (k : ReqKind) : ReqKind.ofCode k.code = some k := by
  cases k <;> decide

/-- A checked frame of a request kind other than OPEN that enters the window, with a body of the wrong length (R188). -/
theorem disposeFrame_badLength {k : ReqKind} {retry : Bool} {tag : Byte} {body : List Byte} {s : State} {index : Nat}
    (h : Entered k retry tag s) (hk : k ≠ .openSession) (hl : k.lengthError body.length = some index) :
    disposeFrame (if retry then 0x01 else 0x00) k.code tag body s = replied k tag [0x20, BitVec.ofNat 8 index] s := by
  have hretry : requestRetry (if retry then 0x01 else 0x00) = some retry := by cases retry <;> rfl
  have hdispose : disposeFrame (if retry then 0x01 else 0x00) k.code tag body s =
      request k retry tag (requestEffect k tag body) s := by
    unfold disposeFrame
    rw [hretry, k.ofCode_code]
    split
    case h_1 he => cases he; exact absurd rfl hk
    case h_2 _ hr he => cases hr; cases he; rfl
    all_goals simp_all
  rw [hdispose, request_entered h, requestEffect, hl]
  simp [State.enterWindow, State.reply, Port.replyFor, h.2.1, replied, badForm, u8, Status.code]

/-- Settles O23: the two checks of a stream request, and the body length check by R188's two cases. -/
theorem streamRequestChecks : Obligations.StreamRequestChecks := by
  refine ⟨fun c q sid rest s hq hk hb h => ?_, fun retry tag sid s h hi => ?_, fun k retry tag body s h hk =>
    ⟨fun pre post n hf h1 h2 => disposeFrame_badLength h hk (ReqKind.lengthError_missing hf h1 h2),
      fun hput hl => disposeFrame_badLength h hk (ReqKind.lengthError_left hput hl)⟩⟩
  · have hk' : q.kind.checksStream = true := by
      rcases hk with hk | hk | hk | hk | hk | hk | hk | hk | hk | hk | hk <;> rw [hk] <;> rfl
    obtain ⟨f, hf⟩ := exec_checksStream hq hk' hb
    exact ⟨fun hi => (hf s).trans (entered_badId h hi), fun i hi hr => (hf s).trans (entered_free h hi hr)⟩
  · have he : streamStatusRequest sid s = s.reply (badForm 1) := by
      simp [streamStatusRequest, sidOf, show ¬ sid.toNat < 16 by omega]
    exact entered_replies h he

end Sys2Proof.Machine
end

section
/-! SUPPORT. The status requests and START: O49, O41. -/

set_option Elab.async false

namespace Sys2Proof.Machine

open Sys2Proof.Safety

/-! ## The status requests -/

theorem causeCode_eq (c : Option Cause) : causeCode c = (c.map (·.code)).getD 0 := by cases c <;> rfl

theorem partnerCode_eq (u : Option UnitId) : partnerCode u = (u.map (·.code)).getD 0 := by cases u <;> rfl

theorem conditionCode_eq (c : Option Condition) : conditionCode c = (c.map (·.code)).getD 0 := by cases c <;> rfl

theorem failureCode_eq (k : Option FailureKind) : failureCode k = (k.map (·.code)).getD 0 := by cases k <;> rfl

theorem linkStatus_eq (s : State) : linkStatus s = s.reply
    ([0x00, s.master.state.code, (s.master.lastCause.map (·.code)).getD 0, s.master.unit.code, s.master.rate.code] ++
      u16 s.master.cycleLength ++ u8 s.master.share ++ u8 s.master.timeout ++ u16 s.master.c ++ u16 s.master.b ++
      [(s.master.lastPartner.map (·.code)).getD 0] ++ u8 (s.master.listenCount.getD 255) ++
      u8 s.master.silenceCount ++ u8 s.master.silenceLimit ++ [if s.master.listenRequest.isSome then 1 else 0] ++
      u8 s.master.handovers.length ++ [if s.master.armed then 1 else 0] ++ u16 s.time.cycle.toNat) := by
  rw [← causeCode_eq, ← partnerCode_eq]
  rfl

theorem poolStatus_eq (s : State) : poolStatus s = s.reply
    ([0x00] ++ u16 s.memory.free ++ u8 (reservedBlocks s) ++ u8 ((s.memory.reservation.map (·.stream.val)).getD 0) ++
      (List.finRange 16).map fun i => BitVec.ofNat 8 (s.chain i).blocks) := by
  have hchains : (allSids.flatMap fun i => u8 (s.chain i).blocks) =
      (List.finRange 16).map fun i => BitVec.ofNat 8 (s.chain i).blocks := by
    rw [List.map_eq_flatMap, allSids_eq_finRange]
    rfl
  simp only [poolStatus, hchains, reservedBlocks]
  cases s.memory.reservation <;> rfl

theorem loadQuery_eq (first count : Byte) (s : State) : loadQuery first count s = s.reply
    (if count = 0 ∨ 64 < count.toNat then [0x20, 2]
    else [0x00] ++ u16 s.master.c ++ u16 s.master.b ++
      (List.range count.toNat).flatMap fun k => u16 (s.plan.loadMap[(first.toNat + k) % 256]!)) := by
  have hzero : count.toNat < 1 ↔ count = 0 := by
    rw [Nat.lt_one_iff, ← BitVec.toNat_inj]
    rfl
  simp only [loadQuery, hzero]
  split <;> rfl

theorem u8_of_toNat_eq {b : Byte} {n : Nat} (h : b.toNat = n) : u8 n = [b] := by
  rw [← h, u8, BitVec.ofNat_toNat, BitVec.setWidth_eq]

theorem streamStatus_free {sid : Byte} {i : Sid} {s : State} (hi : sid.toNat = i.val) (hr : s.stream i = none) :
    streamStatusRequest sid s = s.reply ([0x00, sid] ++ List.replicate 47 0) := by
  have hrecord : statusRecord i none (s.chain i) = u8 i.val ++ List.replicate 47 0 := rfl
  simp only [streamStatusRequest, sidOf_eq hi, hr, hrecord, u8_of_toNat_eq hi]
  generalize List.replicate 47 (0 : Byte) = zeros
  rfl

theorem triggerFields_eq (t : Option Trigger) : triggerFields t =
    match t with
    | none => [0, 0, 0]
    | some (.atCycle c) => [2] ++ u16 c.toNat
    | some (.onCapture k) => [3] ++ u16 k.val := by
  unfold triggerFields
  split <;> rfl

/-- The status record of a stream that is not FREE, with its status code in front (9.4.3). -/
theorem done_statusRecord {sid : Byte} {i : Sid} (hi : sid.toNat = i.val) (r : StreamRecord) (chain : Chain) :
    done (statusRecord i (some r) chain) =
      ([0x00, sid, r.state.code] ++ u8 r.defn.node ++ u8 r.defn.port ++ [r.defn.direction.code] ++
        (match r.defn.kind with
          | .cyclic period phase => [1] ++ u16 r.defn.limit ++ u16 period ++ u8 phase
          | .demand => [2] ++ u16 r.defn.limit ++ [0, 0, 0]) ++
        (match r.defn.cadence with
          | some c => u8 c.whole ++ u8 c.denom ++ u8 c.numer
          | none => [0, 0, 0]) ++
        u8 r.cadenceAcc ++ [r.defn.endMode.code, if r.defn.closeEmpty then 1 else 0] ++ u8 r.defn.retryBudget ++
        u8 r.defn.markCount ++ [if r.defn.autopause then 1 else 0] ++ u8 r.defn.quota ++
        (match r.trigger with
          | none => [0, 0, 0]
          | some (.atCycle c) => [2] ++ u16 c.toNat
          | some (.onCapture k) => [3] ++ u16 k.val) ++
        u32 r.total ++ u32 r.residue ++
        [if r.seqBit then 1 else 0, if r.resyncPending then 1 else 0, if r.closingPending then 1 else 0,
          if r.stopPending then 1 else 0] ++
        u8 r.takenCount ++ u8 r.failures ++
        [(r.lastFailure.map (·.code)).getD 0, (r.condition.map (·.code)).getD 0] ++ u32 r.accepted.toNat ++
        [if r.holdsLoad then 1 else 0] ++ u16 chain.size ++ u8 chain.blocks) := by
  rw [← failureCode_eq, ← conditionCode_eq, ← triggerFields_eq]
  have hsid := u8_of_toNat_eq hi
  obtain ⟨d, st, _, _, _, _, _, _, _, _, _, _, _, _, _, _, _⟩ := r
  obtain ⟨_, _, _, kind, _, cadence, _, _, _, _, _, _⟩ := d
  cases kind <;> cases cadence
  all_goals
    delta statusRecord
    dsimp only
    rw [hsid]
    simp only [List.append_assoc]
    rfl

theorem streamStatus_defined {sid : Byte} {i : Sid} {r : StreamRecord} {s : State} (hi : sid.toNat = i.val)
    (hr : s.stream i = some r) :
    streamStatusRequest sid s = s.reply
      ([0x00, sid, r.state.code] ++ u8 r.defn.node ++ u8 r.defn.port ++ [r.defn.direction.code] ++
        (match r.defn.kind with
          | .cyclic period phase => [1] ++ u16 r.defn.limit ++ u16 period ++ u8 phase
          | .demand => [2] ++ u16 r.defn.limit ++ [0, 0, 0]) ++
        (match r.defn.cadence with
          | some c => u8 c.whole ++ u8 c.denom ++ u8 c.numer
          | none => [0, 0, 0]) ++
        u8 r.cadenceAcc ++ [r.defn.endMode.code, if r.defn.closeEmpty then 1 else 0] ++ u8 r.defn.retryBudget ++
        u8 r.defn.markCount ++ [if r.defn.autopause then 1 else 0] ++ u8 r.defn.quota ++
        (match r.trigger with
          | none => [0, 0, 0]
          | some (.atCycle c) => [2] ++ u16 c.toNat
          | some (.onCapture k) => [3] ++ u16 k.val) ++
        u32 r.total ++ u32 r.residue ++
        [if r.seqBit then 1 else 0, if r.resyncPending then 1 else 0, if r.closingPending then 1 else 0,
          if r.stopPending then 1 else 0] ++
        u8 r.takenCount ++ u8 r.failures ++
        [(r.lastFailure.map (·.code)).getD 0, (r.condition.map (·.code)).getD 0] ++ u32 r.accepted.toNat ++
        [if r.holdsLoad then 1 else 0] ++ u16 (s.chain i).size ++ u8 (s.chain i).blocks) := by
  simp only [streamStatusRequest, sidOf_eq hi, hr]
  exact congrArg (fun b => s.reply b) (done_statusRecord hi r (s.chain i))

theorem markStatus_eq (m : MarkLine) : markStatus m =
    [m.resting.code, m.current.code, if m.pulseEnd.isSome then 1 else 0] ++
      u16 ((m.pulseEnd.map (·.cycle.toNat)).getD 0) ++ u16 ((m.pulseEnd.map (·.offset)).getD 0) ++
      u8 m.schedule.length := by
  unfold markStatus
  cases m.pulseEnd <;> rfl

theorem allLines_eq_finRange : allLines = List.finRange 4 := by decide

theorem timeStatus_eq (s : State) : timeStatusRequest s = s.reply
    ([0x00] ++ u16 s.time.cycle.toNat ++ u16 s.time.offset ++ u16 s.master.cycleLength ++
      (List.finRange 4).flatMap (fun k =>
        [(s.marks[k]).resting.code, (s.marks[k]).current.code, if (s.marks[k]).pulseEnd.isSome then 1 else 0] ++
          u16 (((s.marks[k]).pulseEnd.map (·.cycle.toNat)).getD 0) ++
          u16 (((s.marks[k]).pulseEnd.map (·.offset)).getD 0) ++ u8 (s.marks[k]).schedule.length) ++
      (List.finRange 4).flatMap (fun k =>
        [(s.capture.lines[k]).edges.code, BitVec.ofNat 8 (s.capture.lines[k]).holdOff,
          if (s.capture.lines[k]).lost then 1 else 0]) ++
      u8 s.capture.queue.length) := by
  simp only [timeStatusRequest, allLines_eq_finRange, markStatus_eq]
  rfl

/-- Settles O49: each status request answers with the values as they stand. -/
theorem statusRequestsAnswer : Obligations.StatusRequestsAnswer :=
  ⟨fun _ _ s h => entered_replies h (linkStatus_eq s), fun _ _ s h => entered_replies h (poolStatus_eq s),
    fun _ _ first count s h => entered_replies h (loadQuery_eq first count s),
    fun _ _ _ _ _ h hi => ⟨fun hr => entered_replies h (streamStatus_free hi hr),
      fun _ hr => entered_replies h (streamStatus_defined hi hr)⟩,
    fun _ _ s h => entered_replies h (timeStatus_eq s)⟩

end Sys2Proof.Machine
end

section
/-! SUPPORT. START: O41. -/

set_option Elab.async false

namespace Sys2Proof.Machine

open Sys2Proof.Safety

/-! ## The checks of START in their order -/

section
variable {sid kind : Byte} {value : BitVec 16} {total : BitVec 32} {i : Sid} {r : StreamRecord} {s : State}

theorem startRequest_refused (hi : sid.toNat = i.val) (hr : s.stream i = some r)
    (hst : r.state = .armed ∨ r.state = .running ∨ r.state = .paused ∨ r.state = .halted) :
    startRequest sid kind value total s = s.reply badState := by
  rw [startRequest, withStream_some hi hr]
  rcases hst with hst | hst | hst | hst <;> simp only [hst]

/-- The checks of a START in IDLE or DONE, behind its state. -/
def State.startChecked (i : Sid) (r : StreamRecord) (trigger : StartTrigger ⊕ Nat) (total : BitVec 32) (s : State) : Executed :=
  match trigger with
  | .inr k => s.reply (badForm k)
  | .inl t =>
    if r.defn.endMode = .counted ∧ r.defn.direction = .inbound ∧ total = 0 then s.reply (badForm 4)
    else if t.inTime s.time.cycle = false then s.reply late
    else
      match s.admissionFault r.defn with
      | some (e, v) => s.reply (noLoad e v)
      | none => (s.startStream i r t total.toNat).reply (done [])

theorem startRequest_eq (hi : sid.toNat = i.val) (hr : s.stream i = some r) (hst : r.state = .idle ∨ r.state = .done) :
    startRequest sid kind value total s = s.startChecked i r (startTrigger kind value) total := by
  rw [startRequest, withStream_some hi hr]
  unfold State.startChecked
  have hcond : (r.defn.endMode == .counted && r.defn.direction == .inbound && total == 0) = true ↔
      r.defn.endMode = .counted ∧ r.defn.direction = .inbound ∧ total = 0 := by
    simp [and_assoc]
  rcases hst with hst | hst <;> simp only [hst, hcond, Bool.not_eq_true'] <;> rfl

end

theorem startTrigger_badKind {kind : Byte} (value : BitVec 16) (h : kind = 0 ∨ 3 < kind.toNat) :
    startTrigger kind value = .inr 2 := by
  have h1 : kind ≠ 1 := by rintro rfl; revert h; decide
  have h2 : kind ≠ 2 := by rintro rfl; revert h; decide
  have h3 : kind ≠ 3 := by rintro rfl; revert h; decide
  simp only [startTrigger, h1, h2, h3, if_false]

theorem startTrigger_badValue {kind : Byte} {value : BitVec 16}
    (h : (kind = 2 ∧ 4095 < value.toNat) ∨ (kind = 3 ∧ 3 < value.toNat)) : startTrigger kind value = .inr 3 := by
  rcases h with ⟨rfl, h⟩ | ⟨rfl, h⟩
  · simp [startTrigger, show ¬ value.toNat ≤ 4095 by omega]
  · simp [startTrigger, show ¬ value.toNat < 4 by omega]

/-- The trigger of a kind and a value that pass the first two checks of R5. -/
theorem startTrigger_ok {kind : Byte} {value : BitVec 16} (hk : ¬ (kind = 0 ∨ 3 < kind.toNat))
    (hv : ¬ ((kind = 2 ∧ 4095 < value.toNat) ∨ (kind = 3 ∧ 3 < value.toNat))) :
    startTrigger kind value = .inl
      (if kind = 1 then .now
      else if kind = 2 then .arm (.atCycle (value.setWidth 12))
      else .arm (.onCapture (Fin.ofNat 4 value.toNat))) := by
  by_cases h1 : kind = 1
  · simp [startTrigger, h1]
  · by_cases h2 : kind = 2
    · have hle : value.toNat ≤ 4095 := Nat.not_lt.mp fun h => hv (.inl ⟨h2, h⟩)
      simp [startTrigger, h2, hle]
    · have h3 : kind = 3 := by
        rw [← BitVec.toNat_inj] at h1 h2 ⊢
        have h0 : kind.toNat ≠ 0 := fun h0 => hk (.inl (BitVec.eq_of_toNat_eq h0))
        simp only [BitVec.ofNat_eq_ofNat, BitVec.toNat_ofNat] at h1 h2 ⊢
        omega
      have hlt : value.toNat < 4 := Nat.lt_succ_iff.mpr (Nat.not_lt.mp fun h => hv (.inr ⟨h3, h⟩))
      simp [startTrigger, h3, hlt, Fin.ofNat, Nat.mod_eq_of_lt hlt]

/-- A START is late when its cycle is not ahead of the current one (section 0.6). -/
theorem isAhead_eq_false {current c : Cycle} :
    isAhead current c = false ↔ (c - current).toNat = 0 ∨ 2048 < (c - current).toNat := by
  unfold isAhead cyclesAhead
  rw [decide_eq_false_iff_not]
  omega

/-- The refusal of a START, by the first check that fails (R5). -/
theorem startChecked_refusal {kind : Byte} {value : BitVec 16} {total : BitVec 32} {i : Sid} {r : StreamRecord} {s : State}
    {refusal : List Byte}
    (h : if kind = 0 ∨ 3 < kind.toNat then refusal = [0x20, 2]
      else if (kind = 2 ∧ 4095 < value.toNat) ∨ (kind = 3 ∧ 3 < value.toNat) then refusal = [0x20, 3]
      else if r.defn.endMode = .counted ∧ r.defn.direction = .inbound ∧ total = 0 then refusal = [0x20, 4]
      else if kind = 2 ∧ ((value.setWidth 12 - s.time.cycle).toNat = 0 ∨
        2048 < (value.setWidth 12 - s.time.cycle).toNat) then refusal = [0x25]
      else False) :
    s.startChecked i r (startTrigger kind value) total = s.reply refusal := by
  split at h
  next hk => rw [startTrigger_badKind value hk, h]; rfl
  next hk =>
    split at h
    next hv => rw [startTrigger_badValue hv, h]; rfl
    next hv =>
      rw [startTrigger_ok hk hv]
      simp only [State.startChecked]
      split at h
      next hc => rw [if_pos hc, h]; rfl
      next hc =>
        rw [if_neg hc]
        split at h
        next hl =>
          obtain ⟨rfl, hl⟩ := hl
          rw [if_pos (by simpa [StartTrigger.inTime] using isAhead_eq_false.mpr hl), h]
          rfl
        next => exact h.elim

/-! ## The admission (R70) -/

theorem admissionFault_none {d : StreamDef} {s : State}
    (h : ∀ period phase, d.kind = .cyclic period phase →
      ∀ x : Fin 256, x.val % period = phase → s.plan.loadMap[x] + (20 + d.limit) ≤ s.master.b) :
    s.admissionFault d = none := by
  unfold State.admissionFault
  split
  next => rfl
  next period phase hk =>
    rw [Option.map_eq_none_iff, Plan.fullEntry, List.find?_eq_none]
    intro x _
    have hx := h period phase hk x
    rw [Bool.and_eq_true, loadEntryOf, beq_iff_eq, not_and, decide_eq_true_eq]
    exact fun hp => Nat.not_lt.mpr (hx hp)

theorem admissionFault_full {d : StreamDef} {s : State} {period phase : Nat} {x : Fin 256} (hk : d.kind = .cyclic period phase)
    (hx : x.val % period = phase) (hfull : s.master.b < s.plan.loadMap[x] + (20 + d.limit))
    (hfirst : ∀ y : Fin 256, y < x → y.val % period = phase → s.plan.loadMap[y] + (20 + d.limit) ≤ s.master.b) :
    s.admissionFault d = some (x.val, s.plan.loadMap[x]) := by
  have hfind : s.plan.fullEntry period phase d.cost s.master.b = some x := by
    rw [Plan.fullEntry, List.find?_eq_some_iff_getElem]
    refine ⟨by rw [Bool.and_eq_true, loadEntryOf, beq_iff_eq, decide_eq_true_eq]; exact ⟨hx, hfull⟩, x.val, by simp, by simp, ?_⟩
    intro j hj
    have hy := hfirst ⟨j, by omega⟩ hj
    simp only [List.getElem_finRange, loadEntryOf, StreamDef.cost, Config.transactionCost, Bool.not_eq_true', Bool.and_eq_false_iff,
      decide_eq_false_iff_not, beq_eq_false_iff_ne, Nat.not_lt]
    by_cases hp : j % period = phase
    · exact .inr (hy hp)
    · exact .inl hp
  simp [State.admissionFault, hk, hfind]

/-- Admission to the load map, whole (R70). -/
theorem State.admitLoad_eq (d : StreamDef) (s : State) :
    s.admitLoad d = s.setPlan { s.plan with loadMap := Vector.ofFn fun x : Fin 256 =>
      match d.kind with
      | .cyclic period phase =>
        if x.val % period = phase then s.plan.loadMap[x] + (20 + d.limit) else s.plan.loadMap[x]
      | .demand => s.plan.loadMap[x] } := by
  unfold State.admitLoad
  split
  next hk =>
    have hmap : (Vector.ofFn fun x : Fin 256 => s.plan.loadMap[x]) = s.plan.loadMap := by
      ext x hx
      simp
    simp only [hk, hmap]
    rfl
  next hk => simp only [hk, Plan.addLoad, loadEntryOf, beq_iff_eq, StreamDef.cost, Config.transactionCost]

/-- The record a START writes, by its kind byte (R6). -/
theorem StreamRecord.started_eq (kind : Byte) (value : BitVec 16) (total : BitVec 32) (r : StreamRecord) :
    r.started (if kind = 1 then .now else if kind = 2 then .arm (.atCycle (value.setWidth 12))
      else .arm (.onCapture (Fin.ofNat 4 value.toNat))) total.toNat = { r with
        state := if kind = 1 then .running else .armed
        trigger :=
          if kind = 1 then none
          else if kind = 2 then some (.atCycle (value.setWidth 12))
          else some (.onCapture (Fin.ofNat 4 value.toNat))
        total := if r.defn.endMode = .openEnd then 0 else total.toNat
        residue := if r.defn.endMode = .openEnd then 0 else total.toNat
        seqBit := false, resyncPending := true
        closingPending := r.defn.endMode == .counted && r.defn.direction == .outbound && total == 0
        stopPending := false, takenCount := 0, failures := 0, lastFailure := none, accepted := 0
        condition := none, holdsLoad := !r.defn.isDemand, cadenceAcc := 0 } := by
  have hclosing : (r.defn.endMode == .counted && r.defn.direction == .outbound &&
      (if r.defn.endMode = .openEnd then 0 else total.toNat) == 0) =
      (r.defn.endMode == .counted && r.defn.direction == .outbound && total == 0) := by
    have hzero : (total.toNat == 0) = (total == 0) := by simp [← BitVec.toNat_inj, Bool.beq_eq_decide_eq]
    cases r.defn.endMode <;> simp [hzero]
  simp only [StreamRecord.started, hclosing]
  by_cases h1 : kind = 1
  · simp [h1]
  · by_cases h2 : kind = 2
    · simp [h2]
    · simp only [if_neg h1, if_neg h2]

/-- The effect of an accepted START, whole (R6). -/
theorem State.startStream_eq (i : Sid) (r : StreamRecord) (t : StartTrigger) (total : BitVec 32) (s : State) :
    s.startStream i r t total.toNat =
      { s with
        streams := s.streams.set i.val (some (r.started t total.toNat))
        memory := { s.memory with chains := s.memory.chains.set i.val { s.memory.chains[i.val] with heldSize := none } }
        plan := { s.plan with
          loadMap := Vector.ofFn fun x : Fin 256 =>
            match r.defn.kind with
            | .cyclic period phase =>
              if x.val % period = phase then s.plan.loadMap[x] + (20 + r.defn.limit) else s.plan.loadMap[x]
            | .demand => s.plan.loadMap[x]
          record := s.plan.record.map fun c => { c with renewed := i :: c.renewed } }
        reports :=
          if t = .now ∧ r.defn.endMode = .refill ∧ total = 0 then s.reports.offer (.refillNeeded i) else s.reports } := by
  have hneeds : (r.started t total.toNat).needsRefill = decide (r.defn.endMode = .refill ∧ total = 0) := by
    cases he : r.defn.endMode <;> simp [StreamRecord.needsRefill, StreamRecord.started, he, ← BitVec.toNat_inj,
      Bool.beq_eq_decide_eq]
  unfold State.startStream
  rw [State.admitLoad_eq]
  cases t with
  | now =>
    simp only [State.offerRefill, hneeds, decide_eq_true_eq, true_and, State.renew, State.setPlan, State.setStream, State.setStreams,
      State.clearHeld, State.setChain, State.setMemory]
    split <;> rfl
  | arm _ =>
    rw [if_neg (by simp)]
    simp only [State.renew, State.setPlan, State.setStream, State.setStreams, State.clearHeld, State.setChain, State.setMemory]
    rfl

/-- Settles O41: the state, the checks in their order, and the effect of a START that passes them. -/
theorem startRuns : Obligations.StartRuns := by
  refine fun retry tag sid kind value total i r s h hi hr =>
    ⟨fun hst => entered_replies h (startRequest_refused hi hr hst), fun hst refusal hrefusal => ?_,
      fun hst htrigger htotal => ?_⟩
  · exact entered_replies h ((startRequest_eq hi hr hst).trans (startChecked_refusal hrefusal))
  · have hk : ¬ (kind = 0 ∨ 3 < kind.toNat) := by
      rcases htrigger with rfl | ⟨rfl, -⟩ | ⟨rfl, -⟩ <;> decide
    have hv : ¬ ((kind = 2 ∧ 4095 < value.toNat) ∨ (kind = 3 ∧ 3 < value.toNat)) := by
      rcases htrigger with rfl | ⟨rfl, hv, -⟩ | ⟨rfl, hv⟩ <;> simp <;> omega
    have hc : ¬ (r.defn.endMode = .counted ∧ r.defn.direction = .inbound ∧ total = 0) := fun hc => htotal hc.1 hc.2.1 hc.2.2
    have hahead : ¬ StartTrigger.inTime s.time.cycle (if kind = 1 then .now
        else if kind = 2 then .arm (.atCycle (value.setWidth 12)) else .arm (.onCapture (Fin.ofNat 4 value.toNat))) = false := by
      rcases htrigger with rfl | ⟨rfl, -, ha⟩ | ⟨rfl, -⟩ <;> simp [StartTrigger.inTime, *]
    have he := startRequest_eq (kind := kind) (value := value) (total := total) hi hr hst
    rw [startTrigger_ok hk hv] at he
    simp only [State.startChecked, if_neg hc, if_neg hahead] at he
    refine ⟨fun hload => ?_, fun period phase x hkind hx hfull hfirst => ?_⟩
    · rw [admissionFault_none hload] at he
      simp only [State.startStream_eq, StreamRecord.started_eq] at he
      refine (entered_replies h he).trans ?_
      have hnow : (if kind = 1 then StartTrigger.now else if kind = 2 then .arm (.atCycle (value.setWidth 12))
          else .arm (.onCapture (Fin.ofNat 4 value.toNat))) = .now ↔ kind = 1 := by
        by_cases h1 : kind = 1
        · simp [h1]
        · rw [if_neg h1]
          split <;> exact iff_of_false nofun h1
      simp only [hnow]
      rfl
    · rw [admissionFault_full hkind hx hfull hfirst] at he
      exact entered_replies h he

end Sys2Proof.Machine
end

section
/-! SUPPORT. The laws at reset: O5. -/

set_option Elab.async false

namespace Sys2Proof.Machine

open Sys2Proof.Safety

/-! ## The part at reset -/

theorem State.reset_stream (i : Sid) : State.reset.stream i = none := by
  simp [State.reset, State.afterReset, State.stream]

theorem State.reset_chain (i : Sid) : State.reset.chain i = Chain.empty := by
  simp [State.reset, State.afterReset, State.chain, SegmentMemory.reset]

theorem linkLaw_reset : LinkLaw State.reset := by
  have hstop (i : Sid) : (State.reset.stream i).any (·.stopPending) = true → State.reset.inFlight i = true := by
    simp [State.reset_stream]
  exact ⟨by decide, by decide, by decide, by decide, nofun, hstop, by decide, by decide⟩

theorem memoryLaw_reset : MemoryLaw State.reset := by
  refine ⟨by decide, fun i => ?_, fun i => ?_, fun i => ?_, by decide⟩
  · simp [State.reset_stream]
  · rw [State.reset_chain]; decide
  · rw [State.reset_stream, State.reset_chain]; decide

theorem queueLaw_reset : QueueLaw State.reset := by
  refine ⟨by decide, fun k => ?_⟩
  simp [State.reset, State.afterReset, marksReset]

/-- Settles O5: each law read off the reset values. -/
theorem lawsAtReset : Obligations.LawsAtReset :=
  ⟨by decide, by decide, queueLaw_reset, by decide, by decide, linkLaw_reset, by decide, memoryLaw_reset,
    (LoadInv.afterReset _ _ _ _ _ _).law⟩

end Sys2Proof.Machine
end

section
/-! SUPPORT. Capture edges: O51. -/

set_option Elab.async false

namespace Sys2Proof.Machine

open Sys2Proof.Safety

/-! ## Edges (R135, R136) -/

theorem StreamRecord.armedOn_eq (k : Line) :
    StreamRecord.armedOn k = fun r => decide (r.state = .armed ∧ r.trigger = some (.onCapture k)) := by
  funext r
  unfold StreamRecord.armedOn
  split
  next l hs ht => simp [hs, ht, Bool.beq_eq_decide_eq]
  next h =>
    refine (decide_eq_false ?_).symm
    exact fun ⟨hs, ht⟩ => h k hs ht

/-- The reports of one event read only the records of the streams. -/
theorem startReports_congr {s t : State} (h : ∀ i, s.stream i = t.stream i) (test : StreamRecord → Bool) (q : ReportQueue) :
    startReports test s q = startReports test t q := by
  simp only [startReports, h]

theorem CaptureLine.qualifies_eq_true {rise : Bool} {clock : Nat} {l : CaptureLine} :
    l.qualifies rise clock = true ↔
      l.edges.selects rise = true ∧ ∀ m, l.lastQualifying = some m → m + l.holdOff ≤ clock := by
  unfold CaptureLine.qualifies
  cases l.lastQualifying <;> simp

theorem CaptureLine.qualifies_eq_false {rise : Bool} {clock : Nat} {l : CaptureLine}
    (h : l.edges.selects rise = false ∨ ∃ m, l.lastQualifying = some m ∧ clock < m + l.holdOff) :
    ¬ l.qualifies rise clock = true := by
  rw [qualifies_eq_true]
  rintro ⟨hsel, hlast⟩
  rcases h with h | ⟨m, hm, hlt⟩
  · exact Bool.false_ne_true (h.symm.trans hsel)
  · exact absurd (hlast m hm) (by omega)

theorem State.recordEdge_eq (k : Line) (rise : Bool) (s : State) :
    s.recordEdge k rise = { s with
      capture :=
        if s.capture.queue.length < 32 then { s.capture with
          lines := s.capture.lines.set k.val { s.capture.lines[k.val] with lastQualifying := some s.time.clock, lost := false }
          queue := s.capture.queue ++ [⟨k, rise, s.time.cycle, s.time.offset, (s.capture.lines[k.val]).lost⟩] }
        else { s.capture with
          lines := s.capture.lines.set k.val { s.capture.lines[k.val] with lastQualifying := some s.time.clock, lost := true } }
      reports := if s.capture.queue = [] then s.reports.offer .captured else s.reports } := by
  simp only [State.recordEdge, Config.captureQueue, List.isEmpty_iff]
  by_cases hroom : s.capture.queue.length < 32
  · rw [if_pos hroom, if_pos hroom]
    split <;> rfl
  · have hne : s.capture.queue ≠ [] := fun h => hroom (by simp [h])
    rw [if_neg hroom, if_neg hroom, if_neg hne]
    rfl

theorem State.edge_of_not_qualifies {k : Line} {rise : Bool} {s : State}
    (h : ¬ (s.capture.lines[k.val]).qualifies rise s.time.clock = true) : s.edge k rise = s := if_neg h

theorem State.edge_of_qualifies {k : Line} {rise : Bool} {s : State}
    (h : (s.capture.lines[k.val]).qualifies rise s.time.clock = true) :
    s.edge k rise = (s.recordEdge k rise).triggerAll (StreamRecord.armedOn k) := if_pos h

/-- A run of triggers writes the streams and the report queue alone. -/
theorem State.triggerAll_frame (test : StreamRecord → Bool) (s : State) :
    s.triggerAll test = { s with
      streams := (s.triggerAll test).streams, reports := (s.triggerAll test).reports } := by
  rw [State.mk.injEq]
  simp

/-- Settles O51: the sample row is the fold over its lines; an edge records itself and starts the streams armed on its line. -/
theorem edgeCaptured : Obligations.EdgeCaptured := by
  refine ⟨?_, ?_⟩
  · rintro after changed level s v w hrun rfl rfl
    exact congrArg Host.Outcome.next (if_neg (by simp [hrun]))
  · rintro k rise s l rfl
    refine ⟨fun h => State.edge_of_not_qualifies (CaptureLine.qualifies_eq_false h), fun hsel hlast => ?_⟩
    have hq := State.edge_of_qualifies (CaptureLine.qualifies_eq_true.mpr ⟨hsel, hlast⟩)
    obtain ⟨hstreams, hreports⟩ := State.triggerAll_spec (StreamRecord.armedOn k) (s.recordEdge k rise)
    have hframe := State.triggerAll_frame (StreamRecord.armedOn k) (s.recordEdge k rise)
    have hsame (i : Sid) : (s.recordEdge k rise).stream i = s.stream i := by rw [State.recordEdge_eq]; rfl
    have hcapture : (s.edge k rise).capture = (s.recordEdge k rise).capture := by simp [hq]
    refine ⟨_, rfl, ?_, fun hroom => ?_, fun hfull => ?_, ?_, fun i => ?_⟩
    · rw [hcapture, hq, hframe, State.recordEdge_eq]
    · rw [hcapture, State.recordEdge_eq]
      exact if_pos hroom
    · rw [hcapture, State.recordEdge_eq]
      exact if_neg (Nat.not_lt.mpr hfull)
    · rw [hq, hreports, startReports_congr hsame, StreamRecord.armedOn_eq, State.recordEdge_eq]
    · rw [hq, hstreams, hsame, StreamRecord.armedOn_eq]
      simp only [decide_eq_true_eq]

end Sys2Proof.Machine
end

section
/-! SUPPORT. Realignment: O34. -/

set_option Elab.async false

namespace Sys2Proof.Machine

open Sys2Proof.Safety

/-! ## Points and cycles that a move passes (R131) -/

theorem cyclesAhead_eq_zero {a b : Cycle} : cyclesAhead a b = 0 ↔ a = b := by
  unfold cyclesAhead
  constructor
  · intro h
    bv_omega
  · rintro rfl
    simp

theorem cyclesAhead_inj {a b c : Cycle} : cyclesAhead a b = cyclesAhead a c ↔ b = c := by
  unfold cyclesAhead
  rw [BitVec.toNat_inj]
  exact ⟨fun h => by simpa using congrArg (· + a) h, fun h => by rw [h]⟩

theorem passes_iff {old new p : Point} : passes old new p = true ↔ Passed old new p := by
  simp only [passes, Passed, Bool.and_eq_true, Bool.or_eq_true, decide_eq_true_eq, bne_iff_ne, beq_iff_eq, ne_eq,
    cyclesAhead_eq_zero, cyclesAhead_inj]
  rfl

theorem isForward_iff {old new : Point} : isForward old new = true ↔
    (1 ≤ (new.cycle - old.cycle).toNat ∧ (new.cycle - old.cycle).toNat ≤ 2048) ∨
      ((new.cycle - old.cycle).toNat = 0 ∧ old.offset < new.offset) := by
  simp only [isForward, isAhead, Bool.or_eq_true, Bool.and_eq_true, decide_eq_true_eq, beq_iff_eq, ← cyclesAhead_eq_zero]
  rfl

/-- The starts of the cycles behind `old`, up to `new`. -/
theorem passes_start_iff {old new a : Cycle} : passes ⟨old, 0⟩ ⟨new, 0⟩ ⟨a, 0⟩ = true ↔
    1 ≤ (a - old).toNat ∧ (a - old).toNat ≤ (new - old).toNat := by
  simp only [passes, Bool.and_eq_true, Bool.or_eq_true, decide_eq_true_eq, bne_iff_ne, beq_iff_eq]
  unfold cyclesAhead
  omega

/-! ## A mark line that passes points (R142 to R144) -/

section
variable (cycleLength : Nat) (now : Point → Point)

theorem MarkLine.fires_schedule (es : List MarkEntry) (m : MarkLine) :
    (es.foldl (fun m e => MarkLine.fire cycleLength (now e.point) e m) m).schedule = m.schedule := by
  refine List.foldlRecOn (motive := fun x : MarkLine => x.schedule = m.schedule) es _ rfl fun x hx e _ => ?_
  rw [← hx, MarkLine.fire]
  split <;> rfl

theorem MarkLine.fires_resting (es : List MarkEntry) (m : MarkLine) :
    (es.foldl (fun m e => MarkLine.fire cycleLength (now e.point) e m) m).resting =
      ((es.filter fun x => x.width == 0).getLast?.map (·.level)).getD m.resting := by
  induction es generalizing m with
  | nil => rfl
  | cons e es ih =>
    rw [List.foldl_cons, ih, MarkLine.fire]
    by_cases he : e.width = 0
    · simp only [he, if_true, MarkLine.step, List.filter_cons, beq_self_eq_true, List.getLast?_cons]
      cases (es.filter fun x => x.width == 0).getLast? <;> rfl
    · simp [he]

variable {cycleLength now} {old new : Point} {m : MarkLine} {pre post : List MarkEntry}

theorem MarkLine.endIfPassed_schedule (m : MarkLine) : (m.endIfPassed old new).schedule = m.schedule := by
  unfold MarkLine.endIfPassed
  (repeat' split) <;> rfl

theorem MarkLine.endIfPassed_passed {p : Point} (hp : m.pulseEnd = some p) (h : Passed old new p) :
    m.endIfPassed old new = m.endPulse := by
  simp [MarkLine.endIfPassed, hp, passes_iff.mpr h]

theorem MarkLine.endIfPassed_not_passed (h : ∀ p, m.pulseEnd = some p → ¬ Passed old new p) : m.endIfPassed old new = m := by
  unfold MarkLine.endIfPassed
  split
  next p hp => rw [if_neg (mt passes_iff.mp (h p hp))]
  next => rfl

/-- The passed entries of the schedule leave it and fire in their order. -/
theorem MarkLine.pass_eq (hm : m.schedule = pre ++ post) (hpre : ∀ e ∈ pre, Passed old new e.point)
    (hpost : ∀ e ∈ post.head?, ¬ Passed old new e.point) :
    m.pass cycleLength now old new = MarkLine.endIfPassed old new
      (pre.foldl (fun m e => MarkLine.fire cycleLength (now e.point) e m) { m with schedule := post }) := by
  have hpass : ∀ e ∈ pre, passes old new e.point = true := fun e he => passes_iff.mpr (hpre e he)
  have hstay : post.takeWhile (fun e => passes old new e.point) = [] := by
    cases post with
    | nil => rfl
    | cons e es => exact List.takeWhile_cons_of_neg (mt passes_iff.mp (hpost e rfl))
  have hhit : m.schedule.takeWhile (fun e => passes old new e.point) = pre := by
    rw [hm, List.takeWhile_append_of_pos hpass, hstay, List.append_nil]
  unfold MarkLine.pass
  simp only [hhit]
  rw [hm, List.drop_left]

theorem MarkLine.pass_schedule (hm : m.schedule = pre ++ post) (hpre : ∀ e ∈ pre, Passed old new e.point)
    (hpost : ∀ e ∈ post.head?, ¬ Passed old new e.point) : (m.pass cycleLength now old new).schedule = post := by
  rw [MarkLine.pass_eq hm hpre hpost, MarkLine.endIfPassed_schedule, MarkLine.fires_schedule]

/-- Where no entry is passed, only the end of a pulse can be. -/
theorem MarkLine.pass_of_none (hpost : ∀ e ∈ m.schedule.head?, ¬ Passed old new e.point) :
    m.pass cycleLength now old new = m.endIfPassed old new :=
  MarkLine.pass_eq (pre := []) rfl (by simp) hpost

end

/-- The end of a pulse that starts at the new point lies beyond it, so the move does not pass it. -/
theorem not_passed_plus {old new : Point} {cycleLength w : Nat} (hd : (new.cycle - old.cycle).toNat ≤ 2048) (hw : 0 < w)
    (hspan : (new.offset + w) / cycleLength < 2048) : ¬ Passed old new (new.plus cycleLength w) := by
  have hrest := Nat.div_add_mod (new.offset + w) cycleLength
  unfold Passed Point.plus
  generalize (new.offset + w) / cycleLength = q at hspan hrest ⊢
  rintro ⟨-, h | ⟨hcycle, hoffset⟩⟩
  · bv_omega
  · have hzero : q = 0 := by bv_omega
    have hle : (new.offset + w) % cycleLength ≤ new.offset := hoffset
    rw [hzero, Nat.mul_zero] at hrest
    omega

/-- The line behind a realignment that passes entries, the last of them `e`. -/
theorem MarkLine.pass_realigned {cycleLength : Nat} {old new : Point} {m : MarkLine} {l post : List MarkEntry} {e : MarkEntry}
    (hm : m.schedule = (l ++ [e]) ++ post) (hpre : ∀ x ∈ l ++ [e], Passed old new x.point)
    (hpost : ∀ x ∈ post.head?, ¬ Passed old new x.point)
    (hend : e.width ≠ 0 → ¬ Passed old new (new.plus cycleLength e.width)) :
    (m.pass cycleLength (fun _ => new) old new).current = e.level ∧
    (m.pass cycleLength (fun _ => new) old new).resting =
      (((l ++ [e]).filter fun x => x.width == 0).getLast?.map (·.level)).getD m.resting ∧
    (m.pass cycleLength (fun _ => new) old new).pulseEnd =
      if e.width = 0 then none else some (new.plus cycleLength e.width) := by
  rw [MarkLine.pass_eq hm hpre hpost]
  have hresting := MarkLine.fires_resting cycleLength (fun _ => new) (l ++ [e]) { m with schedule := post }
  rw [List.foldl_append, List.foldl_cons, List.foldl_nil] at hresting ⊢
  rw [MarkLine.endIfPassed_not_passed, hresting]
  · unfold MarkLine.fire
    split <;> simp [MarkLine.step]
  · intro p hp
    unfold MarkLine.fire at hp
    split at hp
    next => simp [MarkLine.step] at hp
    next hw =>
      cases hp
      exact hend hw

/-! ## The realignment (R130 to R132, R144) -/

theorem LinkRate.charMicros_le (r : LinkRate) : r.charMicros ≤ 4 := by
  cases r <;> decide

theorem State.realign_backward {c : Cycle} {s : State} (h : ¬ isForward s.time.point ⟨c, s.beaconMicros⟩ = true) :
    s.realign c = s.setTime { s.time with cycle := c, offset := s.beaconMicros } := by
  simp only [State.realign]
  rw [if_neg h]

theorem State.realign_forward {c : Cycle} {s : State} (h : isForward s.time.point ⟨c, s.beaconMicros⟩ = true) :
    s.realign c = ((s.setTime { s.time with cycle := c, offset := s.beaconMicros }).setMarks
      (marksRealign s.master.cycleLength s.time.point ⟨c, s.beaconMicros⟩ s.marks)).passCycleStarts s.time.cycle c := by
  simp only [State.realign]
  rw [if_pos h]
  rfl

theorem State.realign_time (c : Cycle) (s : State) :
    (s.realign c).time = { s.time with cycle := c, offset := s.beaconMicros } := by
  by_cases h : isForward s.time.point ⟨c, s.beaconMicros⟩ = true
  · rw [State.realign_forward h, State.passCycleStarts, State.triggerAll_time]; rfl
  · rw [State.realign_backward h]; rfl

theorem State.realign_marks {c : Cycle} {s : State} (h : isForward s.time.point ⟨c, s.beaconMicros⟩ = true) (k : Line) :
    (s.realign c).marks[k.val] =
      (s.marks[k.val]).pass s.master.cycleLength (fun _ => ⟨c, s.beaconMicros⟩) s.time.point ⟨c, s.beaconMicros⟩ := by
  simp [State.realign_forward h, State.passCycleStarts, State.setMarks, marksRealign]

/-- The records that take their trigger when the cycle starts behind `old`, up to `new`, are passed. -/
theorem StreamRecord.armedAt_starts_iff {old new : Cycle} {r : StreamRecord} :
    r.armedAt (fun c => passes ⟨old, 0⟩ ⟨new, 0⟩ ⟨c, 0⟩) = true ↔ r.state = .armed ∧
      ∃ a, r.trigger = some (.atCycle a) ∧ 1 ≤ (a - old).toNat ∧ (a - old).toNat ≤ (new - old).toNat := by
  unfold StreamRecord.armedAt
  split
  next a hs ht => simp [hs, ht, passes_start_iff]
  next h => exact iff_of_false Bool.false_ne_true fun ⟨hs, a, ht, _⟩ => h a hs ht

/-- The reports of an event, read off the records that it changed: a start leaves no record as it was. -/
theorem startReports_eq_of_changed {test : StreamRecord → Bool} (harmed : ∀ r, test r = true → r.state = .armed) {s t : State}
    (ht : ∀ i, t.stream i = (s.stream i).map fun r => if test r then { r with state := .running, trigger := none } else r)
    (q : ReportQueue) : startReports test s q = allSids.foldl (fun q i =>
      match s.stream i, t.stream i with
      | some r, some r' =>
        if r = r' then q
        else if r.defn.endMode = .refill ∧ r.residue = 0 then (q.offer (.streamStarted i)).offer (.refillNeeded i)
        else q.offer (.streamStarted i)
      | _, _ => q) q := by
  refine List.foldl_ext _ _ _ fun q i _ => ?_
  rw [ht i]
  cases s.stream i with
  | none => rfl
  | some r =>
    by_cases hr : test r = true
    · have hne : r ≠ { r with state := .running, trigger := none } := fun h => by
        have hrun := congrArg StreamRecord.state h
        rw [harmed r hr] at hrun
        cases hrun
      simp only [Option.map_some, if_pos hr, if_neg hne]
      rw [if_neg (by simp [hr])]
    · simp [hr]

/-- Settles O34: the three parts of a forward move, time, streams with their reports, and mark lines, each by its own lemma. -/
theorem realignmentPasses : Obligations.RealignmentPasses := by
  rintro c d s t old new rfl rfl rfl rfl
  have htime := State.realign_time c s
  have hiff := isForward_iff (old := s.time.point) (new := ⟨c, s.beaconMicros⟩)
  refine ⟨htime, fun hback => ?_, fun hforward => ?_⟩
  · have hb := State.realign_backward (mt hiff.mp hback)
    rw [hb]
    rfl
  · have hf := hiff.mpr hforward
    have hd : (c - s.time.cycle).toNat ≤ 2048 := by omega
    have heq := State.realign_forward hf
    have hspec := State.triggerAll_spec (StreamRecord.armedAt fun a => passes ⟨s.time.cycle, 0⟩ ⟨c, 0⟩ ⟨a, 0⟩)
      ((s.setTime { s.time with cycle := c, offset := s.beaconMicros }).setMarks
        (marksRealign s.master.cycleLength s.time.point ⟨c, s.beaconMicros⟩ s.marks))
    rw [← State.passCycleStarts, ← heq] at hspec
    obtain ⟨hstarted, hreports⟩ := hspec
    have hstreams (j : Sid) : (s.realign c).stream j = (s.stream j).map fun r =>
        if r.armedAt (fun a => passes ⟨s.time.cycle, 0⟩ ⟨c, 0⟩ ⟨a, 0⟩) then { r with state := .running, trigger := none }
        else r := hstarted j
    refine ⟨?_, fun i r hr => ⟨fun ha hs => ?_, fun hno => ?_⟩, ?_, fun k pre post hm hpre hpost => ⟨?_, ?_, ?_, ?_⟩⟩
    · rw [heq, State.passCycleStarts, State.mk.injEq]
      simp [State.setMarks, State.setTime]
    · rw [hstreams i, hr, Option.map_some,
        if_pos (StreamRecord.armedAt_starts_iff.mpr ⟨hs, ha⟩)]
    · rw [hstreams i, hr, Option.map_some, if_neg]
      rw [StreamRecord.armedAt_starts_iff]
      exact fun ⟨hs, ha⟩ => hno.elim (· hs) (· ha)
    · exact hreports.trans
        (startReports_eq_of_changed (s := s) (fun r hr => (StreamRecord.armedAt_starts_iff.mp hr).1) hstreams _)
    · rw [State.realign_marks hf]
      exact MarkLine.pass_schedule hm hpre hpost
    · rintro rfl hnot
      rw [State.realign_marks hf, MarkLine.pass_of_none (by rw [hm]; exact hpost)]
      exact MarkLine.endIfPassed_not_passed hnot
    · rintro rfl p hp hpassed
      rw [State.realign_marks hf, MarkLine.pass_of_none (by rw [hm]; exact hpost)]
      exact MarkLine.endIfPassed_passed hp hpassed
    · rintro l e rfl hlength hwidth
      rw [State.realign_marks hf]
      have hspan : (s.beaconMicros + e.width) / s.master.cycleLength < 2048 := by
        have hrate := s.master.rate.charMicros_le
        refine Nat.div_lt_of_lt_mul ?_
        simp only [State.beaconMicros, State.chars]
        omega
      exact MarkLine.pass_realigned hm hpre hpost fun hw => not_passed_plus hd (by omega) hspan

end Sys2Proof.Machine
end

section
/-! SUPPORT. Changes of mastership: O29. -/

set_option Elab.async false

namespace Sys2Proof.Machine

open Sys2Proof.Safety

/-! ## A pass over the streams -/

section
variable {f : State → Sid → State} (hother : ∀ (s : State) (i j : Sid), i ≠ j → (f s i).stream j = s.stream j)
include hother

/-- A pass that changes at each id that stream alone changes each stream once. -/
theorem foldl_stream_of_own {g : StreamRecord → StreamRecord} (hown : ∀ s i, (f s i).stream i = (s.stream i).map g)
    {ids : List Sid} (hnodup : ids.Nodup) (s : State) (j : Sid) :
    (ids.foldl f s).stream j = if j ∈ ids then (s.stream j).map g else s.stream j := by
  induction ids generalizing s with
  | nil => rfl
  | cons i is ih =>
    obtain ⟨hi, his⟩ := List.nodup_cons.mp hnodup
    rw [List.foldl_cons, ih his]
    by_cases hj : j = i
    · subst hj
      rw [if_neg hi, if_pos List.mem_cons_self, hown]
    · simp [hj, hother s i j (Ne.symm hj)]

/-- What such a pass adds, read off the streams as they were before it. -/
theorem foldl_read_of_own {α : Type} {get : State → α} {g : Option StreamRecord → Sid → α → α}
    (hget : ∀ s i, get (f s i) = g (s.stream i) i (get s)) {ids : List Sid} (hnodup : ids.Nodup) (s : State) :
    get (ids.foldl f s) = ids.foldl (fun a i => g (s.stream i) i a) (get s) := by
  induction ids generalizing s with
  | nil => rfl
  | cons i is ih =>
    obtain ⟨hi, his⟩ := List.nodup_cons.mp hnodup
    rw [List.foldl_cons, List.foldl_cons, ih his, hget]
    refine List.foldl_ext _ _ _ fun a j hj => ?_
    rw [hother s i j fun h => hi (h ▸ hj)]

end

/-! ## The loss of the link (R30) -/

/-- The link's loss halts the stream. -/
abbrev StreamRecord.losesLink (r : StreamRecord) : Prop := r.state = .armed ∨ r.state = .running ∨ r.state = .paused

/-- The record behind the loss of the link. -/
def StreamRecord.linkLost (r : StreamRecord) : StreamRecord :=
  if r.losesLink then { r with
    state := .halted, condition := some .linkLost, trigger := none, stopPending := false
    stopTags := if r.stopPending then [] else r.stopTags }
  else r

/-- The report of one stream at the loss of the link. -/
def lossReport (x : Option StreamRecord) (i : Sid) (q : ReportQueue) : ReportQueue :=
  match x with
  | some r =>
    if r.losesLink then q.offer (.streamEnded i .halted (some .linkLost) r.lastFailure r.residue r.accepted) else q
  | none => q

/-- The answers of one stream's waiting STOPs at the loss of the link. -/
def lossAnswers (x : Option StreamRecord) (_ : Sid) (p : Port) : Port :=
  match x with
  | some r =>
    if r.losesLink ∧ r.stopPending = true then r.stopTags.foldl (fun p tag => p.makeReady tag [0x01, 0x07]) p else p
  | none => p

theorem State.loseLink_none {i : Sid} {s : State} (h : s.stream i = none) : s.loseLink i = s := by
  simp only [State.loseLink, h]

theorem State.loseLink_kept {i : Sid} {r : StreamRecord} {s : State} (h : s.stream i = some r) (hr : ¬ r.losesLink) :
    s.loseLink i = s := by
  simp only [State.loseLink, h]
  split
  next hs => exact absurd (.inl hs) hr
  next hs => exact absurd (.inr (.inl hs)) hr
  next hs => exact absurd (.inr (.inr hs)) hr
  all_goals rfl

/-- The loss of the link at a stream that it halts: the record, STREAM_ENDED, and the answers of the waiting STOPs. -/
theorem State.loseLink_lost {i : Sid} {r : StreamRecord} {s : State} (h : s.stream i = some r) (hr : r.losesLink) :
    s.loseLink i = ((s.setStream i (some r.linkLost)).setPort (lossAnswers (some r) i s.port)).offer
      (.streamEnded i .halted (some .linkLost) r.lastFailure r.residue r.accepted) := by
  have hhalt : s.loseLink i = (s.halt i { r with trigger := none } .linkLost).resolveStop i := by
    simp only [State.loseLink, h]
    rcases hr with hs | hs | hs <;> simp only [hs]
  have hself : (s.halt i { r with trigger := none } .linkLost).stream i =
      some { r with trigger := none, state := .halted, condition := some .linkLost } := State.setStream_stream_self _ _ _
  rw [hhalt, StreamRecord.linkLost, if_pos hr, lossAnswers]
  by_cases hp : r.stopPending = true
  · rw [resolveStop_ended hself hp (.inl rfl) rfl, State.halt, State.endStream, if_pos hp, if_pos ⟨hr, hp⟩]
    simp only [State.offer, State.setReports, State.setPort, State.setStream, State.setStreams, Vector.set_set]
    rfl
  · rw [resolveStop_none (by rw [hself]; simp [hp]), if_neg hp, if_neg (fun hh => hp hh.2), Bool.eq_false_iff.mpr hp]
    rfl

/-- The loss of the link at one stream: its record, its report, its answers, and no other stream. -/
theorem State.loseLink_spec (i : Sid) (s : State) :
    (s.loseLink i).stream i = (s.stream i).map StreamRecord.linkLost ∧
    (∀ j, i ≠ j → (s.loseLink i).stream j = s.stream j) ∧
    (s.loseLink i).reports = lossReport (s.stream i) i s.reports ∧
    (s.loseLink i).port = lossAnswers (s.stream i) i s.port := by
  cases h : s.stream i with
  | none =>
    rw [State.loseLink_none h]
    exact ⟨h, fun _ _ => rfl, rfl, rfl⟩
  | some r =>
    by_cases hr : r.losesLink
    · rw [State.loseLink_lost h hr]
      refine ⟨?_, fun j hj => State.setStream_stream_ne hj _ _, ?_, rfl⟩
      · exact State.setStream_stream_self _ _ _
      · exact (if_pos hr).symm
    · rw [State.loseLink_kept h hr]
      refine ⟨?_, fun _ _ => rfl, ?_, ?_⟩
      · rw [h, Option.map_some, StreamRecord.linkLost, if_neg hr]
      · exact (if_neg hr).symm
      · exact (if_neg fun hh => hr hh.1).symm

theorem State.loseAll_spec (s : State) :
    (∀ j, s.loseAll.stream j = (s.stream j).map StreamRecord.linkLost) ∧
    s.loseAll.reports = allSids.foldl (fun q i => lossReport (s.stream i) i q) s.reports ∧
    s.loseAll.port = allSids.foldl (fun p i => lossAnswers (s.stream i) i p) s.port := by
  have hother (s : State) (i j : Sid) (h : i ≠ j) : (s.loseLink i).stream j = s.stream j := (s.loseLink_spec i).2.1 j h
  have hnodup : allSids.Nodup := by decide
  refine ⟨fun j => ?_, ?_, ?_⟩
  · have hj : j ∈ allSids := by revert j; decide
    rw [State.loseAll, foldl_stream_of_own hother (fun s i => (s.loseLink_spec i).1) hnodup, if_pos hj]
  · exact foldl_read_of_own (get := State.reports) hother (fun s i => (s.loseLink_spec i).2.2.1) hnodup s
  · exact foldl_read_of_own (get := State.port) hother (fun s i => (s.loseLink_spec i).2.2.2) hnodup s

/-! ## The streams at a change (R30, R31) -/

/-- The record of a stream behind a change of mastership. -/
def StreamRecord.followed (new : MastState) (r : StreamRecord) : StreamRecord :=
  if new = .offline ∨ new = .faulted then r.linkLost
  else if new = .leading then { r with resyncPending := true }
  else r

theorem StreamRecord.followed_eq (new : MastState) (r : StreamRecord) : r.followed new =
    if (new = .offline ∨ new = .faulted) ∧ (r.state = .armed ∨ r.state = .running ∨ r.state = .paused) then
      { r with
        state := .halted, condition := some .linkLost, trigger := none, stopPending := false
        stopTags := if r.stopPending then [] else r.stopTags }
    else if new = .leading then { r with resyncPending := true }
    else r := by
  unfold StreamRecord.followed StreamRecord.linkLost
  by_cases hnew : new = .offline ∨ new = .faulted
  · by_cases hr : r.losesLink
    · have hboth : (new = .offline ∨ new = .faulted) ∧ r.losesLink := ⟨hnew, hr⟩
      rw [if_pos hnew, if_pos hr, if_pos hboth]
    · have hnone : ¬ ((new = .offline ∨ new = .faulted) ∧ r.losesLink) := fun h => hr h.2
      rw [if_pos hnew, if_neg hr, if_neg hnone, if_neg (by rcases hnew with rfl | rfl <;> decide)]
  · have hnone : ¬ ((new = .offline ∨ new = .faulted) ∧ r.losesLink) := fun h => hnew h.1
    rw [if_neg hnew, if_neg hnone]

theorem State.streamsFollow_spec (new : MastState) (s : State) :
    (∀ j, (s.streamsFollow new).stream j = (s.stream j).map (StreamRecord.followed new)) ∧
    (s.streamsFollow new).reports = (if new = .offline ∨ new = .faulted then
      allSids.foldl (fun q i => lossReport (s.stream i) i q) s.reports else s.reports) ∧
    (s.streamsFollow new).port = (if new = .offline ∨ new = .faulted then
      allSids.foldl (fun p i => lossAnswers (s.stream i) i p) s.port else s.port) := by
  have hid (x : Option StreamRecord) : x = x.map fun r => r := by simp
  cases new with
  | offline | faulted => exact s.loseAll_spec
  | leading =>
    refine ⟨fun j => ?_, rfl, rfl⟩
    simp [State.streamsFollow, State.resyncAll, State.setStreams, State.stream]
    rfl
  | listening | following => exact ⟨fun j => hid _, rfl, rfl⟩

/-! ## The parts of a change (R106) -/

theorem State.planFollows_engine (new : MastState) (s : State) :
    (s.planFollows new).engine = { s.engine with busy := if new.supervised then 0 else s.engine.busy } := by
  cases new <;> rfl

theorem State.planFollows_plan (new : MastState) (s : State) :
    (s.planFollows new).plan = { s.plan with
      stage := if new = .leading then .opening else .standby
      record := if new = .leading then some (newRecord s.time.cycle) else none } := by
  cases new <;> rfl

/-- No frame of the part is on the line once it has left LEADING. -/
theorem State.leaveLeading_driven {s : State} (h : s.master.state = .leading) (new : MastState) :
    (s.leaveLeading new).engine.drivenUntil ≤ s.time.clock := by
  have hrelease : s.releaseLine.engine.drivenUntil ≤ s.time.clock := Nat.min_le_right _ _
  rw [State.leaveLeading, if_pos h, State.settleTransaction]
  (repeat' split) <;> simpa [State.dropTransaction] using hrelease

/-! ## Settled requests and dropped transactions -/

theorem State.dropTransaction_eq (s : State) : s.dropTransaction = { s with
    engine := { s.engine with transaction := none }
    memory := { s.memory with free := s.memory.free + reservedBlocks s, reservation := none } } := by
  unfold State.dropTransaction State.returnReservation reservedBlocks
  split
  next h =>
    have hn : s.memory.reservation = none := h
    simp only [hn, Option.map_none, Option.getD_none, Nat.add_zero]
    rw [← hn]
    rfl
  next r h =>
    have hs : s.memory.reservation = some r := h
    simp only [hs, Option.map_some, Option.getD_some]
    rfl

/-- The steps of a change behind the leaving of LEADING, which keeps the mastership unit. -/
theorem State.changeMastership_eq (new : MastState) (cause : Cause) (s : State) : s.changeMastership new cause =
    ((((s.leaveLeading new).setMaster { s.master with state := new, lastCause := some cause }).offer
      (.mastership new cause s.master.lastPartner)).streamsFollow new).planFollows new := by
  simp only [State.changeMastership, State.leaveLeading_master]
  rfl

theorem State.changeMastership_master (new : MastState) (cause : Cause) (s : State) :
    (s.changeMastership new cause).master = { s.master with state := new, lastCause := some cause } := by
  simp [State.changeMastership]

theorem State.faulted_eq (cause : Cause) (s : State) : s.faulted cause =
    (((s.setMaster { s.master with listenCount := none }).changeMastership .faulted cause).settleListen
      [0x00, 0x04, cause.code, (s.master.lastPartner.map (·.code)).getD 0]).settleHandovers [0x02, 0x04] := by
  have hdone : ((s.setMaster { s.master with listenCount := none }).changeMastership .faulted cause).linkUpDone =
      [0x00, 0x04, cause.code, (s.master.lastPartner.map (·.code)).getD 0] := by
    rw [State.linkUpDone, State.changeMastership_master, partnerCode_eq]
    rfl
  rw [← hdone]
  rfl

/-- Settles O29: the state left behind, then each part of the change read off its step of R106. -/
theorem mastershipChanged : Obligations.MastershipChanged := by
  refine ⟨?_, fun s => rfl, State.dropTransaction_eq, State.faulted_eq⟩
  rintro new cause s v t hv rfl
  obtain rfl : v = s.leaveLeading new := hv
  have heq := State.changeMastership_eq new cause s
  obtain ⟨hstream, hreports, hport⟩ := State.streamsFollow_spec new
    (((s.leaveLeading new).setMaster { s.master with state := new, lastCause := some cause }).offer
      (.mastership new cause s.master.lastPartner))
  refine ⟨State.changeMastership_master new cause s, ?_, fun hlead => ?_, ?_, fun i => ?_, ?_, ?_, ?_, ?_⟩
  · rw [heq, State.planFollows_engine, State.streamsFollow_engine]
    rfl
  · have hdriven := State.leaveLeading_driven hlead new
    simpa [State.ldrv, State.changeMastership, State.planFollows_engine] using hdriven
  · rw [heq, State.planFollows_plan, State.streamsFollow_plan, State.streamsFollow_time]
    rfl
  · have hrecords : (s.changeMastership new cause).stream i = ((s.leaveLeading new).stream i).map (StreamRecord.followed new) := by
      rw [heq, State.stream, State.planFollows_streams]
      exact hstream i
    rw [hrecords, funext (StreamRecord.followed_eq new)]
  · rw [heq, State.planFollows_reports]
    exact hreports
  · rw [heq, State.planFollows_port]
    exact hport
  · simp [State.changeMastership]
  · simp

end Sys2Proof.Machine
end

section
/-! SUPPORT. Beacons heard while leading: O33. -/

set_option Elab.async false

namespace Sys2Proof.Machine

open Sys2Proof.Safety

/-! ## An outcome reaches the stream of its transaction alone (R92) -/

section
variable {i j : Sid} (h : j ≠ i) (s : State)
include h

theorem State.halt_stream_ne (r : StreamRecord) (c : Condition) : (s.halt i r c).stream j = s.stream j :=
  State.setStream_stream_ne (Ne.symm h) _ _

theorem State.finish_stream_ne (r : StreamRecord) (c : Condition) : (s.finish i r c).stream j = s.stream j := by
  rw [State.finish_eq]
  exact State.setStream_stream_ne (Ne.symm h) _ _

theorem State.goOn_stream_ne (r : StreamRecord) (marked : Bool) : (s.goOn i r marked).stream j = s.stream j := by
  rw [State.stream, State.goOn_streams]
  exact State.setStream_stream_ne (Ne.symm h) _ _

theorem State.conclude_stream_ne (r : StreamRecord) (marked : Bool) (e : EndCheck) :
    (s.conclude i r marked e).stream j = s.stream j := by
  cases e with
  | closed | complete | short => exact State.finish_stream_ne h s _ _
  | closeEmpty | stays => exact State.goOn_stream_ne h s _ _

theorem State.applyFailure_stream_ne (k : FailureKind) (r : StreamRecord) : (s.applyFailure i k r).stream j = s.stream j := by
  simp only [State.applyFailure]
  split
  · exact State.halt_stream_ne h _ _ _
  · exact State.setStream_stream_ne (Ne.symm h) _ _

theorem State.resolveStop_stream_ne : (s.resolveStop i).stream j = s.stream j := by
  unfold State.resolveStop
  split
  next => rfl
  next r hr =>
    split
    next =>
      split <;> rw [answerAll_eq]
      · exact State.setStream_stream_ne (Ne.symm h) _ _
      · exact State.setStream_stream_ne (Ne.symm h) _ _
      all_goals exact State.halt_stream_ne h _ _ _
    next => rfl

end

section
variable {tx : Transaction} {j : Sid} (h : j ≠ tx.stream) (s : State)
include h

theorem State.applyAccepted_stream_ne (r : StreamRecord) : (s.applyAccepted tx r).stream j = s.stream j := by
  rw [State.applyAccepted_eq, State.conclude_stream_ne h]
  split <;> rfl

theorem State.applyToStream_stream_ne (o : Outcome) : (s.applyToStream tx o).stream j = s.stream j := by
  have hset (x : Option StreamRecord) : (s.setStream tx.stream x).stream j = s.stream j :=
    State.setStream_stream_ne (Ne.symm h) _ _
  unfold State.applyToStream
  split
  next => rfl
  next r _ =>
    cases o with
    | accepted => exact State.applyAccepted_stream_ne h s r
    | duplicate | wait | yielded => exact hset _
    | reject | overrun => exact State.halt_stream_ne h s r _
    | silent | check | form => exact State.applyFailure_stream_ne h s _ r

theorem State.applyOutcome_stream_ne (o : Outcome) : (s.applyOutcome tx o).stream j = s.stream j := by
  rw [State.applyOutcome, State.resolveStop_stream_ne h, State.stream, State.joinWaited_streams]
  refine (State.applyToStream_stream_ne h _ o).trans ?_
  simp [State.stream]

end

/-- Leaving LEADING changes no stream but that of the transaction in flight. -/
theorem State.leaveLeading_stream {i : Sid} {s : State} (h : s.inFlight i = false) (new : MastState) :
    (s.leaveLeading new).stream i = s.stream i := by
  unfold State.leaveLeading
  split
  next =>
    unfold State.settleTransaction
    split
    next => rfl
    next tx ht =>
      have hi : i ≠ tx.stream := fun e => by
        have htx : s.engine.transaction = some tx := ht
        simp [State.inFlight, htx, e] at h
      split
      next => exact State.applyOutcome_stream_ne hi _ _
      next =>
        split
        · exact State.applyOutcome_stream_ne hi _ _
        · simp [State.stream]
  next => rfl

/-! ## What a change of mastership settles, unit by unit -/

theorem State.settleListen_master (b : Body) (s : State) :
    (s.settleListen b).master = { s.master with listenRequest := none } := by
  unfold State.settleListen
  split
  next h =>
    have hn : s.master.listenRequest = none := h
    rw [← hn]
  next => simp

theorem State.settleHandovers_master (b : Body) (s : State) :
    (s.settleHandovers b).master = { s.master with handovers := [], armed := false } := by
  refine List.foldlRecOn (motive := fun t : State => t.master = { s.master with handovers := [], armed := false })
    s.master.handovers _ rfl fun t ht w _ => ?_
  rw [State.answerWaiter_master, ht]

theorem State.faulted_master (cause : Cause) (s : State) : (s.faulted cause).master = { s.master with
    state := .faulted, lastCause := some cause, listenCount := none, listenRequest := none, handovers := []
    armed := false } := by
  rw [State.faulted_eq, State.settleHandovers_master, State.settleListen_master, State.changeMastership_master]
  rfl

/-- A change out of LEADING, or between other states, leaves no transaction, no driven line and no cycle record. -/
theorem State.changeMastership_released {new : MastState} (hnew : new ≠ .leading) {s : State}
    (h : s.master.state ≠ .leading → s.engine.transaction = none ∧ s.ldrv = false) (cause : Cause) :
    (s.changeMastership new cause).engine.transaction = none ∧ (s.changeMastership new cause).ldrv = false ∧
      (s.changeMastership new cause).plan.stage = .standby ∧ (s.changeMastership new cause).plan.record = none := by
  have hleft : (s.leaveLeading new).engine.transaction = none ∧ (s.leaveLeading new).engine.drivenUntil ≤ s.time.clock := by
    by_cases hlead : s.master.state = .leading
    · refine ⟨?_, State.leaveLeading_driven hlead new⟩
      rw [State.leaveLeading, if_pos hlead]
      exact State.settleTransaction_noTransaction _ _
    · rw [State.leaveLeading, if_neg hlead]
      simpa [State.ldrv] using h hlead
  have hengine : (s.changeMastership new cause).engine =
      { (s.leaveLeading new).engine with busy := if new.supervised then 0 else (s.leaveLeading new).engine.busy } := by
    rw [State.changeMastership_eq, State.planFollows_engine, State.streamsFollow_engine]
    rfl
  refine ⟨?_, ?_, ?_, ?_⟩
  · rw [hengine]
    exact hleft.1
  · simpa [State.ldrv, hengine] using hleft.2
  · rw [State.changeMastership_eq, State.planFollows_plan]
    exact if_neg hnew
  · rw [State.changeMastership_eq, State.planFollows_plan]
    exact if_neg hnew

/-- A fault leaves no transaction, no driven line and no cycle record. -/
theorem State.faulted_released {s : State} (h : s.master.state ≠ .leading → s.engine.transaction = none ∧ s.ldrv = false)
    (cause : Cause) : (s.faulted cause).engine.transaction = none ∧ (s.faulted cause).ldrv = false ∧
      (s.faulted cause).plan.stage = .standby ∧ (s.faulted cause).plan.record = none := by
  have hrel := State.changeMastership_released (new := .faulted) (by decide)
    (s := s.setMaster { s.master with listenCount := none }) h cause
  simpa [State.faulted_eq, State.ldrv] using hrel

/-- A fault halts each stream that is ARMED, RUNNING or PAUSED; here one on which no STOP waits. -/
theorem State.faulted_stream {i : Sid} {r : StreamRecord} {s : State} (hr : s.stream i = some r) (hi : s.inFlight i = false)
    (hp : r.stopPending = false) (cause : Cause) : (s.faulted cause).stream i = some
      (if r.state = .armed ∨ r.state = .running ∨ r.state = .paused then
        { r with state := .halted, condition := some .linkLost, trigger := none }
      else r) := by
  have hleft : ((s.setMaster { s.master with listenCount := none }).leaveLeading .faulted).stream i = some r :=
    (State.leaveLeading_stream (s := s.setMaster { s.master with listenCount := none }) hi _).trans hr
  have hstream : (s.faulted cause).stream i =
      (((s.setMaster { s.master with listenCount := none }).leaveLeading .faulted).stream i).map (·.followed .faulted) := by
    rw [State.faulted_eq, State.changeMastership_eq, State.stream, State.settleHandovers_streams, State.settleListen_streams,
      State.planFollows_streams]
    exact (State.streamsFollow_spec .faulted _).1 i
  rw [hstream, hleft, Option.map_some, StreamRecord.followed_eq]
  simp only [or_true, true_and, reduceCtorEq, if_false, hp, Bool.false_eq_true]

/-! ## The link rate in the passing of time -/

theorem State.masterBoundary_rate (s : State) : s.masterBoundary.master.rate = s.master.rate := by
  unfold State.masterBoundary
  split
  next =>
    split
    next => rfl
    next =>
      split
      · rw [State.settleListen_master, State.changeMastership_master]; rfl
      · rfl
  next =>
    split
    · rw [State.changeMastership_master]; rfl
    · rfl
  all_goals rfl

theorem State.cycleBoundary_rate (s : State) : s.cycleBoundary.master.rate = s.master.rate := by
  simp only [State.cycleBoundary, State.masterBoundary_rate, State.passCycleStarts, State.triggerAll_master, State.planBoundary]
  split <;> simp [State.timeBoundary, State.openRecord]

theorem State.passTime_rate (n : Nat) (s : State) : (s.passTime n).master.rate = s.master.rate :=
  State.passTime_keeps (·.master.rate) (fun _ _ => rfl) State.cycleBoundary_rate
    (fun s => by rw [State.faulted_master]) n s

/-! ## A row that is one well-formed beacon (R79, R80) -/

theorem eq_map_some_of_heardBytes {chars : List LinkChar} {bs : List Byte} (h : heardBytes chars = some bs) :
    chars = bs.map some := by
  induction chars generalizing bs with
  | nil =>
    cases h
    rfl
  | cons c cs ih =>
    unfold heardBytes at h
    split at h
    next b bs' hbs =>
      cases h
      rw [ih hbs]
      rfl
    next => cases h

/-- The characters of a well-formed beacon: its type, then five more. -/
theorem chars_of_readBeacon {chars : List LinkChar} {id : UnitId} {c : Cycle} (h : readBeacon chars = some (id, c)) :
    ∃ a b d e f : Byte, chars = [some beaconType, some a, some b, some d, some e, some f] := by
  unfold readBeacon at h
  split at h
  next t u hi lo k1 k2 hb =>
    split at h
    next => cases h
    next hgood =>
      have ht : t = beaconType := by
        by_contra hne
        exact hgood (by simp [hne])
      exact ⟨u, hi, lo, k1, k2, by rw [eq_map_some_of_heardBytes hb, ht]; rfl⟩
  next => cases h

theorem splitFrames_nil (k : Nat) : splitFrames k [] = [] := by cases k <;> rfl

/-- A row whose first frame is the whole of it. -/
theorem framesOf_eq_singleton {row : List LinkTime} (hne : row ≠ []) (h : rowSpan row = row.length) : framesOf row = [row] := by
  obtain ⟨t, ts, rfl⟩ := List.exists_cons_of_ne_nil hne
  rw [framesOf, List.length_cons, splitFrames, h, List.take_length, List.drop_length, splitFrames_nil]

/-- Levels before the first character are no part of a frame. -/
theorem head?_ne_level {row : List LinkTime} (h : rowSpan row = row.length) (hc : heardChars row ≠ []) :
    row.head? ≠ some none := by
  intro hhead
  obtain ⟨ts, rfl⟩ : ∃ ts, row = none :: ts := by
    cases row with
    | nil => cases hhead
    | cons t ts => cases hhead; exact ⟨ts, rfl⟩
  have hall : ((none :: ts : List LinkTime).takeWhile Option.isNone) = none :: ts :=
    (List.takeWhile_prefix _).eq_of_length h
  have hnone : ∀ t ∈ (none :: ts : List LinkTime), t.isNone = true := List.takeWhile_eq_self_iff.mp hall
  refine hc (List.filterMap_eq_nil_iff.mpr fun t ht => ?_)
  exact Option.isNone_iff_eq_none.mp (hnone t ht)

/-- A beacon's row, heard whole by a part that neither drives the line nor hears a frame, reaches the mastership unit. -/
theorem exec_beaconReceived {after : Nat} {times : List (Option Byte)} {errs : List Nat} {row : List LinkTime} {id : UnitId}
    {c : Cycle} {s v u : State} (hrow : row = linkTimes times errs) (hspan : rowSpan row = row.length)
    (hread : readBeacon (heardChars row) = some (id, c)) (hrun : s.inReset = false) (hhear : s.engine.hearing = false)
    (hv : v = (s.passTime after).closeWindow) (hquiet : v.ldrv = false)
    (hu : u = v.passBusy (row.length * s.master.rate.charMicros)) :
    exec (.beaconReceived after times errs) s = .next (u.beaconHeard id c) := by
  obtain ⟨a, b, d, e, f, hchars⟩ := chars_of_readBeacon hread
  have hne : heardChars row ≠ [] := by rw [hchars]; exact List.cons_ne_nil _ _
  have hrowne : row ≠ [] := by
    rintro rfl
    exact hne rfl
  have hrate : v.chars row.length = row.length * s.master.rate.charMicros := by
    rw [State.chars, hv, State.closeWindow_master, State.passTime_rate]
  have hshort : v.hearChars row = u.beaconHeard id c := by
    have hstops : State.hearShort (v.chars row.length) (heardChars row) v = u.beaconHeard id c := by
      have hwhole : frameWhole (heardChars row) = true := by rw [hchars]; rfl
      simp only [State.hearShort, hwhole, State.frameStops, if_true, hquiet, State.takeFrame, hread, hrate, ← hu]
      rfl
    rw [hchars] at hstops
    simp only [State.hearChars, hchars]
    rw [if_neg (by decide)]
    exact hstops
  have hall : s.frameHeard after row = u.beaconHeard id c := by
    have hframe : (s.passTime after).hearFrame row = u.beaconHeard id c := by
      rw [State.hearFrame, if_neg (head?_ne_level hspan hne), ← hv, hshort]
    simp [State.frameHeard, hhear, State.hearAll, framesOf_eq_singleton hrowne hspan, hframe]
  calc exec (.beaconReceived after times errs) s
      = whenRunning (State.frameHeard after (linkTimes times errs)) s := rfl
    _ = .next (u.beaconHeard id c) := by rw [← hrow, whenRunning, hrun, hall]; rfl

/-! ## What the mastership unit does with it (R114, R115, R123) -/

section
variable {s : State} {id : UnitId} (c : Cycle)

theorem State.beaconHeard_own (hid : id = s.master.unit)
    (hst : s.master.state = .listening ∨ s.master.state = .leading ∨ s.master.state = .following) :
    s.beaconHeard id c = s.faulted .idClash := by
  unfold State.beaconHeard
  rw [if_pos hid]
  rcases hst with hst | hst | hst <;> simp only [hst]

theorem State.beaconHeard_own_inactive (hid : id = s.master.unit)
    (hst : s.master.state = .offline ∨ s.master.state = .faulted) : s.beaconHeard id c = s := by
  unfold State.beaconHeard
  rw [if_pos hid]
  rcases hst with hst | hst <;> simp only [hst]

theorem State.beaconHeard_leading (hid : id ≠ s.master.unit) (hst : s.master.state = .leading) :
    s.beaconHeard id c = s.clash id c := by
  unfold State.beaconHeard
  rw [if_neg hid]
  simp only [hst]

/-- Unit 1 keeps the link: CLASH, and a displaced reply counts FORM. -/
theorem State.clash_one (hunit : s.master.unit = .one) : s.clash id c = { s with
    master := { s.master with lastPartner := some id }
    reports := s.reports.offer (.clash c)
    engine := { s.engine with
      transaction := s.engine.transaction.map fun tx =>
        if tx.phase = .replyWindow ∨ tx.phase = .receiving then
          { tx with decided := some .form, phase := .closing, begun := false }
        else tx } } := by
  have hclash : s.clash id c =
      if State.awaitsReply ((s.setMaster { s.master with lastPartner := some id }).offer (.clash c)) then
        State.decideOutcome .form .closing ((s.setMaster { s.master with lastPartner := some id }).offer (.clash c))
      else (s.setMaster { s.master with lastPartner := some id }).offer (.clash c) := by
    unfold State.clash
    split
    next => rfl
    next htwo => rw [hunit] at htwo; cases htwo
  have hawaits : State.awaitsReply ((s.setMaster { s.master with lastPartner := some id }).offer (.clash c)) =
      s.engine.transaction.any fun tx => tx.phase == .replyWindow || tx.phase == .receiving := rfl
  rw [hclash, hawaits]
  cases ht : s.engine.transaction with
  | none =>
    rw [if_neg (by simp), Option.map_none, ← ht]
    rfl
  | some tx =>
    by_cases hph : tx.phase = .replyWindow ∨ tx.phase = .receiving
    · rw [if_pos (by simpa using hph), Option.map_some, if_pos hph, State.decideOutcome]
      simp only [State.offer, State.setReports, State.setMaster, State.setEngine, ht, Option.map_some]
    · rw [if_neg (by simpa using hph), Option.map_some, if_neg hph, ← ht]
      rfl

/-- Unit 2 yields (R114, R120). -/
theorem State.clash_two (hunit : s.master.unit = .two) : s.clash id c =
    (State.realign c (State.changeMastership .following .yield { s with master := { s.master with
      lastPartner := some id, silenceCount := 0, silenceLimit := s.master.timeout, listenCount := none }
      })).settleHandovers [0x02, 0x03] := by
  unfold State.clash
  split
  next hone => rw [hunit] at hone; cases hone
  next => rfl

end

/-- Settles O33: the beacon reaches the mastership unit, where the state and the unit id decide. -/
theorem beaconWhileLeading : Obligations.BeaconWhileLeading := by
  intro after times errs row id c s v u hrow hspan hread hrun hhear hv hquiet hu
  have hexec := exec_beaconReceived hrow hspan hread hrun hhear hv hquiet hu
  refine ⟨fun hst hunit hid => ?_, fun hst hunit hid => ?_, fun hst hid => ?_, fun hst hlaw hid => ?_⟩
  · rw [hexec, State.beaconHeard_leading c (by simp [hid, hunit]) hst, State.clash_one c hunit, hid]
  · rw [State.beaconHeard_leading c (by simp [hid, hunit]) hst, State.clash_two c hunit, hid] at hexec
    refine ⟨_, hexec, rfl, ?_, ?_⟩
    · rw [State.settleHandovers_master, State.realign_master, State.changeMastership_master]
    · obtain ⟨htx, hline, hstage, hrecord⟩ := State.changeMastership_released (new := .following) (by decide)
        (s := { u with master := { u.master with
          lastPartner := some .one, silenceCount := 0, silenceLimit := u.master.timeout, listenCount := none } })
        (fun hne => absurd hst hne) .yield
      refine ⟨?_, ?_, ?_, ?_, ?_⟩
      · simpa using htx
      · simpa [State.ldrv, State.realign_time] using hline
      · simpa using hstage
      · simpa using hrecord
      · rw [State.settleHandovers_time, State.realign_time, State.beaconMicros, State.chars, State.changeMastership_master,
          State.changeMastership_time]
  · rw [hexec, State.beaconHeard_own_inactive c hid hst]
  · rw [State.beaconHeard_own c hid hst] at hexec
    obtain ⟨htx, -, -, hline, -, hstop, -⟩ := hlaw
    have hidle (hne : u.master.state ≠ .leading) : u.engine.transaction = none ∧ u.ldrv = false :=
      ⟨Option.not_isSome_iff_eq_none.mp (mt htx hne), Bool.eq_false_iff.mpr (mt hline hne)⟩
    obtain ⟨htx', hline', hstage', hrecord'⟩ := State.faulted_released hidle .idClash
    refine ⟨_, hexec, rfl, ?_, htx', hline', hstage', hrecord', State.faulted_time _ _, fun i r hr hi => ?_⟩
    · exact State.faulted_master _ _
    · refine State.faulted_stream hr hi (Bool.eq_false_iff.mpr fun hp => ?_) _
      exact Bool.false_ne_true (hi.symm.trans (hstop i (by rw [hr]; exact hp)))

end Sys2Proof.Machine
end

section
/-! SUPPORT. Outcomes applied: O58. -/

set_option Elab.async false

namespace Sys2Proof.Machine

open Sys2Proof.Safety

/-! ## An outcome in the units, before the waiting STOP (R92) -/

theorem State.returnReservation_memory (s : State) : s.returnReservation.memory =
    { s.memory with free := s.memory.free + reservedBlocks s, reservation := none } := by
  unfold State.returnReservation reservedBlocks
  split
  next h =>
    rw [h, Option.map_none, Option.getD_none, Nat.add_zero, ← h]
  next r h =>
    rw [h]
    rfl

/-- The outcome applied in segment memory, the stream table and the waited set. -/
def State.outcomeApplied (tx : Transaction) (o : Outcome) (s : State) : State :=
  (((s.setEngine { s.engine with transaction := none }).applyToMemory tx o).applyToStream tx o).joinWaited tx o

section
variable (tx : Transaction) (o : Outcome) (s : State)

theorem State.applyOutcome_eq : s.applyOutcome tx o = (s.outcomeApplied tx o).resolveStop tx.stream := rfl

theorem State.outcomeApplied_engine : (s.outcomeApplied tx o).engine = { s.engine with transaction := none } := by
  simp [State.outcomeApplied]

theorem State.outcomeApplied_memory :
    (s.outcomeApplied tx o).memory = ((s.setEngine { s.engine with transaction := none }).applyToMemory tx o).memory := by
  simp [State.outcomeApplied]

theorem State.outcomeApplied_stream_ne {j : Sid} (h : j ≠ tx.stream) : (s.outcomeApplied tx o).stream j = s.stream j := by
  rw [State.outcomeApplied, State.stream, State.joinWaited_streams]
  refine (State.applyToStream_stream_ne h _ o).trans ?_
  simp [State.stream]

theorem State.outcomeApplied_frame : s.outcomeApplied tx o = { s with
    streams := (s.outcomeApplied tx o).streams, reports := (s.outcomeApplied tx o).reports
    memory := (s.outcomeApplied tx o).memory, plan := (s.outcomeApplied tx o).plan
    engine := (s.outcomeApplied tx o).engine } := by
  rw [State.mk.injEq]
  simp [State.outcomeApplied]

end

/-- A DEMAND stream that answered WAIT joins the waited set (R68). -/
theorem State.joinWaited_plan {tx : Transaction} {r : StreamRecord} {s : State} (h : s.stream tx.stream = some r) (o : Outcome) :
    (s.joinWaited tx o).plan = if o = .wait ∧ r.defn.kind = .demand then
      { s.plan with record := s.plan.record.map fun c => { c with waited := tx.stream :: c.waited } } else s.plan := by
  have hiff : (o == .wait && (s.stream tx.stream).any fun r => r.defn.isDemand) = true ↔ o = .wait ∧ r.defn.kind = .demand := by
    cases hk : r.defn.kind <;> simp [h, StreamDef.isDemand, hk]
  unfold State.joinWaited
  by_cases hc : o = .wait ∧ r.defn.kind = .demand
  · rw [if_pos (hiff.mpr hc), if_pos hc]
    rfl
  · rw [if_neg (mt hiff.mp hc), if_neg hc]

/-! ## The outcomes but the accepted one (R26 to R29) -/

/-- The outcome halts the stream. -/
def StreamRecord.haltedBy (o : Outcome) (r : StreamRecord) : Bool :=
  match o with
  | .reject | .overrun => true
  | .silent | .check | .form => decide (r.failures + 1 = r.defn.retryBudget)
  | .duplicate | .wait | .yielded | .accepted => false

/-- The record behind an outcome that is not the accepted one. -/
def StreamRecord.afterOutcome (o : Outcome) (r : StreamRecord) : StreamRecord :=
  match o with
  | .duplicate => { r with resyncPending := false, failures := 0 }
  | .wait => { r with failures := 0 }
  | .reject => { r with state := .halted, condition := some .rejected }
  | .overrun => { r with state := .halted, condition := some .overrun }
  | .silent | .check | .form =>
    if r.failures + 1 = r.defn.retryBudget then
      { r with
        failures := r.failures + 1, lastFailure := failureOf o, state := .halted, condition := some .retriesSpent }
    else { r with failures := r.failures + 1, lastFailure := failureOf o }
  | .yielded => { r with lastFailure := some .yielded }
  | .accepted => r

theorem StreamRecord.afterOutcome_defn (o : Outcome) (r : StreamRecord) : (r.afterOutcome o).defn = r.defn := by
  unfold StreamRecord.afterOutcome
  (repeat' split) <;> rfl

section
variable {tx : Transaction} {r : StreamRecord} {o : Outcome} {s : State}

/-- An outcome that is not the accepted one writes the stream's record, and reports the end of a stream that it halts. -/
theorem State.applyToStream_eq (hr : s.stream tx.stream = some r) (ho : o ≠ .accepted) :
    s.applyToStream tx o = if r.haltedBy o then s.endStream tx.stream (r.afterOutcome o)
      else s.setStream tx.stream (some (r.afterOutcome o)) := by
  have hfailure (k : FailureKind) : s.applyFailure tx.stream k r =
      if decide (r.failures + 1 = r.defn.retryBudget) = true then s.endStream tx.stream
          (if r.failures + 1 = r.defn.retryBudget then
            { r with failures := r.failures + 1, lastFailure := some k, state := .halted, condition := some .retriesSpent }
          else { r with failures := r.failures + 1, lastFailure := some k })
      else s.setStream tx.stream (some
          (if r.failures + 1 = r.defn.retryBudget then
            { r with failures := r.failures + 1, lastFailure := some k, state := .halted, condition := some .retriesSpent }
          else { r with failures := r.failures + 1, lastFailure := some k })) := by
    by_cases hb : r.failures + 1 = r.defn.retryBudget
    · rw [if_pos (decide_eq_true hb), if_pos hb]
      exact if_pos hb
    · rw [if_neg (by simpa using hb), if_neg hb]
      exact if_neg hb
  unfold State.applyToStream
  rw [hr]
  cases o with
  | accepted => exact absurd rfl ho
  | silent | check | form => exact hfailure _
  | duplicate | wait | reject | overrun | yielded => rfl

theorem State.applyToStream_stream (hr : s.stream tx.stream = some r) (ho : o ≠ .accepted) :
    (s.applyToStream tx o).stream tx.stream = some (r.afterOutcome o) := by
  rw [State.applyToStream_eq hr ho]
  split
  · exact State.setStream_stream_self _ _ _
  · exact State.setStream_stream_self _ _ _

theorem State.applyToStream_reports (hr : s.stream tx.stream = some r) (ho : o ≠ .accepted) :
    (s.applyToStream tx o).reports =
      if r.haltedBy o then s.reports.offer ((r.afterOutcome o).endedReport tx.stream) else s.reports := by
  rw [State.applyToStream_eq hr ho]
  split <;> rfl

theorem State.applyToStream_plan (hr : s.stream tx.stream = some r) (ho : o ≠ .accepted) :
    (s.applyToStream tx o).plan = s.plan := by
  rw [State.applyToStream_eq hr ho]
  split <;> rfl

/-- Only an accepted outcome moves a segment: any other returns the reservation of an INBOUND transaction. -/
theorem State.applyToMemory_memory (ho : o ≠ .accepted) : (s.applyToMemory tx o).memory =
    if tx.direction = .outbound then s.memory
    else { s.memory with free := s.memory.free + reservedBlocks s, reservation := none } := by
  unfold State.applyToMemory
  split
  next => exact absurd rfl ho
  next => exact absurd rfl ho
  next hd _ => rw [if_pos hd]
  next hd _ =>
    rw [if_neg (by rw [hd]; decide)]
    exact State.returnReservation_memory s

theorem State.applyToMemory_reports (ho : o ≠ .accepted) : (s.applyToMemory tx o).reports = s.reports := by
  unfold State.applyToMemory
  split
  next => exact absurd rfl ho
  next => exact absurd rfl ho
  next => rfl
  next => simp

end

/-! ## The end of a transaction (R92, R99) -/

theorem State.transactionEnd_eq {tx : Transaction} {s : State} (ht : s.engine.transaction = some tx)
    (hph : tx.phase = .closing ∨ tx.phase = .drain) (hhear : s.engine.hearing = false) :
    s.transactionEnd = (s.passTime s.untilIdle).endTransaction := by
  have hclosing : s.closing = true := by
    rcases hph with hph | hph <;> simp [State.closing, ht, hph]
  simp [State.transactionEnd, hclosing, hhear, State.waitIdle]

theorem State.endTransaction_decided {tx : Transaction} {o : Outcome} {s : State} (ht : s.engine.transaction = some tx)
    (ho : tx.decided = some o) : s.endTransaction = (s.applyOutcome tx o).planContinues := by
  simp only [State.endTransaction, ht, ho]

theorem State.endTransaction_none {s : State} (ht : s.engine.transaction = none) : s.endTransaction = s := by
  simp only [State.endTransaction, ht]

/-- Settles O58: the wait for an idle line, then each unit's part of an outcome that is not the accepted one. -/
theorem outcomeApplied : Obligations.OutcomeApplied := by
  refine ⟨fun tx o s u hrun ht hph hdec hhear hu => ?_, fun tx r o s hr _ ho => ?_⟩
  · have hexec : exec .transactionEnd s = .next u.endTransaction := by
      rw [hu, ← State.transactionEnd_eq ht hph hhear]
      exact congrArg Host.Outcome.next (if_neg (by simp [hrun]))
    exact ⟨fun hu' => hexec.trans (congrArg _ (State.endTransaction_decided hu' hdec)),
      fun hu' => hexec.trans (congrArg _ (State.endTransaction_none hu'))⟩
  · let x := (s.setEngine { s.engine with transaction := none }).applyToMemory tx o
    have hx : x.stream tx.stream = some r := by
      rw [← hr]
      simp [x, State.stream]
    have hrecord := State.applyToStream_stream hx ho
    refine ⟨s.outcomeApplied tx o, rfl, ?_, ?_, ?_, ?_, State.outcomeApplied_engine tx o s,
      fun j hj => State.outcomeApplied_stream_ne tx o s hj, State.outcomeApplied_frame tx o s⟩
    · rw [State.outcomeApplied, State.stream, State.joinWaited_streams]
      refine hrecord.trans ?_
      cases o <;> rfl
    · rw [State.outcomeApplied, State.joinWaited_reports, State.applyToStream_reports hx ho, State.applyToMemory_reports ho]
      cases o with
      | accepted => exact absurd rfl ho
      | reject | overrun | duplicate | wait | yielded => rfl
      | silent | check | form =>
        by_cases hb : r.failures + 1 = r.defn.retryBudget <;>
          simp [StreamRecord.haltedBy, StreamRecord.afterOutcome, StreamRecord.endedReport, hb]
    · rw [State.outcomeApplied_memory, State.applyToMemory_memory ho]
      rfl
    · rw [State.outcomeApplied, State.joinWaited_plan hrecord, StreamRecord.afterOutcome_defn, State.applyToStream_plan hx ho,
        State.applyToMemory_plan]
      rfl

end Sys2Proof.Machine
end

section
/-! SUPPORT. The accepted outcome: O59. -/

set_option Elab.async false

namespace Sys2Proof.Machine

open Sys2Proof.Safety

/-! ## The record behind an accepted outcome (R20 to R25) -/

theorem StreamDef.isDemand_iff {d : StreamDef} : d.isDemand = true ↔ d.kind = .demand := by
  unfold StreamDef.isDemand
  split <;> simp [*]

/-- How the stream ends at this result of the end checks. -/
def EndCheck.condition : EndCheck → Option Condition
  | .closed | .complete => some .complete
  | .short => some .shortEnd
  | .closeEmpty | .stays => none

/-- What this result makes of the closing segment that is pending. -/
def EndCheck.pending (before : Bool) : EndCheck → Bool
  | .closed => false
  | .closeEmpty => true
  | .complete | .short | .stays => before

/-- The stream ends, or goes on. -/
theorem State.conclude_eq (i : Sid) (r : StreamRecord) (marked : Bool) (s : State) (e : EndCheck) :
    s.conclude i r marked e =
      match e.condition with
      | some c => s.finish i { r with closingPending := e.pending r.closingPending } c
      | none => s.goOn i { r with closingPending := e.pending r.closingPending } marked := by
  cases e <;> rfl

section
variable {tx : Transaction} {r : StreamRecord}

/-- The end checks in their order, on the record as it was before the outcome. -/
theorem StreamRecord.endCheck_afterAccepted (hd : r.defn.direction = tx.direction) :
    (r.afterAccepted tx).endCheck tx.moved tx.baseSize tx.size =
      if r.defn.endMode ≠ .counted then .stays
      else if r.closingPending = true ∧ tx.moved = 0 then .closed
      else if tx.direction = .outbound ∧ r.defn.closeEmpty = true ∧ r.residue - tx.moved = 0 ∧ tx.moved = tx.baseSize then
        .closeEmpty
      else if r.residue - tx.moved = 0 ∧ r.closingPending = false then .complete
      else if r.defn.kind = .demand ∧ tx.direction = .inbound ∧ tx.moved < tx.size then .short
      else .stays := by
  by_cases hm : r.defn.endMode = .counted
  · have hres : (r.afterAccepted tx).residue = r.residue - tx.moved := by
      simp [StreamRecord.afterAccepted, StreamRecord.progress, hm]
    have hdefn : (r.afterAccepted tx).defn = r.defn := rfl
    have hclosing : (r.afterAccepted tx).closingPending = r.closingPending := rfl
    simp only [StreamRecord.endCheck, hres, hdefn, hclosing, hd, Bool.and_eq_true, beq_iff_eq, decide_eq_true_eq,
      Bool.not_eq_true', and_assoc, StreamDef.isDemand_iff]
  · simp only [StreamRecord.endCheck]
    rw [if_pos hm]
    exact if_pos hm

theorem EndCheck.condition_afterAccepted (hd : r.defn.direction = tx.direction) :
    ((r.afterAccepted tx).endCheck tx.moved tx.baseSize tx.size).condition =
      if r.defn.endMode ≠ .counted then none
      else if r.closingPending = true ∧ tx.moved = 0 then some .complete
      else if tx.direction = .outbound ∧ r.defn.closeEmpty = true ∧ r.residue - tx.moved = 0 ∧ tx.moved = tx.baseSize then none
      else if r.residue - tx.moved = 0 ∧ r.closingPending = false then some .complete
      else if r.defn.kind = .demand ∧ tx.direction = .inbound ∧ tx.moved < tx.size then some .shortEnd
      else none := by
  rw [StreamRecord.endCheck_afterAccepted hd]
  simp only [apply_ite EndCheck.condition]
  rfl

theorem EndCheck.pending_afterAccepted (hd : r.defn.direction = tx.direction) :
    ((r.afterAccepted tx).endCheck tx.moved tx.baseSize tx.size).pending r.closingPending =
      if r.defn.endMode ≠ .counted then r.closingPending
      else if r.closingPending = true ∧ tx.moved = 0 then false
      else if tx.direction = .outbound ∧ r.defn.closeEmpty = true ∧ r.residue - tx.moved = 0 ∧ tx.moved = tx.baseSize then true
      else r.closingPending := by
  rw [StreamRecord.endCheck_afterAccepted hd]
  simp only [apply_ite (EndCheck.pending r.closingPending)]
  simp only [EndCheck.pending, ite_self]

end

/-- The taken count starts again without a mark count and at a mark (R23). -/
theorem StreamRecord.nextTaken_eq (r : StreamRecord) :
    r.nextTaken = if r.defn.markCount = 0 ∨ r.marks = true then 0 else r.takenCount + 1 := by
  unfold StreamRecord.nextTaken
  by_cases h0 : r.defn.markCount = 0
  · rw [if_pos h0, if_pos (.inl h0)]
  · rw [if_neg h0]
    simp only [h0, false_or]

/-- What an accepted transaction moved, and the bit that it carried (R93). -/
theorem Transaction.moved_carried {tx : Transaction} {n : Nat} {bit : Bool} {rest : Prop}
    (h : if tx.direction = .outbound then n = tx.size ∧ bit = tx.bitSent else tx.received = some (bit, n) ∧ rest) :
    tx.moved = n ∧ tx.carried = bit := by
  unfold Transaction.moved Transaction.carried
  cases hd : tx.direction with
  | outbound =>
    rw [if_pos hd] at h
    exact ⟨h.1.symm, h.2.symm⟩
  | inbound =>
    rw [if_neg (by rw [hd]; decide)] at h
    simp [h.1]

/-! ## Segment memory and its report (R37, R41, R54) -/

section
variable {tx : Transaction} {s : State}

theorem State.segmentTaken_memory (tx : Transaction) (s : State) : (s.segmentTaken tx).memory = { s.memory with
    chains := s.memory.chains.set tx.stream.val { s.memory.chains[tx.stream.val] with
      bytes := (s.chain tx.stream).bytes.drop tx.size
      headOffset :=
        if (s.chain tx.stream).bytes.length - tx.size = 0 then 0 else ((s.chain tx.stream).headOffset + tx.size) % 64
      heldSize := none }
    free := s.memory.free +
      (if (s.chain tx.stream).bytes.length - tx.size = 0 then
        ((s.chain tx.stream).headOffset + (s.chain tx.stream).bytes.length + 63) / 64
      else ((s.chain tx.stream).headOffset + tx.size) / 64) } := by
  simp only [State.segmentTaken, State.setChain, State.setMemory, Chain.removeHead, Chain.freedByRemoving]
  by_cases hall : (s.chain tx.stream).bytes.length - tx.size = 0
  · have hnil : (s.chain tx.stream).bytes.drop tx.size = [] := List.drop_eq_nil_of_le (by omega)
    simp only [if_pos hall, hnil]
    rfl
  · simp only [if_neg hall]
    rfl

theorem State.segmentStored_memory {rv : Nat} (hres : s.memory.reservation = some { stream := tx.stream, blocks := rv }) :
    (s.segmentStored tx).memory = { s.memory with
      chains :=
        if tx.payload.length = 0 then s.memory.chains
        else s.memory.chains.set tx.stream.val { s.memory.chains[tx.stream.val] with
          records := (s.chain tx.stream).records ++ [{ data := tx.payload, cycle := tx.headerCycle, delivered := 0 }] }
      free := s.memory.free + (rv - (tx.payload.length + 63) / 64), reservation := none } := by
  unfold State.segmentStored
  by_cases he : tx.payload = []
  · simp [he, State.returnReservation, hres, State.setMemory]
  · rw [if_neg (by simpa using he), hres, if_neg (by simpa using he)]
    simp only
    split <;> rfl

theorem State.segmentStored_reports {rv : Nat} (hres : s.memory.reservation = some { stream := tx.stream, blocks := rv }) :
    (s.segmentStored tx).reports = if 1 ≤ tx.payload.length ∧ (s.chain tx.stream).records = [] then
      s.reports.offer (.dataReady tx.stream) else s.reports := by
  unfold State.segmentStored
  by_cases he : tx.payload = []
  · simp [he]
  · have hlen : 1 ≤ tx.payload.length := List.length_pos_iff.mpr he
    rw [if_neg (by simpa using he), hres]
    simp only [List.isEmpty_iff, hlen, true_and]
    split <;> rfl

end

/-! ## The stream ends, or goes on (R23 to R25, R71) -/

/-- The reports of a list, offered one behind another. -/
def ReportQueue.offerAll (q : ReportQueue) (l : List Report) : ReportQueue := l.foldl (fun x rep => ReportQueue.offer rep x) q

theorem ReportQueue.offerAll_append (q : ReportQueue) (l m : List Report) :
    q.offerAll (l ++ m) = (q.offerAll l).offerAll m := List.foldl_append

theorem ReportQueue.offerAll_ite (q : ReportQueue) (c : Prop) [Decidable c] (r : Report) :
    q.offerAll (if c then [r] else []) = if c then q.offer r else q := by
  split <;> rfl

section
variable (i : Sid) (r : StreamRecord) (marked : Bool) (s : State)

theorem State.finish_stream (c : Condition) : (s.finish i r c).stream i =
    some { r with state := .done, condition := some c, holdsLoad := r.holdsLoad && r.defn.isDemand } := by
  rw [State.finish_eq]
  exact State.setStream_stream_self _ _ _

theorem State.finish_reports (c : Condition) : (s.finish i r c).reports =
    s.reports.offer (.streamEnded i .done (some c) r.lastFailure r.residue r.accepted) := by
  rw [State.finish_eq]
  rfl

theorem State.finish_plan (c : Condition) : (s.finish i r c).plan = s.plan.without r := by
  rw [State.finish_eq]
  rfl

theorem State.goOn_stream : (s.goOn i r marked).stream i = some (r.goneOn marked) := by
  rw [State.stream, State.goOn_streams]
  exact State.setStream_stream_self _ _ _

theorem State.goOn_reports : (s.goOn i r marked).reports = s.reports.offerAll
    ((if marked = true ∧ r.defn.autopause = true ∧ r.state = .running then [.streamPaused i] else []) ++
      (if r.defn.endMode = .refill ∧ r.residue = 0 then [.refillNeeded i] else [])) := by
  have hneeds : r.needsRefill = true ↔ r.defn.endMode = .refill ∧ r.residue = 0 := by
    simp [StreamRecord.needsRefill]
  have hpause : (marked && r.defn.autopause && r.state == .running) = true ↔
      marked = true ∧ r.defn.autopause = true ∧ r.state = .running := by
    simp [and_assoc]
  rw [ReportQueue.offerAll_append, ReportQueue.offerAll_ite, ReportQueue.offerAll_ite]
  simp only [State.goOn, State.offerRefill, hneeds, hpause]
  split_ifs <;> rfl

theorem StreamRecord.goneOn_eq : r.goneOn marked =
    if marked = true ∧ r.defn.autopause = true ∧ r.state = .running then { r with state := .paused } else r := by
  simp only [StreamRecord.goneOn, Bool.and_eq_true, beq_iff_eq, and_assoc]

end

/-- The load map with nothing taken from it. -/
theorem Plan.loadMap_same (p : Plan) (kind : StreamKind) : { p with loadMap := Vector.ofFn fun x : Fin 256 =>
    match kind with
    | .cyclic _ _ => p.loadMap[x]
    | .demand => p.loadMap[x] } = p := by
  have hmap : (Vector.ofFn fun x : Fin 256 => p.loadMap[x]) = p.loadMap := by
    ext x hx
    simp
  cases kind <;> simp only [hmap]

/-- The report of segment memory at an accepted outcome: DATA_READY for a first stored segment. -/
theorem State.applyToMemory_accepted_reports {tx : Transaction} {n rv : Nat} {bit : Bool} {s : State}
    (h : if tx.direction = .outbound then n = tx.size ∧ bit = tx.bitSent
      else tx.received = some (bit, n) ∧ tx.payload.length = n ∧
        s.memory.reservation = some { stream := tx.stream, blocks := rv }) :
    (s.applyToMemory tx .accepted).reports =
      if tx.direction = .inbound ∧ 1 ≤ n ∧ (s.chain tx.stream).records = [] then s.reports.offer (.dataReady tx.stream)
      else s.reports := by
  cases hd : tx.direction with
  | outbound => simp [State.applyToMemory, hd]
  | inbound =>
    rw [if_neg (by rw [hd]; decide)] at h
    obtain ⟨-, hlen, hres⟩ := h
    simp only [State.applyToMemory, hd]
    rw [State.segmentStored_reports hres, hlen]
    simp only [true_and]

/-- The accepted outcome, whole, before the waiting STOP: segment memory and its report, the mark, the end or the going on. -/
theorem State.outcomeApplied_accepted {tx : Transaction} {r p : StreamRecord} {marked : Bool} {s : State}
    (hr : s.stream tx.stream = some r) {x : State}
    (hx : x = (s.setEngine { s.engine with transaction := none }).applyToMemory tx .accepted)
    (hmarks : r.marks = marked)
    (hp : p = { r.afterAccepted tx with
      closingPending := ((r.afterAccepted tx).endCheck tx.moved tx.baseSize tx.size).pending r.closingPending }) :
    s.outcomeApplied tx .accepted =
      match ((r.afterAccepted tx).endCheck tx.moved tx.baseSize tx.size).condition with
      | some c => (if marked then x.offer (.streamMark tx.stream) else x).finish tx.stream p c
      | none => (if marked then x.offer (.streamMark tx.stream) else x).goOn tx.stream p marked := by
  have hxr : x.stream tx.stream = some r := by
    rw [hx, ← hr]
    simp [State.stream]
  have happly : s.outcomeApplied tx .accepted = x.applyAccepted tx r := by
    rw [State.outcomeApplied, ← hx, State.joinWaited, if_neg (by simp), State.applyToStream, hxr]
  rw [happly, State.applyAccepted_eq, State.conclude_eq, hmarks, hp]
  rfl

/-- Settles O59: the outcome taken unit by unit; the end checks decide between the end of the stream and its going on. -/
theorem acceptedApplied : Obligations.AcceptedApplied := by
  intro tx r n rv bit marked p q ended s hr hd hcarried hmarked hp hended hq
  obtain ⟨hmoved, hbit⟩ := Transaction.moved_carried hcarried
  have hmarks : r.marks = marked := hmarked.symm
  have hcond : ((r.afterAccepted tx).endCheck tx.moved tx.baseSize tx.size).condition = ended := by
    rw [EndCheck.condition_afterAccepted hd, hmoved, hended]
  have hrecord : p = { r.afterAccepted tx with
      closingPending := ((r.afterAccepted tx).endCheck tx.moved tx.baseSize tx.size).pending r.closingPending } := by
    rw [EndCheck.pending_afterAccepted hd, hmoved, hp, StreamRecord.afterAccepted, StreamRecord.nextTaken_eq, hmoved, hbit, hmarks]
    rfl
  have hstate : p.state = r.state := by rw [hp]
  have hdefn : p.defn = r.defn := by rw [hp]
  have hholds : p.holdsLoad = r.holdsLoad := by rw [hp]
  have hfail : p.lastFailure = r.lastFailure := by rw [hp]
  have happlied := State.outcomeApplied_accepted hr rfl hmarks hrecord
  rw [hcond] at happlied
  generalize hX : (if marked then State.offer (.streamMark tx.stream)
    ((s.setEngine { s.engine with transaction := none }).applyToMemory tx .accepted)
    else (s.setEngine { s.engine with transaction := none }).applyToMemory tx .accepted) = x at happlied
  have hplan : x.plan = s.plan := by
    rw [← hX]
    split <;> simp
  have hreports : x.reports = s.reports.offerAll
      ((if tx.direction = .inbound ∧ 1 ≤ n ∧ (s.chain tx.stream).records = [] then [.dataReady tx.stream] else []) ++
        (if marked = true then [.streamMark tx.stream] else [])) := by
    have hmemory := State.applyToMemory_accepted_reports (s := s.setEngine { s.engine with transaction := none }) hcarried
    rw [ReportQueue.offerAll_append, ReportQueue.offerAll_ite, ReportQueue.offerAll_ite, ← hX]
    split
    · exact congrArg (ReportQueue.offer (.streamMark tx.stream)) hmemory
    · exact hmemory
  have hpaused : ended = none → (q.state = .paused ∧ r.state = .running ↔
      marked = true ∧ r.defn.autopause = true ∧ r.state = .running) := by
    rintro rfl
    rw [hq, if_neg (by decide)]
    by_cases hpause : marked = true ∧ r.defn.autopause = true ∧ r.state = .running
    · rw [if_pos hpause]
      exact iff_of_true ⟨rfl, hpause.2.2⟩ hpause
    · rw [if_neg hpause, hstate]
      exact iff_of_false (fun h => by cases h.1.symm.trans h.2) hpause
  refine ⟨s.outcomeApplied tx .accepted, rfl, ?_, ?_, fun hout => ?_, fun hin => ?_, ?_, State.outcomeApplied_engine _ _ _,
    fun j hj => State.outcomeApplied_stream_ne _ _ _ hj, State.outcomeApplied_frame _ _ _⟩
  · rw [happlied, hq]
    cases ended with
    | some c =>
      refine (State.finish_stream _ _ _ _).trans ?_
      rw [hholds, hdefn]
      rfl
    | none =>
      refine (State.goOn_stream _ _ _ _).trans ?_
      rw [StreamRecord.goneOn_eq, hdefn, hstate]
      rfl
  · rw [happlied]
    refine Eq.trans ?_ (ReportQueue.offerAll_append s.reports _ _).symm
    rw [← hreports]
    cases ended with
    | some c =>
      refine (State.finish_reports _ _ _ _).trans ?_
      rw [hfail]
      rfl
    | none =>
      refine (State.goOn_reports _ _ _ _).trans ?_
      simp only [hpaused rfl, hdefn, hstate]
      rfl
  · rw [if_pos hout] at hcarried
    obtain ⟨rfl, -⟩ := hcarried
    simp only [State.outcomeApplied_memory, State.applyToMemory, hout]
    exact State.segmentTaken_memory tx _
  · rw [if_neg (by rw [hin]; decide)] at hcarried
    obtain ⟨-, rfl, hres⟩ := hcarried
    simp only [State.outcomeApplied_memory, State.applyToMemory, hin]
    exact State.segmentStored_memory (s := s.setEngine { s.engine with transaction := none }) hres
  · rw [happlied]
    cases ended with
    | some c =>
      refine (State.finish_plan _ _ _ _).trans ?_
      rw [hplan, Plan.without_eq, hdefn, hholds]
      simp only [Option.isSome_some, true_and] <;> rfl
    | none =>
      refine (State.goOn_plan _ _ _ _).trans ?_
      rw [hplan]
      simp only [Option.isSome_none, Bool.false_eq_true, false_and, if_false]
      exact (Plan.loadMap_same s.plan r.defn.kind).symm

end Sys2Proof.Machine
end

section
/-! SUPPORT. Segment memory's answers, its two requests and the grants, state by state: O38, O47, O48, O39. -/

set_option Elab.async false

namespace Sys2Proof.Machine

open Sys2Proof.Safety

/-! ## The size of the next segment (R44 to R47) -/

theorem StreamDef.isDemand_eq_decide (d : StreamDef) : d.isDemand = decide (d.kind = .demand) := by
  cases h : d.kind <;> simp [StreamDef.isDemand, h]

/-- The size by end mode, in the words of R45. -/
theorem StreamRecord.nextSize_eq (r : StreamRecord) (c : Chain) : r.nextSize c =
    match r.defn.endMode with
    | .counted => if r.closingPending then 0 else min r.baseSize r.residue
    | .openEnd =>
      if r.defn.direction = .outbound ∧ r.defn.kind = .demand then min r.baseSize c.bytes.length else r.baseSize
    | .refill => min r.baseSize r.residue := by
  unfold StreamRecord.nextSize
  cases r.defn.endMode with
  | openEnd => simp [StreamDef.isDemand_eq_decide]
  | counted | refill => rfl

/-- Segment memory's answer, in the order of the table of R47. -/
theorem StreamRecord.question_eq (r : StreamRecord) (c : Chain) : r.question c =
    if r.defn.endMode = .refill ∧ r.residue = 0 ∧ c.heldSize = none then .atRest
    else if r.defn.direction = .inbound then .size (r.nextSize c)
    else
      match c.heldSize with
      | some n => .size n
      | none =>
        if c.bytes.length < r.nextSize c ∨ (r.defn.endMode = .openEnd ∧ r.defn.kind = .demand ∧ c.bytes = []) then
          .shortOfData
        else .size (r.nextSize c) := by
  have hrest : (r.needsRefill && c.heldSize.isNone) = true ↔
      r.defn.endMode = .refill ∧ r.residue = 0 ∧ c.heldSize = none := by
    simp [StreamRecord.needsRefill, and_assoc]
  unfold StreamRecord.question
  by_cases h : r.defn.endMode = .refill ∧ r.residue = 0 ∧ c.heldSize = none
  · rw [if_pos (hrest.mpr h), if_pos h]
  · rw [if_neg (mt hrest.mp h), if_neg h]
    cases r.defn.direction with
    | inbound => rfl
    | outbound =>
      cases c.heldSize with
      | some n => rfl
      | none => simp [StreamDef.isDemand_eq_decide, and_assoc]

/-- Settles O38: the base size as defined, then the size by end mode and the answers of R47. -/
theorem segmentSized : Obligations.SegmentSized := by
  intro r c s0 size hs0 hsize
  have hnext : r.nextSize c = size := by
    subst hs0 hsize
    exact r.nextSize_eq c
  have hanswer := r.question_eq c
  rw [hnext] at hanswer
  exact ⟨hs0.symm, hnext, hanswer⟩

/-! ## PUT (R35, R36) -/

theorem Chain.putOffset_eq (c : Chain) : c.putOffset = if c.bytes.length = 0 then 0 else c.headOffset := by
  simp [Chain.putOffset]

/-- PUT at the block of segment memory: its checks in the order of R36, then the append. -/
theorem putRequest_eq {sid : Byte} {i : Sid} {r : StreamRecord} {s : State} (hi : sid.toNat = i.val)
    (hr : s.stream i = some r) (payload : List Byte) : putRequest sid payload s =
      if r.defn.direction = .inbound then s.reply badState
      else if 240 < payload.length then s.reply (badForm 2)
      else if r.defn.quota < (s.chain i).blocksAfterPut payload.length then s.reply (putNoRoom .quota (s.chain i))
      else if s.memory.free < (s.chain i).blocksAfterPut payload.length - (s.chain i).outBlocks then
        s.reply (putNoRoom .pool (s.chain i))
      else
        (s.setChain i { s.chain i with bytes := (s.chain i).bytes ++ payload, headOffset := (s.chain i).putOffset }
          (s.memory.free - ((s.chain i).blocksAfterPut payload.length - (s.chain i).outBlocks))).reply
          (done (u16 ((s.chain i).bytes.length + payload.length))) := by
  rw [putRequest, withStream_some hi hr]
  cases r.defn.direction <;> rfl

/-- Settles O47: one case for each check of R36, in its order, then the append. -/
theorem putAppends : Obligations.PutAppends := by
  rintro retry tag sid payload i r s h hi hr b off before after rfl hoff hbefore hafter
  have heq := putRequest_eq hi hr payload
  have hput : (s.chain i).putOffset = off := (s.chain i).putOffset_eq.trans hoff.symm
  have hout : (s.chain i).outBlocks = before := by rw [Chain.outBlocks, hput, hbefore]; rfl
  have hblocks : (s.chain i).blocksAfterPut payload.length = after := by rw [Chain.blocksAfterPut, hput, hafter]; rfl
  rw [hput, hout, hblocks] at heq
  by_cases hdir : r.defn.direction = .inbound
  · rw [if_pos hdir] at heq ⊢
    exact entered_replies h heq
  rw [if_neg hdir] at heq ⊢
  by_cases hlen : 240 < payload.length
  · rw [if_pos hlen] at heq ⊢
    exact entered_replies h heq
  rw [if_neg hlen] at heq ⊢
  by_cases hquota : r.defn.quota < after
  · rw [if_pos hquota] at heq ⊢
    exact entered_replies h heq
  rw [if_neg hquota] at heq ⊢
  by_cases hpool : s.memory.free < after - before
  · rw [if_pos hpool] at heq ⊢
    exact entered_replies h heq
  rw [if_neg hpool] at heq ⊢
  exact entered_replies h heq

/-! ## TAKE (R49, R50, 9.4.1) -/

theorem takeRequest_eq {sid : Byte} {i : Sid} {r : StreamRecord} {s : State} (hi : sid.toNat = i.val)
    (hr : s.stream i = some r) : takeRequest sid s =
      if r.defn.direction = .outbound then s.reply badState
      else
        (s.setChain i { s.chain i with records := (takePieces 240 (s.chain i).records).2.1 }
          (s.memory.free + (takePieces 240 (s.chain i).records).2.2)).reply
          (done (u8 (takePieces 240 (s.chain i).records).2.1.length ++ (takePieces 240 (s.chain i).records).1)) := by
  rw [takeRequest, withStream_some hi hr]
  cases r.defn.direction <;> rfl

/-- Less than 5 bytes of space hold no piece (R49). -/
theorem takePieces_noSpace {space : Nat} (h : space < 5) (x : SegmentRecord) (rest : List SegmentRecord) :
    takePieces space (x :: rest) = ([], x :: rest, 0) := by
  rw [takePieces, if_pos h]

/-- A head record that fits whole leaves the chain, and delivery goes on behind it (R49, R50). -/
theorem takePieces_whole {space u : Nat} {x : SegmentRecord} (h : 5 ≤ space) (hx : x.data.length = x.delivered + u)
    (hu : u + 4 ≤ space) (rest : List SegmentRecord) : takePieces space (x :: rest) =
      (pieceOf x u ++ (takePieces (space - 4 - u) rest).1, (takePieces (space - 4 - u) rest).2.1,
        x.blocks + (takePieces (space - 4 - u) rest).2.2) := by
  have hn : min (x.data.length - x.delivered) (space - 4) = u := by omega
  rw [takePieces, if_neg (by omega)]
  simp only [hn]
  rw [if_pos hx.symm]

/-- The part that fits of a head record that does not fit whole (R49, R50). -/
theorem takePieces_part {space u : Nat} {x : SegmentRecord} (h : 5 ≤ space) (hx : x.data.length = x.delivered + u)
    (hu : space < u + 4) (rest : List SegmentRecord) : takePieces space (x :: rest) =
      (pieceOf x (space - 4), { x with delivered := x.delivered + (space - 4) } :: rest,
        (x.delivered + (space - 4)) / 64 - x.delivered / 64) := by
  have hn : min (x.data.length - x.delivered) (space - 4) = space - 4 := by omega
  rw [takePieces, if_neg (by omega)]
  simp only [hn]
  rw [if_neg (by omega)]

/-- A piece that ends its record: its flags tell so, and whether it begins it (9.4.1). -/
theorem pieceOf_whole {x : SegmentRecord} {u : Nat} (hx : x.data.length = x.delivered + u) : pieceOf x u =
    [BitVec.ofNat 8 u, if x.delivered = 0 then 3 else 2] ++ u16 x.cycle.toNat ++ x.data.drop x.delivered := by
  have hall : (x.data.drop x.delivered).take u = x.data.drop x.delivered :=
    List.take_of_length_le (by rw [List.length_drop]; omega)
  simp only [pieceOf, u8, hall, if_pos hx.symm]
  split <;> rfl

/-- A piece that leaves some of its record (9.4.1). -/
theorem pieceOf_part {x : SegmentRecord} {n : Nat} (hx : x.delivered + n ≠ x.data.length) : pieceOf x n =
    [BitVec.ofNat 8 n, if x.delivered = 0 then 1 else 0] ++ u16 x.cycle.toNat ++ (x.data.drop x.delivered).take n := by
  simp only [pieceOf, u8, if_neg hx]
  split <;> rfl

/-- Settles O48: the request with its delivery whole, then delivery by the space and the head record. -/
theorem takeDelivers : Obligations.TakeDelivers := by
  refine ⟨fun retry tag sid i r s h hi hr => ⟨fun hd => ?_, fun hd bytes left freed htake => ?_⟩, fun space => rfl,
    fun space x rest => ⟨fun hspace => takePieces_noSpace hspace x rest,
      fun u h5 hx hu bytes left freed htake => ?_, fun u h5 hx hu => ?_⟩⟩
  · exact entered_replies h (by rw [takeRequest_eq hi hr, if_pos hd]; rfl)
  · refine entered_replies h ?_
    rw [takeRequest_eq hi hr, if_neg (by rw [hd]; decide), htake]
    rfl
  · rw [takePieces_whole h5 hx hu, htake, pieceOf_whole hx]
    rfl
  · rw [takePieces_part h5 hx hu, pieceOf_part (by omega)]

/-! ## Grants (R40, R46, R82) -/

theorem State.grant_eq (i : Sid) (r : StreamRecord) (n : Nat) (s : State) : s.grant i r n = { s with
    engine := { s.engine with transaction := some (newTransaction i r n s.time.cycle) }
    memory := { s.memory with
      chains :=
        if r.defn.direction = .outbound then
          s.memory.chains.set i.val { s.memory.chains[i.val] with heldSize := some n }
        else s.memory.chains } } := by
  unfold State.grant
  cases r.defn.direction <;> rfl

/-- The use of the link fits before the end guard, in the figures of R55. -/
theorem State.fits_iff (cost : Nat) (s : State) :
    s.fits cost = true ↔ s.time.offset / s.master.rate.charMicros + cost ≤ s.master.c - 8 :=
  decide_eq_true_iff

theorem State.roomFor_iff (i : Sid) (r : StreamRecord) (n : Nat) (s : State) :
    s.roomFor i r n = true ↔ (s.chain i).blocks + (n + 63) / 64 ≤ r.defn.quota ∧ (n + 63) / 64 ≤ s.memory.free :=
  decide_eq_true_iff

/-- The grant that a size leads to: an INBOUND one only with room for its reservation (R40, R63). -/
def State.grantWithRoom (i : Sid) (r : StreamRecord) (n : Nat) (s : State) : State × Considered :=
  if r.defn.direction = .outbound then (s.grant i r n, .granted)
  else if (s.chain i).blocks + (n + 63) / 64 ≤ r.defn.quota ∧ (n + 63) / 64 ≤ s.memory.free then
    ((s.reserve i n).grant i r n, .granted)
  else (s.offer (.noRoom i), .passed)

theorem State.grantWithRoom_eq (i : Sid) (r : StreamRecord) (n : Nat) (s : State) :
    s.grantWithRoom i r n =
      match r.defn.direction with
      | .outbound => (s.grant i r n, .granted)
      | .inbound =>
        if s.roomFor i r n then ((s.reserve i n).grant i r n, .granted) else (s.offer (.noRoom i), .passed) := by
  unfold State.grantWithRoom
  cases r.defn.direction with
  | outbound => rfl
  | inbound =>
    by_cases hroom : s.roomFor i r n = true
    · rw [if_neg nofun, if_pos ((s.roomFor_iff i r n).mp hroom)]
      exact (if_pos hroom).symm
    · rw [if_neg nofun, if_neg (mt (s.roomFor_iff i r n).mpr hroom)]
      exact (if_neg hroom).symm

/-! ## The streams of the due list (R62, R63) -/

theorem State.serviceable_none {i : Sid} {s : State}
    (h : ∀ r, s.stream i = some r → r.state = .running → ∃ c, s.plan.record = some c ∧ i ∈ c.renewed) :
    s.serviceable i = none := by
  unfold State.serviceable
  split
  next => rfl
  next hrenewed =>
    refine Option.filter_eq_none_iff.mpr fun r hr hrun => hrenewed ?_
    obtain ⟨c, hc, hi⟩ := h r hr (by simpa using hrun)
    simp [hc, hi]

theorem State.serviceable_running {i : Sid} {r : StreamRecord} {c : CycleRecord} {s : State} (hc : s.plan.record = some c)
    (hi : i ∉ c.renewed) (hr : s.stream i = some r) (hrun : r.state = .running) : s.serviceable i = some r := by
  simp [State.serviceable, hc, hi, hr, hrun]

/-- A due stream whose slot does not fit is skipped (R64, R74). -/
theorem State.considerDue_skips {i : Sid} {r : StreamRecord} {c : CycleRecord} {s : State} (hs : s.serviceable i = some r)
    (hc : s.plan.record = some c) (hfit : ¬ s.fits r.defn.cost = true) : s.considerDue i =
      ({ s with
        plan := { s.plan with record := some { c with late := true, skipped := c.skipped + 1 } }
        reports := s.reports.offerOverrun c.cycle (c.skipped + 1) 1 }, .passed) := by
  have hlate : s.noteLate 1 = { s with
      plan := { s.plan with record := some { c with late := true, skipped := c.skipped + 1 } }
      reports := s.reports.offerOverrun c.cycle (c.skipped + 1) 1 } := by
    simp only [State.noteLate, State.mapRecord, State.setPlan, hc]
    rfl
  simp only [State.considerDue, hs]
  rw [if_pos (by simpa using hfit), hlate]

/-- A due stream whose slot fits: at rest, short of data, or of a size to grant (R62, R63). -/
theorem State.considerDue_fits {i : Sid} {r : StreamRecord} {s : State} (hs : s.serviceable i = some r)
    (hfit : s.fits r.defn.cost = true) : s.considerDue i =
      match r.question (s.chain i) with
      | .atRest => (s, .passed)
      | .shortOfData => (s.offer (.starved i), .passed)
      | .size n => s.grantWithRoom i r n := by
  simp only [State.considerDue, hs]
  rw [if_neg (by simpa using hfit)]
  cases r.question (s.chain i) with
  | atRest | shortOfData => rfl
  | size n => exact (s.grantWithRoom_eq i r n).symm

/-! ## The candidates of the demand phase (R66, R67) -/

theorem State.considerDemand_passes {i : Sid} {s : State}
    (h : ∀ r, s.stream i = some r → r.defn.kind = .demand → r.state = .running →
      ∃ c, s.plan.record = some c ∧ i ∈ c.waited) : s.considerDemand i = (s, .passed) := by
  unfold State.considerDemand
  split
  next => rfl
  next r hr =>
    refine if_pos ?_
    by_cases hd : r.defn.kind = .demand
    · by_cases hrun : r.state = .running
      · obtain ⟨c, hc, hi⟩ := h r hr hd hrun
        simp [hc, hi]
      · simp [hrun]
    · simp [StreamDef.isDemand_eq_decide, hd]

/-- A RUNNING candidate outside the waited set, by the size of its segment (R66). -/
theorem State.considerDemand_running {i : Sid} {r : StreamRecord} {c : CycleRecord} {s : State}
    (hc : s.plan.record = some c) (hi : i ∉ c.waited) (hr : s.stream i = some r) (hd : r.defn.kind = .demand)
    (hrun : r.state = .running) : s.considerDemand i =
      match r.question (s.chain i) with
      | .atRest | .shortOfData => (s, .passed)
      | .size n =>
        if s.master.c - 8 < s.time.offset / s.master.rate.charMicros + (20 + n) then (s, .ended)
        else s.grantWithRoom i r n := by
  simp only [State.considerDemand, hr]
  rw [if_neg (by simp [StreamDef.isDemand_eq_decide, hd, hrun, hc, hi])]
  cases r.question (s.chain i) with
  | atRest | shortOfData => rfl
  | size n =>
    have hfit := s.fits_iff (20 + n)
    by_cases hlong : s.master.c - 8 < s.time.offset / s.master.rate.charMicros + (20 + n)
    · have hnot : s.fits (20 + n) = false := Bool.eq_false_iff.mpr fun h => absurd (hfit.mp h) (by omega)
      simp only [if_pos hlong, Config.transactionCost, hnot]
      rfl
    · have hyes : s.fits (20 + n) = true := hfit.mpr (by omega)
      simp only [if_neg hlong, Config.transactionCost, hyes]
      exact (s.grantWithRoom_eq i r n).symm

/-- One candidate of the search, by what its consideration comes to (R65, R67). -/
theorem State.searchDemand_succ (k : Nat) (i : Sid) (s : State) : State.searchDemand (k + 1) i s =
    match s.considerDemand i with
    | (t, .granted) => t.pointAt i
    | (t, .ended) => t.enterStage .closed
    | (t, .passed) => State.searchDemand k (i + 1) (t.mapRecord fun c => { c with round := c.round + 1 }) := rfl

/-- Settles O39: the grant, the due list, the demand candidates and the search, each by its own rule. -/
theorem grantsMade : Obligations.GrantsMade := by
  refine ⟨fun i r n s => ⟨s.grant_eq i r n, rfl⟩, fun i s => ⟨fun h => ?_, fun c r hc hi hr hrun => ?_⟩,
    fun i s => ⟨State.considerDemand_passes, fun c r hc hi hr hd hrun => ?_⟩, fun s => rfl,
    fun k i s t => ⟨rfl, fun h => ?_, fun h => ?_, fun h => ?_⟩⟩
  · rw [State.considerDue, State.serviceable_none h]
  · have hs := State.serviceable_running hc hi hr hrun
    refine ⟨fun hlong => State.considerDue_skips hs hc fun hfit => ?_, fun hfit => ?_⟩
    · have : s.time.offset / s.master.rate.charMicros + (20 + r.defn.limit) ≤ s.master.c - 8 := (s.fits_iff _).mp hfit
      omega
    · exact State.considerDue_fits hs ((s.fits_iff _).mpr hfit)
  · exact State.considerDemand_running hc hi hr hd hrun
  all_goals
    rw [State.searchDemand_succ, h]
    rfl

end Sys2Proof.Machine
end

section
/-! SUPPORT. What a command is made of, as far as the link law, the idle law and the memory law can see: acts, each of which
leaves all three laws to be proved once. -/

set_option Elab.async false

namespace Sys2Proof.Machine

open Sys2Proof.Safety

/-! ## What the laws read -/

/-- What the laws read of a record. -/
def StreamRecord.lawCore (r : StreamRecord) : StreamDef × StreamState × Bool := (r.defn, r.state, r.stopPending)

/-- What the laws read of the part. -/
structure LawView where
  streams : Sid → Option (StreamDef × StreamState × Bool)
  memory : SegmentMemory
  stage : Stage
  beacon : Option Bool
  transaction : Option Transaction
  drivenUntil : Nat
  quiet : Nat
  busy : Nat
  state : MastState
  rate : LinkRate
  clock : Nat

def State.lawView (s : State) : LawView where
  streams i := (s.stream i).map StreamRecord.lawCore
  memory := s.memory
  stage := s.plan.stage
  beacon := s.plan.record.map (·.beaconStart.isSome)
  transaction := s.engine.transaction
  drivenUntil := s.engine.drivenUntil
  quiet := s.engine.quiet
  busy := s.engine.busy
  state := s.master.state
  rate := s.master.rate
  clock := s.time.clock

/-- An operation on the port, the reports, the captures, the marks or the rest of the mastership record changes nothing that the
laws read. -/
theorem State.lawView_of_same {s t : State} (hstreams : t.streams = s.streams := by simp)
    (hmemory : t.memory = s.memory := by simp) (hplan : t.plan = s.plan := by simp)
    (hengine : t.engine = s.engine := by simp) (hstate : t.master.state = s.master.state := by simp)
    (hrate : t.master.rate = s.master.rate := by simp) (hclock : t.time.clock = s.time.clock := by simp) :
    t.lawView = s.lawView := by
  simp only [State.lawView, State.stream, hstreams, hmemory, hplan, hengine, hstate, hrate, hclock]

/-- A record that changes in nothing the laws read. -/
theorem State.setStream_lawView {i : Sid} {r r' : StreamRecord} {s : State} (hi : s.stream i = some r)
    (hc : r'.lawCore = r.lawCore) : (s.setStream i (some r')).lawView = s.lawView := by
  have hstreams (j : Sid) : ((s.setStream i (some r')).stream j).map StreamRecord.lawCore =
      (s.stream j).map StreamRecord.lawCore := by
    by_cases hj : j = i
    · subst hj
      rw [State.setStream_stream_self, hi, Option.map_some, Option.map_some, hc]
    · rw [State.setStream_stream_ne (Ne.symm hj)]
  simp only [State.lawView, hstreams]
  rfl

/-- The load map changes, or the pointer. -/
theorem State.setPlan_lawView {p : Plan} {s : State} (hstage : p.stage = s.plan.stage) (hrecord : p.record = s.plan.record) :
    (s.setPlan p).lawView = s.lawView := by
  simp only [State.lawView, State.setPlan, State.stream, hstage, hrecord]

/-- The cycle record changes, but not whether the beacon has begun. -/
theorem State.mapRecord_lawView {f : CycleRecord → CycleRecord} (s : State)
    (hf : ∀ c, (f c).beaconStart = c.beaconStart := by intro; rfl) :
    (s.mapRecord f).lawView = s.lawView := by
  have hbeacon : (s.plan.record.map f).map (·.beaconStart.isSome) = s.plan.record.map (·.beaconStart.isSome) := by
    simp [Function.comp_def, hf]
  simp only [State.lawView, State.mapRecord, State.setPlan, hbeacon]
  rfl

theorem State.noteLate_lawView (n : Nat) (s : State) : (s.noteLate n).lawView = s.lawView := by
  unfold State.noteLate
  split
  next => rfl
  next c _ => exact State.mapRecord_lawView (f := fun c => { c with late := true, skipped := c.skipped + n }) s

theorem State.closeRecord_lawView (s : State) : s.closeRecord.lawView = s.lawView := by
  unfold State.closeRecord
  split
  · rfl
  · exact s.noteLate_lawView _

theorem State.pointAt_lawView (i : Sid) (s : State) : (s.pointAt i).lawView = s.lawView :=
  State.mapRecord_lawView (s.setPlan { s.plan with pointer := i })

theorem State.renew_lawView (i : Sid) (s : State) : (s.renew i).lawView = s.lawView :=
  State.mapRecord_lawView s

theorem State.releaseLoad_lawView (i : Sid) (s : State) : (s.releaseLoad i).lawView = s.lawView := by
  cases hi : s.stream i with
  | none => rw [State.releaseLoad_free hi]
  | some r =>
    rw [State.releaseLoad_eq hi]
    exact (State.setPlan_lawView (by simp [Plan.without]) (by simp [Plan.without])).trans (State.setStream_lawView hi rfl)

theorem State.admitLoad_lawView (d : StreamDef) (s : State) : (s.admitLoad d).lawView = s.lawView := by
  unfold State.admitLoad
  split
  · rfl
  · exact State.setPlan_lawView (by simp [Plan.addLoad]) (by simp [Plan.addLoad])

/-- Every request is abandoned: only TAGs leave the records. -/
theorem State.abandonRequests_lawView (s : State) : s.abandonRequests.lawView = s.lawView := by
  have hstreams (i : Sid) : (s.abandonRequests.stream i).map StreamRecord.lawCore = (s.stream i).map StreamRecord.lawCore := by
    cases hi : s.stream i <;> simp_all [State.abandonRequests, State.stream, StreamRecord.lawCore]
  simp only [State.lawView, hstreams]
  rfl

theorem State.settleListen_lawView (b : Body) (s : State) : (s.settleListen b).lawView = s.lawView :=
  State.lawView_of_same (hstate := by rw [State.settleListen_master]) (hrate := by rw [State.settleListen_master])

theorem State.settleHandovers_lawView (b : Body) (s : State) : (s.settleHandovers b).lawView = s.lawView :=
  State.lawView_of_same (hstate := by rw [State.settleHandovers_master]) (hrate := by rw [State.settleHandovers_master])

/-! ## The acts -/

/-- What an INBOUND transaction holds fits its expected size (R40, R88). -/
def Transaction.Within (tx : Transaction) : Prop :=
  tx.direction = .inbound →
    tx.payload.length ≤ tx.size ∧ (tx.phase = .receiving → ∀ r ∈ tx.received, r.2 ≤ tx.size)

/-- A transaction record goes on: the same use of the link, and what it holds still fits. -/
structure Transaction.Follows (tx tx' : Transaction) : Prop where
  stream : tx'.stream = tx.stream
  direction : tx'.direction = tx.direction
  size : tx'.size = tx.size
  within : tx.Within → tx'.Within

/-- The plan serves the link from `s` on to `t`: it moves on in its stages, and may end with one grant to a RUNNING stream (R62,
R65). -/
inductive Served (s : State) : State → Prop
  | moved {t : State} {st : Stage} (hview : t.lawView = { s.lawView with stage := st })
      (hst : st ≠ .standby ∧ st ≠ .opening) : Served s t
  | granted {u v t : State} {st : Stage} {i : Sid} {r : StreamRecord} {n : Nat}
      (hview : u.lawView = { s.lawView with stage := st }) (hst : st = .cyclic ∨ st = .demand)
      (hi : u.stream i = some r) (hrun : r.state = .running) (hgrant : u.grantWithRoom i r n = (v, .granted))
      (ht : t.lawView = v.lawView) : Served s t

/-- The acts of which every command is made. Each constructor carries what the model has checked before the act. -/
inductive Act : State → State → Prop
  /-- Nothing that the laws read changes. -/
  | same {s t : State} (hview : t.lawView = s.lawView) : Act s t
  /-- Time passes. -/
  | elapse (n : Nat) (s : State) : Act s (s.elapse n)
  /-- A stream takes another record of its definition: a STOP comes to wait only on a stream in flight, and the stream in flight
  stays in use. -/
  | restream {i : Sid} {r r' : StreamRecord} {s : State} (hi : s.stream i = some r) (hd : r'.defn = r.defn)
      (hstop : r'.stopPending = true → r.stopPending = true ∨ s.inFlight i = true)
      (huse : r.inUse = true → r'.inUse = true ∨ s.inFlight i = false) : Act s (s.setStream i (some r'))
  /-- The held size of a chain clears (R46). -/
  | clearHeld {i : Sid} {r : StreamRecord} {s : State} (hi : s.stream i = some r) : Act s (s.clearHeld i)
  /-- A FREE stream is defined, with an empty chain (R4, R53). -/
  | define {i : Sid} {s : State} (hi : s.stream i = none) (d : StreamDef) :
      Act s ((s.setStream i (some (newRecordOf d))).setChain i Chain.empty s.memory.free)
  /-- A stream becomes FREE, and its chain empty (R17). -/
  | release {i : Sid} {r : StreamRecord} {s : State} (hi : s.stream i = some r) (huse : r.inUse = false) :
      Act s ((s.freeChain i).setStream i none)
  /-- A chain returns to the free list (R51). -/
  | flush {i : Sid} {r : StreamRecord} {s : State} (hi : s.stream i = some r) : Act s (s.freeChain i)
  | put (sid : Byte) (payload : List Byte) (s : State) : Act s (putRequest sid payload s).1
  | take (sid : Byte) (s : State) : Act s (takeRequest sid s).1
  /-- A change of mastership; LEADING and LISTENING are not entered from LEADING (R106). -/
  | mastership {new : MastState} {s : State} (hnew : s.master.state = .leading → new ≠ .leading ∧ new ≠ .listening)
      (cause : Cause) : Act s (s.changeMastership new cause)
  /-- The transaction in flight ends with an outcome (R92). -/
  | outcome {tx : Transaction} {s : State} (ht : s.engine.transaction = some tx) (o : Outcome) : Act s (s.applyOutcome tx o)
  /-- A new cycle record while leading (R59). -/
  | openRecord {s : State} (hlead : s.master.state = .leading) : Act s s.openRecord
  /-- The beacon of the cycle goes out on a link that is free (R60). -/
  | beacon {s : State} (hlead : s.master.state = .leading) (hfree : s.engine.transaction = none) (n : Nat) :
      Act s (s.mapRecord fun c => { c with beaconStart := some n })
  /-- The transaction in flight goes on. -/
  | transaction {tx tx' : Transaction} {s : State} (ht : s.engine.transaction = some tx) (h : tx.Follows tx') :
      Act s (s.setTransaction tx')
  /-- A leading part begins a frame (R78). -/
  | beginFrame {s : State} (hlead : s.master.state = .leading) (chars : List Byte) : Act s (s.beginFrame chars)
  | releaseLine (s : State) : Act s s.releaseLine
  /-- The plan serves the link, free or behind the beacon (R57, R61). -/
  | serve {s t : State} (hstage : s.plan.stage ≠ .standby) (hfree : s.beaconOut = true ∨ s.engine.transaction = none)
      (h : Served s t) : Act s t
  /-- CONFIGURE_LINK takes effect (R108). -/
  | configured {s : State} (hoff : s.master.state = .offline) (q : LinkRate) (cycleLength share timeout : Nat) :
      Act s (s.configured q cycleLength share timeout)
  /-- A reset (R170, R171). -/
  | reset (s : State) (baud : Baud) (unit : UnitId) (epoch : Byte) (cause : HelloCause) (clock : Nat)
      (pending : List Instr) : Act s (State.afterReset baud unit epoch cause clock pending)

/-- One state comes from another by acts. -/
def Acts (s t : State) : Prop := Relation.ReflTransGen Act s t

theorem Acts.refl (s : State) : Acts s s := Relation.ReflTransGen.refl

theorem Acts.tail {s t u : State} (h : Acts s t) (ht : Act t u) : Acts s u := Relation.ReflTransGen.tail h ht

/-- What every act keeps, acts keep. -/
theorem Acts.preserve {P : State → Prop} (hP : ∀ s t, Act s t → P s → P t) {s t : State} (h : Acts s t) (hs : P s) : P t := by
  induction h with
  | refl => exact hs
  | tail _ hact ih => exact hP _ _ hact ih

/-! ## Operations that the laws do not see, and acts of one operation -/

section
variable {o s : State} (h : Acts o s)
include h

theorem Acts.view {t : State} (hview : t.lawView = s.lawView) : Acts o t := h.tail (.same hview)

theorem Acts.of_same {t : State} (hstreams : t.streams = s.streams := by simp)
    (hmemory : t.memory = s.memory := by simp) (hplan : t.plan = s.plan := by simp)
    (hengine : t.engine = s.engine := by simp) (hstate : t.master.state = s.master.state := by simp)
    (hrate : t.master.rate = s.master.rate := by simp) (hclock : t.time.clock = s.time.clock := by simp) : Acts o t :=
  h.view (State.lawView_of_same hstreams hmemory hplan hengine hstate hrate hclock)

theorem Acts.setPort (p : Port) : Acts o (s.setPort p) := h.of_same

theorem Acts.setReports (q : ReportQueue) : Acts o (s.setReports q) := h.of_same

theorem Acts.offer (r : Report) : Acts o (s.offer r) := h.of_same

theorem Acts.offerRefill (i : Sid) (r : StreamRecord) : Acts o (s.offerRefill i r) := h.of_same

theorem Acts.setMaster {m : Mastership} (hstate : m.state = s.master.state := by rfl)
    (hrate : m.rate = s.master.rate := by rfl) : Acts o (s.setMaster m) :=
  h.of_same (hstate := hstate) (hrate := hrate)

theorem Acts.settleListen (b : Body) : Acts o (s.settleListen b) := h.view (s.settleListen_lawView b)

theorem Acts.settleHandovers (b : Body) : Acts o (s.settleHandovers b) := h.view (s.settleHandovers_lawView b)

theorem Acts.abandonRequests : Acts o s.abandonRequests := h.view s.abandonRequests_lawView

theorem Acts.noteLate (n : Nat) : Acts o (s.noteLate n) := h.view (s.noteLate_lawView n)

theorem Acts.renew (i : Sid) : Acts o (s.renew i) := h.view (s.renew_lawView i)

theorem Acts.releaseLoad (i : Sid) : Acts o (s.releaseLoad i) := h.view (s.releaseLoad_lawView i)

theorem Acts.afterReset (baud : Baud) (unit : UnitId) (epoch : Byte) (cause : HelloCause) (clock : Nat)
    (pending : List Instr) : Acts o (State.afterReset baud unit epoch cause clock pending) :=
  h.tail (.reset s baud unit epoch cause clock pending)

/-! ## Starts, changes of mastership, boundaries -/

/-- A stream out of use takes another record without a STOP of its own. -/
theorem Acts.restream_idle {i : Sid} {r r' : StreamRecord} (hi : s.stream i = some r) (huse : r.inUse = false)
    (hd : r'.defn = r.defn) (hstop : r'.stopPending = true → r.stopPending = true) :
    Acts o (s.setStream i (some r')) :=
  h.tail (.restream hi hd (fun hp => .inl (hstop hp)) fun hu => by simp [huse] at hu)

theorem Acts.trigger {i : Sid} {r : StreamRecord} (hi : s.stream i = some r) (ha : r.state = .armed) :
    Acts o (s.trigger i) := by
  have hrun := h.restream_idle hi (r' := { r with state := .running, trigger := none })
    (by simp [StreamRecord.inUse, ha]) rfl id
  rw [State.trigger, hi]
  exact (hrun.offer _).offerRefill i r

/-- An event that starts ARMED streams. -/
theorem Acts.triggerAll {test : StreamRecord → Bool} (ht : ∀ r, test r = true → r.state = .armed) :
    Acts o (s.triggerAll test) := by
  refine List.foldlRecOn allSids _ h fun t ht' i _ => ?_
  split
  next hany =>
    obtain ⟨r, hi, htest⟩ := (Option.any_eq_true _ _).mp hany
    exact ht'.trigger hi (ht r htest)
  next => exact ht'

theorem Acts.passCycleStarts (a b : Cycle) : Acts o (s.passCycleStarts a b) :=
  h.triggerAll fun _ => StreamRecord.armed_of_armedAt

theorem Acts.changeMastership (new : MastState) (hnew : s.master.state = .leading → new ≠ .leading ∧ new ≠ .listening)
    (cause : Cause) : Acts o (s.changeMastership new cause) :=
  h.tail (.mastership hnew cause)

theorem Acts.masterBoundary : Acts o s.masterBoundary := by
  unfold State.masterBoundary
  split
  next hs =>
    split
    · exact h.setMaster
    · split
      · exact (Acts.changeMastership h.setMaster .leading (fun hl => by simp [hs] at hl) _).settleListen _
      · exact h.setMaster
  next hs =>
    split
    · exact Acts.changeMastership h.setMaster .leading (fun hl => by simp [hs] at hl) _
    · exact h.setMaster
  next => exact h.setMaster
  next => exact h
  next => exact h

theorem Acts.planBoundary : Acts o s.planBoundary := by
  unfold State.planBoundary
  split
  next hlead => exact (h.view s.closeRecord_lawView).tail (.openRecord (by simpa using hlead))
  next => exact h

theorem Acts.cycleBoundary : Acts o s.cycleBoundary := by
  have ht : Acts o s.timeBoundary := h.of_same (hclock := rfl)
  simp only [State.cycleBoundary]
  exact (ht.planBoundary.passCycleStarts _ _).masterBoundary

theorem Acts.realign (c : Cycle) : Acts o (s.realign c) := by
  simp only [State.realign]
  split
  · exact Acts.passCycleStarts h.of_same _ _
  · exact h.of_same

theorem Acts.follow (u : UnitId) (c : Cycle) (cause : Cause) : Acts o (s.follow u c cause) :=
  (Acts.changeMastership h.setMaster .following (fun _ => ⟨nofun, nofun⟩) _).realign c

theorem Acts.faulted (cause : Cause) : Acts o (s.faulted cause) :=
  ((Acts.changeMastership h.setMaster .faulted (fun _ => ⟨nofun, nofun⟩) _).settleListen _).settleHandovers _

theorem Acts.handoverEffect : Acts o s.handoverEffect :=
  (Acts.changeMastership h.setMaster .following (fun _ => ⟨nofun, nofun⟩) _).settleHandovers _

/-- The passing of time. -/
theorem Acts.passTime (n : Nat) : Acts o (s.passTime n) :=
  State.passTime_preserves (fun n s h => h.tail (.elapse n s)) (fun _ h => Acts.cycleBoundary h)
    (fun _ h => Acts.faulted h _) n s h

theorem Acts.setHearing (b : Bool) : Acts o (s.setHearing b) := h.view rfl

theorem Acts.passBusy (n : Nat) : Acts o (s.passBusy n) := ((h.setHearing true).passTime n).setHearing _

/-! ## The transaction in flight goes on -/

theorem Acts.setTransaction {tx tx' : Transaction} (ht : s.engine.transaction = some tx) (hf : tx.Follows tx') :
    Acts o (s.setTransaction tx') :=
  h.tail (.transaction ht hf)

end

/-- A change of the record that leaves the payload, and enters no RECEIVING. -/
theorem Transaction.Follows.of_payload {tx tx' : Transaction} (hs : tx'.stream = tx.stream := by rfl)
    (hd : tx'.direction = tx.direction := by rfl) (hn : tx'.size = tx.size := by rfl)
    (hp : tx'.payload = tx.payload := by rfl) (hph : tx'.phase ≠ .receiving) : tx.Follows tx' :=
  ⟨hs, hd, hn, fun hw hi => by
    rw [hp, hn]
    exact ⟨(hw (hd ▸ hi)).1, fun h => absurd h hph⟩⟩

theorem Transaction.follows_decide (out : Outcome) (tx : Transaction) : tx.Follows (tx.decide out) :=
  .of_payload (hph := nofun)

theorem Transaction.follows_readCut (tx : Transaction) : tx.Follows tx.readCut := by
  unfold Transaction.readCut
  split <;> exact tx.follows_decide _

theorem Transaction.follows_readReply (chars : List LinkChar) (tx : Transaction) : tx.Follows (tx.readReply chars) := by
  unfold Transaction.readReply
  split <;> exact tx.follows_decide _

/-- The length read is at most the expected size, or the outcome is overrun (R87, R88). -/
theorem Transaction.follows_readControl (c : Option (Byte × Byte)) (tx : Transaction) : tx.Follows (tx.readControl c) := by
  simp only [Transaction.readControl]
  split
  next hd => exact ⟨rfl, rfl, rfl, fun _ hi => absurd (hd.symm.trans hi) (by decide)⟩
  next => exact ⟨rfl, rfl, rfl, fun hw hi => ⟨(hw hi).1, fun _ => nofun⟩⟩
  next =>
    split
    next => exact .of_payload (hph := nofun)
    next hle => exact ⟨rfl, rfl, rfl, fun hw hi => ⟨(hw hi).1, fun _ r hr => by
      cases hr
      exact Nat.le_of_not_lt hle⟩⟩

theorem readPayload_length {c : Byte × Byte} {n : Nat} {rest : List LinkChar} {payload : List Byte}
    (h : readPayload c n rest = some payload) : payload.length = n := by
  unfold readPayload at h
  split at h
  next bs _ =>
    split at h
    next hok =>
      have hlen : bs.length = n + 2 := by simp at hok; exact hok.1
      cases h
      rw [List.length_take]
      omega
    next => cases h
  next => cases h

/-- The payload read is as long as the length read before it (R88, R89). -/
theorem Transaction.follows_readEnd (c : Option (Byte × Byte)) (rest : List LinkChar) {tx : Transaction}
    (hph : tx.phase = .receiving) : tx.Follows (tx.readEnd c rest) := by
  unfold Transaction.readEnd
  split
  next => exact tx.follows_decide _
  next b n _ hrec =>
    split
    next payload hread =>
      refine ⟨rfl, rfl, rfl, fun hw hi => ⟨?_, nofun⟩⟩
      have hn : n ≤ tx.size := (hw hi).2 hph (b, n) hrec
      have hlen := readPayload_length hread
      dsimp only
      split
      · omega
      · exact Nat.zero_le _
    next => exact tx.follows_decide _
  next => exact tx.follows_decide _

theorem State.atPhase_phase {ph : Phase} {b : Bool} {tx : Transaction} {s : State} (h : s.atPhase ph b = some tx) :
    tx.phase = ph := by
  unfold State.atPhase at h
  split at h
  next =>
    have hf := (Option.filter_eq_some_iff.mp h).2
    simp only [Bool.and_eq_true, beq_iff_eq] at hf
    exact hf.1
  next => simp at h

section
variable {o s : State} (h : Acts o s)
include h

theorem Acts.decideOutcome (out : Outcome) : Acts o (s.decideOutcome out .closing) := by
  cases ht : s.engine.transaction with
  | none => exact h.view (by simp [State.decideOutcome, State.setEngine, State.lawView, State.stream, ht])
  | some tx =>
    have heq : s.decideOutcome out .closing =
        s.setTransaction { tx with decided := some out, phase := .closing, begun := false } := by
      simp [State.decideOutcome, State.setTransaction, ht]
    rw [heq]
    exact h.setTransaction ht (.of_payload (hph := nofun))

theorem Acts.clash (u : UnitId) (c : Cycle) : Acts o (s.clash u c) := by
  simp only [State.clash]
  split
  · split
    · exact Acts.decideOutcome (Acts.offer h.setMaster _) _
    · exact Acts.offer h.setMaster _
  · exact (h.follow _ _ _).settleHandovers _

/-- A heard beacon (R111, R114 to R116, R123). -/
theorem Acts.beaconHeard (u : UnitId) (c : Cycle) : Acts o (s.beaconHeard u c) := by
  unfold State.beaconHeard
  split
  · split
    · exact h
    · exact h
    all_goals exact h.faulted _
  · split
    · exact h.setMaster
    · exact h.setMaster
    · exact (h.follow _ _ _).settleListen _
    · exact h.clash _ _
    · exact Acts.realign h.setMaster _

end

end Sys2Proof.Machine
end

section
/-! SUPPORT. The cycle plan and the link engine, in acts. -/

set_option Elab.async false

namespace Sys2Proof.Machine

open Sys2Proof.Safety

/-! ## The cycle plan (R62, R65) -/

/-- What one consideration comes to: nothing that the laws read, or the grant of a RUNNING stream. -/
inductive Weighed (i : Sid) (s : State) : State × Considered → Prop
  | kept {t : State} {c : Considered} (hview : t.lawView = s.lawView) (hc : c ≠ .granted) : Weighed i s (t, c)
  | granted {t : State} {r : StreamRecord} {n : Nat} (hi : s.stream i = some r) (hrun : r.state = .running)
      (hgrant : s.grantWithRoom i r n = (t, .granted)) : Weighed i s (t, .granted)

theorem Weighed.grantWithRoom {i : Sid} {r : StreamRecord} {s : State} (hi : s.stream i = some r)
    (hrun : r.state = .running) (n : Nat) : Weighed i s (s.grantWithRoom i r n) := by
  have hout (h : (s.grantWithRoom i r n).2 = .granted) : Weighed i s (s.grantWithRoom i r n) := by
    rw [Prod.ext (x := s.grantWithRoom i r n) (y := (_, Considered.granted)) rfl h]
    exact .granted hi hrun (Prod.ext rfl h)
  by_cases hd : r.defn.direction = .outbound
  · exact hout (by rw [State.grantWithRoom, if_pos hd])
  · by_cases hroom : (s.chain i).blocks + (n + 63) / 64 ≤ r.defn.quota ∧ (n + 63) / 64 ≤ s.memory.free
    · exact hout (by rw [State.grantWithRoom, if_neg hd, if_pos hroom])
    · rw [State.grantWithRoom, if_neg hd, if_neg hroom]
      exact .kept rfl nofun

theorem State.considerDue_weighed (i : Sid) (s : State) : Weighed i s (s.considerDue i) := by
  cases hs : s.serviceable i with
  | none => rw [State.considerDue, hs]; exact .kept rfl nofun
  | some r =>
    obtain ⟨hi, hrun⟩ := State.serviceable_some hs
    by_cases hfit : s.fits r.defn.cost = true
    · rw [State.considerDue_fits hs hfit]
      split
      next => exact .kept rfl nofun
      next => exact .kept rfl nofun
      next n _ => exact .grantWithRoom hi hrun n
    · simp only [State.considerDue, hs]
      rw [if_pos (by simpa using hfit)]
      exact .kept (s.noteLate_lawView 1) nofun

theorem State.considerDemand_weighed (i : Sid) (s : State) : Weighed i s (s.considerDemand i) := by
  unfold State.considerDemand
  split
  next => exact .kept rfl nofun
  next r hi =>
    split
    next => exact .kept rfl nofun
    next hc =>
      have hrun : r.state = .running := by simp at hc; exact hc.1.2
      split
      next => exact .kept rfl nofun
      next => exact .kept rfl nofun
      next n _ =>
        split
        · exact .kept rfl nofun
        · have hg := Weighed.grantWithRoom hi hrun n
          rw [State.grantWithRoom_eq] at hg
          exact hg

/-- A stage behind another, the rest of the view the same. -/
theorem State.enterStage_lawView (st : Stage) (s : State) : (s.enterStage st).lawView = { s.lawView with stage := st } := rfl

theorem Served.searchDemand {s u : State} (hview : u.lawView = { s.lawView with stage := .demand }) (k : Nat) (i : Sid) :
    Served s (State.searchDemand k i u) := by
  have closed {t : State} (ht : t.lawView = u.lawView) : Served s (t.enterStage .closed) :=
    .moved (st := .closed) (by rw [State.enterStage_lawView, ht, hview]) ⟨nofun, nofun⟩
  induction k generalizing i u with
  | zero => exact closed rfl
  | succ k ih =>
    have hw := u.considerDemand_weighed i
    rw [State.searchDemand_succ]
    generalize u.considerDemand i = x at hw
    cases hw with
    | granted hi hrun hgrant => exact .granted hview (.inr rfl) hi hrun hgrant (State.pointAt_lawView i _)
    | @kept t c ht hc =>
      have hround : (t.mapRecord fun c => { c with round := c.round + 1 }).lawView = u.lawView :=
        (State.mapRecord_lawView t).trans ht
      cases c with
      | granted => exact absurd rfl hc
      | ended => exact closed ht
      | passed => exact ih (hround.trans hview) _ fun ht' => closed (ht'.trans hround)

theorem Served.serveDue {s u : State} (hview : u.lawView = { s.lawView with stage := .cyclic }) (l : List Sid) :
    Served s (State.serveDue l u) := by
  induction l generalizing u with
  | nil =>
    refine Served.searchDemand ?_ _ _
    refine (State.mapRecord_lawView _).trans ?_
    rw [State.enterStage_lawView, hview]
  | cons i l ih =>
    have hw := u.considerDue_weighed i
    unfold State.serveDue
    generalize u.considerDue i = x at hw
    cases hw with
    | granted hi hrun hgrant => exact .granted hview (.inl rfl) hi hrun hgrant rfl
    | @kept t c ht hc =>
      have hplace := ((State.mapRecord_lawView (f := fun c => { c with duePlace := c.duePlace + 1 }) t).trans
        ht).trans hview
      cases c with
      | granted => exact absurd rfl hc
      | ended => exact ih hplace
      | passed => exact ih hplace

theorem State.opening_stage {c : CycleRecord} {s : State} (h : s.opening = some c) :
    s.plan.stage = .opening ∧ s.plan.record = some c := by
  unfold State.opening at h
  split at h
  next hl => exact ⟨hl.2, h⟩
  next => simp at h

section
variable {o s : State} (h : Acts o s)
include h

/-- Behind the beacon the plan enters CYCLIC (R61). -/
theorem Acts.enterCyclic (hb : s.beaconOut = true) : Acts o s.enterCyclic := by
  obtain ⟨c, hc, -⟩ := (Option.any_eq_true _ _).mp hb
  obtain ⟨hstage, hrecord⟩ := State.opening_stage hc
  refine h.tail (.serve (by simp [hstage]) (.inl hb) ?_)
  simp only [State.enterCyclic, hrecord]
  refine Served.serveDue ?_ _
  refine (State.mapRecord_lawView _).trans ?_
  exact State.enterStage_lawView _ _

/-- The link is free after a transaction, and the plan goes on (R57). -/
theorem Acts.planContinues (hfree : s.engine.transaction = none) : Acts o s.planContinues := by
  have stage_kept {st : Stage} (hst : s.plan.stage = st) : s.lawView = { s.lawView with stage := st } := by
    subst hst; rfl
  unfold State.planContinues
  split
  next c hst _ =>
    refine h.tail (.serve (by simp [hst]) (.inr hfree) (Served.serveDue ?_ _))
    exact (State.mapRecord_lawView _).trans (stage_kept hst)
  next hst _ =>
    exact h.tail (.serve (by simp [hst]) (.inr hfree) (Served.searchDemand (stage_kept hst) _ _))
  next => exact h

/-! ## The link engine -/

theorem Acts.whenPhase {ph : Phase} {b : Bool} {wait : State → State} {act : Transaction → State → State}
    (hw : Acts o (wait s)) (ha : ∀ tx t, Acts o t → t.atPhase ph b = some tx → Acts o (act tx t)) :
    Acts o (s.whenPhase ph b wait act) := by
  unfold State.whenPhase
  split
  · dsimp only
    split
    next tx ht => exact ha tx _ hw ht
    next => exact hw
  · exact h

theorem Acts.sendAtPhase (ph : Phase) (chars : Transaction → State → List Byte) {note : Transaction → State → Transaction}
    (hn : ∀ (tx : Transaction) (s : State), tx.Follows { note tx s with begun := true }) : Acts o (s.sendAtPhase ph chars note) := by
  unfold State.sendAtPhase
  split
  · exact h
  · refine h.whenPhase (h.passTime _) fun tx t ht htx => ?_
    obtain ⟨hlead, hsome⟩ := State.atPhase_some htx
    exact Acts.setTransaction (ht.tail (.beginFrame hlead _)) (tx := tx) hsome (hn tx t)

theorem Acts.sentAtPhase (ph : Phase) {act : Transaction → State → State}
    (ha : ∀ tx t, Acts o t → t.atPhase ph true = some tx → Acts o (act tx t)) : Acts o (s.sentAtPhase ph act) :=
  h.whenPhase (h.passTime _) ha

theorem Acts.frameSent {tx : Transaction} (ht : s.engine.transaction = some tx) {ph : Phase} (hph : ph ≠ .receiving) :
    Acts o (s.frameSent tx ph) :=
  h.setTransaction ht (.of_payload (hph := hph))

theorem Acts.sendHeader : Acts o s.sendHeader :=
  h.sendAtPhase _ _ fun _ _ => ⟨rfl, rfl, rfl, id⟩

theorem Acts.sendData : Acts o s.sendData :=
  h.sendAtPhase _ _ fun _ _ => ⟨rfl, rfl, rfl, id⟩

theorem Acts.sendTaken : Acts o s.sendTaken :=
  h.sendAtPhase _ _ fun _ _ => ⟨rfl, rfl, rfl, id⟩

theorem Acts.headerSent : Acts o s.headerSent :=
  h.sentAtPhase _ fun tx _ h ht => h.frameSent (State.atPhase_some ht).2 (by cases tx.direction <;> decide)

theorem Acts.dataSent : Acts o s.dataSent :=
  h.sentAtPhase _ fun _ _ h ht => h.frameSent (State.atPhase_some ht).2 (by decide)

theorem Acts.takenSent : Acts o s.takenSent :=
  h.sentAtPhase _ fun _ _ h _ => h.decideOutcome _

theorem Acts.endTransaction : Acts o s.endTransaction := by
  unfold State.endTransaction
  split
  next => exact h
  next tx ht =>
    split
    · exact h
    · exact Acts.planContinues (h.tail (.outcome ht _)) (by rw [State.applyOutcome_engine])

theorem Acts.silentReply : Acts o s.silentReply := by
  have hd := h.decideOutcome .silent
  simp only [State.silentReply]
  split
  · exact hd.endTransaction
  · exact hd

theorem Acts.waitWindow : Acts o s.waitWindow := by
  unfold State.waitWindow
  split
  · exact h
  · exact h.passTime _

theorem Acts.windowExpiry : Acts o s.windowExpiry := by
  unfold State.windowExpiry
  split
  · exact h
  · exact h.whenPhase h.waitWindow fun _ _ h _ => h.silentReply

theorem Acts.closeWindow : Acts o s.closeWindow := by
  unfold State.closeWindow
  split
  · exact h
  · split
    · exact h.silentReply
    · exact h

theorem Acts.holdLevel (n : Nat) : Acts o (s.holdLevel n) := by
  unfold State.holdLevel
  split
  · exact h.passBusy n
  · split
    · exact Acts.passBusy (h.whenPhase (h.passBusy _) fun _ _ h _ => h.silentReply) _
    · exact h.passBusy n

theorem Acts.holdLine : Acts o s.holdLine := by
  unfold State.holdLine
  split
  · exact h.holdLevel _
  · exact h

theorem Acts.transactionEnd : Acts o s.transactionEnd := by
  unfold State.transactionEnd
  split
  · exact Acts.endTransaction (h.passTime _)
  · exact h

/-! ## Heard frames -/

theorem Acts.takeFrame (chars : List LinkChar) : Acts o (s.takeFrame chars) := by
  unfold State.takeFrame
  split
  · exact h.beaconHeard _ _
  · split
    next tx ht =>
      refine h.setTransaction (State.atPhase_some ht).2 ?_
      split
      · exact tx.follows_readCut
      · exact tx.follows_readReply chars
    next => exact h

theorem Acts.frameStops (whole : Bool) : Acts o (s.frameStops whole) := by
  unfold State.frameStops
  split
  · exact h
  · exact h.passTime _

theorem Acts.dataBegins (n : Nat) (c : Option (Byte × Byte)) : Acts o (s.dataBegins n c) := by
  have heard : Acts o ((s.passBusy n).setEngine { (s.passBusy n).engine with hearing := true, control := c }) :=
    (h.passBusy n).view rfl
  simp only [State.dataBegins]
  split
  next tx _ ht => exact heard.setTransaction (State.atPhase_some ht).2 (tx.follows_readControl c)
  next => exact heard

theorem Acts.dataEnds (n : Nat) (rest : List LinkChar) : Acts o (s.dataEnds n rest) := by
  unfold State.dataEnds
  extract_lets c t
  have hb : Acts o (s.passBusy n).endHearing := (h.passBusy n).view rfl
  have ht : Acts o t := hb.frameStops _
  split
  · split
    next tx hx => exact ht.setTransaction (State.atPhase_some hx).2 (Transaction.follows_readEnd _ _ (State.atPhase_phase hx))
    next => exact ht
  · split
    next tx hx => exact ht.setTransaction (State.atPhase_some hx).2 tx.follows_readCut
    next => exact ht

theorem Acts.hearShort (n : Nat) (chars : List LinkChar) : Acts o (s.hearShort n chars) := by
  have ht := (h.passBusy n).frameStops (frameWhole chars)
  simp only [State.hearShort]
  split
  · exact ht
  · exact ht.takeFrame chars

theorem Acts.hearChars (times : List LinkTime) : Acts o (s.hearChars times) := by
  unfold State.hearChars
  split
  · split
    · exact (h.dataBegins _ _).dataEnds _ _
    · exact h.hearShort _ _
  · exact h.hearShort _ _

theorem Acts.hearFrame (times : List LinkTime) : Acts o (s.hearFrame times) := by
  unfold State.hearFrame
  split
  · exact h.holdLevel _
  · exact h.closeWindow.hearChars _

theorem Acts.hearAll (times : List LinkTime) : Acts o (s.hearAll times) :=
  List.foldlRecOn (framesOf times) _ h fun _ ht f _ => ht.hearFrame f

theorem Acts.frameHeard (n : Nat) (times : List LinkTime) : Acts o (s.frameHeard n times) := by
  unfold State.frameHeard
  split
  · exact h
  · exact (h.passTime n).hearAll times

theorem Acts.lengthRead (n : Nat) (c : Option (Byte × Byte)) : Acts o (s.lengthRead n c) := by
  unfold State.lengthRead
  split
  · exact h
  · exact (h.passTime n).closeWindow.dataBegins _ _

theorem Acts.dataFrameEnd (n : Nat) (rest : List LinkChar) : Acts o (s.dataFrameEnd n rest) :=
  (h.closeWindow.dataEnds _ _).hearAll _

end

/-! ## Openings of a cycle (R60, R61) -/

theorem State.changeMastership_noTransaction {s : State} (h : s.engine.transaction = none) (new : MastState) (cause : Cause) :
    (s.changeMastership new cause).engine.transaction = none := by
  have hleft : (s.leaveLeading new).engine.transaction = none := by
    unfold State.leaveLeading
    split
    · exact State.settleTransaction_noTransaction _ _
    · exact h
  rw [State.changeMastership_eq, State.planFollows_engine, State.streamsFollow_engine]
  exact hleft

theorem State.cycleBoundary_noTransaction {s : State} (h : s.engine.transaction = none) :
    s.cycleBoundary.engine.transaction = none := by
  have hmaster (t : State) (ht : t.engine.transaction = none) : t.masterBoundary.engine.transaction = none := by
    unfold State.masterBoundary
    (repeat' split) <;> simp [State.changeMastership_noTransaction, ht]
  simp only [State.cycleBoundary]
  exact hmaster _ (by simpa using h)

/-- No time that passes begins a transaction. -/
theorem State.passTime_noTransaction {s : State} (h : s.engine.transaction = none) (n : Nat) :
    (s.passTime n).engine.transaction = none := by
  refine State.passTime_preserves (P := fun t => t.engine.transaction = none) (fun n t ht => ?_)
    (fun t ht => State.cycleBoundary_noTransaction ht) (fun t ht => ?_) n s h
  · simp only [State.elapse, LinkEngine.silent, LinkEngine.active]
    split <;> exact ht
  · simp only [State.faulted, State.settleHandovers_engine, State.settleListen_engine]
    exact State.changeMastership_noTransaction (by exact ht) _ _

section
variable {o s : State} (h : Acts o s)
include h

theorem Acts.openCycle (hfree : s.engine.transaction = none) : Acts o s.openCycle := by
  unfold State.openCycle
  split
  · exact h
  next c hc =>
    split
    · exact h.handoverEffect
    · extract_lets at0 t t'
      have hlead := State.opening_some hc
      have ht : Acts o t := h.tail (.beacon hlead hfree at0)
      have ht' : Acts o t' ∧ t'.master = s.master := by
        simp only [t']
        split
        · exact ⟨ht.noteLate 0, by simp [t]⟩
        · exact ⟨ht, rfl⟩
      exact ht'.1.tail (.beginFrame (by rw [ht'.2]; exact hlead) _)

theorem Acts.beaconGrant : Acts o s.beaconGrant := by
  unfold State.beaconGrant
  split
  · exact h
  · split
    · exact h
    next hc =>
      have hfree : s.engine.transaction = none := by simp at hc; exact hc.1.1
      exact Acts.openCycle (h.passTime _) (State.passTime_noTransaction hfree _)

theorem Acts.cyclicPhaseStart : Acts o s.cyclicPhaseStart := by
  unfold State.cyclicPhaseStart
  split
  · dsimp only
    split
    next hb => exact Acts.enterCyclic (h.passTime _) hb
    next => exact h.passTime _
  · exact h

end

end Sys2Proof.Machine
end

section
/-! SUPPORT. The requests, the command port and every command, in acts. -/

set_option Elab.async false

namespace Sys2Proof.Machine

open Sys2Proof.Safety

/-! ## The requests of the stream table and of segment memory -/

theorem State.setStream_setPlan (i : Sid) (x : Option StreamRecord) (p : Plan) (s : State) :
    (s.setPlan p).setStream i x = (s.setStream i x).setPlan p := rfl

section
variable {o s : State} (h : Acts o s)
include h

theorem Acts.withStream (sid : Byte) {k : Sid → StreamRecord → State → Executed}
    (hk : ∀ i r, s.stream i = some r → Acts o (k i r s).1) : Acts o (withStream sid k s).1 := by
  unfold Machine.withStream
  split
  · exact h
  · split
    · exact h
    next r hr => exact hk _ r hr

theorem Acts.defineStream (f : DefineFields) : Acts o (defineStream f s).1 := by
  unfold Machine.defineStream
  split
  next => exact h
  next i _ =>
    split
    next => exact h
    next hfree =>
      split
      next => exact h
      next => exact Acts.renew (h.tail (.define (by simpa using hfree) _)) i

theorem Acts.startStream {i : Sid} {r : StreamRecord} (hi : s.stream i = some r)
    (hst : r.state = .idle ∨ r.state = .done) (t : StartTrigger) (total : Nat) :
    Acts o (s.startStream i r t total) := by
  have hidle : r.inUse = false := by rcases hst with hst | hst <;> simp [StreamRecord.inUse, hst]
  have hadmit : (s.admitLoad r.defn).stream i = some r := by simpa [State.stream] using hi
  have hstarted := ((h.view (s.admitLoad_lawView r.defn)).restream_idle hadmit hidle (r' := r.started t total) rfl nofun).tail
    (.clearHeld (State.setStream_stream_self _ _ _))
  unfold State.startStream
  cases t with
  | now => exact (hstarted.renew i).offerRefill i _
  | arm _ => exact hstarted.renew i

theorem Acts.startRequest (sid kind : Byte) (value : BitVec 16) (total : BitVec 32) :
    Acts o (startRequest sid kind value total s).1 := by
  refine h.withStream sid fun i r hi => ?_
  split
  case h_1 hs | h_2 hs =>
    split
    · exact h
    · split
      · exact h
      · split
        · exact h
        · split
          · exact h
          · exact h.startStream hi (by simp [hs]) _ _
  all_goals exact h

theorem Acts.stopRequest (tag sid : Byte) : Acts o (stopRequest tag sid s).1 := by
  refine h.withStream sid fun i r hi => ?_
  have stopped : Acts o (if s.inFlight i then
      (s.setStream i (some { r with stopPending := true, stopTags := r.stopTags ++ [tag] }), none)
      else (s.halt i r .stopped).reply (done []) : Executed).1 := by
    split
    next hf => exact h.tail (.restream hi rfl (fun _ => .inr hf) .inl)
    next hf =>
      exact Acts.offer (h.tail (.restream hi (r' := { r with state := .halted, condition := some .stopped }) rfl .inl
        fun _ => .inr (by simpa using hf))) _
  split
  case h_2 hs =>
    exact Acts.releaseLoad (h.restream_idle hi (r' := { r with state := .idle, trigger := none })
      (by simp [StreamRecord.inUse, hs]) rfl id) i
  case h_3 | h_4 => exact stopped
  all_goals exact h

/-- A stream in use stays in use (R9, R10). -/
theorem Acts.restream_inUse {i : Sid} {r r' : StreamRecord} (hi : s.stream i = some r) (huse : r'.inUse = true)
    (hd : r'.defn = r.defn) (hstop : r'.stopPending = r.stopPending) : Acts o (s.setStream i (some r')) :=
  h.tail (.restream hi hd (fun hp => .inl (hstop ▸ hp)) fun _ => .inl huse)

theorem Acts.pauseRequest (sid : Byte) : Acts o (pauseRequest sid s).1 := by
  refine h.withStream sid fun i r hi => ?_
  split
  case h_1 => exact h.restream_inUse hi (r' := { r with state := .paused }) rfl rfl rfl
  all_goals exact h

theorem Acts.unpauseRequest (sid : Byte) : Acts o (unpauseRequest sid s).1 := by
  refine h.withStream sid fun i r hi => ?_
  split
  case h_1 => exact h.restream_inUse hi (r' := { r with state := .running }) rfl rfl rfl
  all_goals exact h

theorem Acts.resumeRequest (sid : Byte) : Acts o (resumeRequest sid s).1 := by
  refine h.withStream sid fun i r hi => ?_
  split
  case h_1 =>
    exact Acts.offerRefill (h.restream_inUse hi
      (r' := { r with state := .running, failures := 0, lastFailure := none, condition := none }) rfl rfl rfl) _ _
  all_goals exact h

theorem Acts.resetStreamRequest (sid : Byte) : Acts o (resetStreamRequest sid s).1 := by
  refine h.withStream sid fun i r hi => ?_
  have hreset (hst : r.state = .halted ∨ r.state = .done) :
      Acts o (((s.releaseLoad i).setStream i (some r.resetRun)).clearHeld i) := by
    have hidle : r.inUse = false := by rcases hst with hst | hst <;> simp [StreamRecord.inUse, hst]
    have hreleased : (s.releaseLoad i).stream i = some { r with holdsLoad := r.holdsLoad && r.defn.isDemand } := by
      rw [State.releaseLoad_eq hi, State.setPlan_stream, State.setStream_stream_self]
    exact ((h.releaseLoad i).restream_idle hreleased hidle (r' := r.resetRun) rfl nofun).tail
      (.clearHeld (State.setStream_stream_self _ _ _))
  split
  case h_1 hs | h_2 hs => exact hreset (by simp [hs])
  all_goals exact h

theorem Acts.releaseRequest (sid : Byte) : Acts o (releaseRequest sid s).1 := by
  refine h.withStream sid fun i r hi => ?_
  have hreleased (hst : r.state = .idle ∨ r.state = .halted ∨ r.state = .done) :
      Acts o ((((s.freeChain i).releaseLoad i).setStream i none).renew i) := by
    have hidle : r.inUse = false := by rcases hst with hst | hst | hst <;> simp [StreamRecord.inUse, hst]
    have hi' : (s.freeChain i).stream i = some r := hi
    have hview : ((((s.freeChain i).releaseLoad i).setStream i none)).lawView = ((s.freeChain i).setStream i none).lawView := by
      rw [State.releaseLoad_eq hi', State.setStream_setPlan, State.setStream_setStream]
      exact State.setPlan_lawView (by simp [Plan.without]) (by simp [Plan.without])
    exact Acts.renew (Acts.view (h.tail (.release hi hidle)) hview) i
  split
  case h_1 hs | h_2 hs | h_3 hs => exact hreleased (by simp [hs])
  all_goals exact h

theorem Acts.refillRequest (sid : Byte) (n : BitVec 32) : Acts o (refillRequest sid n s).1 := by
  refine h.withStream sid fun i r hi => ?_
  have written : Acts o (if Config.maxTotal < r.total + n.toNat then s.reply (badForm 2) else
      (s.setStream i (some { r with total := r.total + n.toNat, residue := r.residue + n.toNat })).reply (done [])).1 := by
    split
    · exact h
    · exact h.view (State.setStream_lawView hi rfl)
  split
  · exact h
  · split
    case h_1 | h_2 | h_3 => exact written
    all_goals exact h

theorem Acts.flushRequest (sid : Byte) : Acts o (flushRequest sid s).1 := by
  refine h.withStream sid fun i r hi => ?_
  split
  case h_1 | h_2 | h_3 => exact h.tail (.flush hi)
  all_goals exact h

/-! ## The requests of the other blocks -/

theorem Acts.configureLink (rate : Byte) (c : BitVec 16) (share timeout : Byte) :
    Acts o (configureLink rate c share timeout s).1 := by
  unfold Machine.configureLink
  split
  next => exact h
  next hoff =>
    have hoffline : s.master.state = .offline := not_not.mp fun hne => hoff (.inl hne)
    split
    · exact h
    · exact h.tail (.configured hoffline _ _ _ _)

theorem Acts.linkUp (tag : Byte) : Acts o (linkUp tag s).1 := by
  unfold Machine.linkUp
  split
  next hoff =>
    exact Acts.changeMastership (Acts.setMaster h) .listening (fun hl => by simp [hoff] at hl) _
  next => exact h

theorem Acts.linkDown : Acts o (linkDown s).1 := by
  unfold Machine.linkDown
  split
  · exact h
  · dsimp only [State.reply]
    exact ((Acts.changeMastership h.setMaster .offline (fun _ => ⟨nofun, nofun⟩) _).settleListen _).settleHandovers _

theorem Acts.handoverRequest (tag : Byte) : Acts o (handoverRequest tag s).1 := by
  unfold Machine.handoverRequest
  split
  · exact h.setMaster
  · exact h

/-- Every request's block. -/
theorem Acts.bodyEffect (k : ReqKind) (tag : Byte) (b : List Byte) : Acts o (bodyEffect k tag b s).1 := by
  cases k with
  | openSession => exact h
  | restart => exact h.abandonRequests.setPort _
  | ackReports | resendReports | linkStatus | streamStatus | poolStatus | loadQuery | setCapture
  | takeCaptures | scheduleMark | cancelMarks | forceMark | timeStatus =>
    simp only [Machine.bodyEffect]
    exact h.of_same
  | put => exact h.tail (.put _ _ s)
  | take => exact h.tail (.take _ s)
  | flush => exact h.flushRequest _
  | configureLink => exact h.configureLink _ _ _ _
  | linkUp => exact h.linkUp tag
  | linkDown => exact h.linkDown
  | handover => exact h.handoverRequest tag
  | define => exact h.defineStream _
  | start => exact h.startRequest _ _ _ _
  | stop => exact h.stopRequest tag _
  | pause => exact h.pauseRequest _
  | unpause => exact h.unpauseRequest _
  | resume => exact h.resumeRequest _
  | resetStream => exact h.resetStreamRequest _
  | release => exact h.releaseRequest _
  | refill => exact h.refillRequest _ _

/-! ## The command port -/

theorem Acts.request (k : ReqKind) (retry : Bool) (tag : Byte) {effect : State → Executed}
    (he : Acts o (effect s).1) : Acts o (request k retry tag effect s) := by
  unfold Machine.request
  split
  · exact h
  · split
    · exact h.setPort _
    · split
      · exact h
      · exact h.setPort _
      · exact h.setPort _
      · revert he
        generalize effect s = x
        obtain ⟨t, body⟩ := x
        intro he
        cases body <;> exact Acts.setPort he _

theorem Acts.openRequest (retry : Bool) (tag : Byte) (body : List Byte) : Acts o (openRequest retry tag body s) := by
  unfold Machine.openRequest
  split
  · exact h
  · split
    · exact h
    · split
      · exact h.setPort _
      · split
        · exact ((h.abandonRequests.setPort _).setReports _).setPort _
        · exact h.setPort _

theorem Acts.disposeFrame (flags kind tag : Byte) (body : List Byte) : Acts o (disposeFrame flags kind tag body s) := by
  have himproper : Acts o (s.improper kind tag) := h.of_same
  unfold Machine.disposeFrame
  split
  · exact h.openRequest _ _ _
  · refine h.request _ _ _ ?_
    unfold requestEffect
    split
    · exact h
    · exact h.bodyEffect _ _ _
  · exact himproper
  · exact himproper

theorem Acts.abandonCandidate (k : PortErrorKind) : Acts o (s.abandonCandidate k) := h.of_same

theorem Acts.judge : Acts o s.judge := by
  unfold State.judge
  split
  · split
    · exact h.abandonCandidate _
    · split
      · exact h
      · split
        · exact (h.setPort _).disposeFrame _ _ _ _
        · exact h.abandonCandidate _
  · exact h

theorem Acts.examine (b : RxByte) : Acts o (s.examine b) := by
  unfold State.examine
  split
  · exact h
  · exact (h.setPort _).judge

theorem Acts.examinePending (k : Nat) : Acts o (State.examinePending k s) := by
  induction k generalizing s with
  | zero => exact h
  | succ k ih =>
    unfold State.examinePending
    split
    · exact ih ((h.setPort _).examine _)
    · split
      · exact ih (h.abandonCandidate _)
      · exact h

theorem Acts.byteArrives (after : Nat) (b : Byte) : Acts o (s.byteArrives after b) :=
  Acts.examinePending (Acts.examine ((h.passTime after).examinePending _) _) _

theorem Acts.candidateGap : Acts o s.candidateGap := by
  unfold State.candidateGap
  split
  · exact h
  · exact Acts.examinePending (Acts.abandonCandidate (h.passTime _) _) _

theorem Acts.chooseFrame : Acts o s.chooseFrame := h.of_same

theorem Acts.transmitEnd : Acts o s.transmitEnd := by
  unfold State.transmitEnd
  split
  · exact h.chooseFrame
  · split
    · exact h.afterReset _ _ _ _ _ _
    · exact Acts.chooseFrame (h.passTime _)

theorem Acts.restartEnd : Acts o s.restartEnd := by
  unfold State.restartEnd
  split
  · exact h
  · split
    · exact h.afterReset _ _ _ _ _ _
    · exact h

/-- RESET_N goes low: the line is released, and nothing else that the laws read changes (R171). -/
theorem Acts.heldInReset : Acts o s.heldInReset := by
  unfold State.heldInReset
  exact Acts.of_same (h.tail (.releaseLine s)) (hengine := rfl)

/-! ## Captures and marks -/

theorem Acts.edge (k : Line) (rise : Bool) : Acts o (s.edge k rise) := by
  unfold State.edge
  split
  · exact Acts.triggerAll h.of_same fun _ => StreamRecord.armed_of_armedOn
  · exact h

theorem Acts.sample (changed level : BitVec 4) : Acts o (s.sample changed level) := by
  refine List.foldlRecOn allLines _ (Acts.of_same h) fun t ht k _ => ?_
  split
  · exact ht.edge k _
  · exact ht

theorem Acts.sampleAfter (n : Nat) (changed level : BitVec 4) : Acts o (s.sampleAfter n changed level) :=
  Acts.sample ((h.passTime n).passTime _) _ _

theorem Acts.runToMark (k : Line) : Acts o (s.runToMark k) := by
  unfold State.runToMark
  split
  · exact h
  · split
    · exact h.passTime _
    · exact h

theorem Acts.runToPulseEnd (k : Line) : Acts o (s.runToPulseEnd k) := by
  unfold State.runToPulseEnd
  split
  · exact h
  · split
    · exact h.passTime _
    · exact h

/-! ## Every command, every step -/

theorem Acts.whenRunning {t : State} {f : State → State} (hf : Acts o (f s)) (ht : whenRunning f s = .next t) :
    Acts o t := by
  simp only [Machine.whenRunning, Host.Outcome.next.injEq] at ht
  subst ht
  split
  · exact h
  · exact hf

/-- Every command is made of acts. -/
theorem Acts.exec {t : State} {c : Instr} (ht : exec c s = .next t) : Acts o t := by
  cases c with
  | resetNRelease => cases ht; exact h.afterReset _ _ _ _ _ _
  | hardReset => exact h.whenRunning h.heldInReset ht
  | commandByteReceived after b => exact h.whenRunning (h.byteArrives after b) ht
  | candidateGap => exact h.whenRunning h.candidateGap ht
  | openSession retry tag body => exact h.whenRunning (h.openRequest retry tag body) ht
  | restart => exact h.whenRunning (h.request _ _ _ (h.abandonRequests.setPort _)) ht
  | ackReports | resendReports | linkStatus | streamStatus | poolStatus | loadQuery | setCapture
  | takeCaptures | scheduleMark | cancelMarks | forceMark | timeStatus =>
    exact h.whenRunning (h.request _ _ _ h.of_same) ht
  | put retry tag sid payload => exact h.whenRunning (h.request _ _ _ (h.tail (.put sid payload s))) ht
  | take retry tag sid => exact h.whenRunning (h.request _ _ _ (h.tail (.take sid s))) ht
  | flush retry tag sid => exact h.whenRunning (h.request _ _ _ (h.flushRequest sid)) ht
  | configureLink => exact h.whenRunning (h.request _ _ _ (h.configureLink _ _ _ _)) ht
  | linkUp retry tag => exact h.whenRunning (h.request _ _ _ (h.linkUp tag)) ht
  | linkDown => exact h.whenRunning (h.request _ _ _ h.linkDown) ht
  | handover retry tag => exact h.whenRunning (h.request _ _ _ (h.handoverRequest tag)) ht
  | define retry tag f => exact h.whenRunning (h.request _ _ _ (h.defineStream f)) ht
  | start => exact h.whenRunning (h.request _ _ _ (h.startRequest _ _ _ _)) ht
  | stop retry tag sid => exact h.whenRunning (h.request _ _ _ (h.stopRequest tag sid)) ht
  | pause retry tag sid => exact h.whenRunning (h.request _ _ _ (h.pauseRequest sid)) ht
  | unpause retry tag sid => exact h.whenRunning (h.request _ _ _ (h.unpauseRequest sid)) ht
  | resume retry tag sid => exact h.whenRunning (h.request _ _ _ (h.resumeRequest sid)) ht
  | resetStream retry tag sid => exact h.whenRunning (h.request _ _ _ (h.resetStreamRequest sid)) ht
  | release retry tag sid => exact h.whenRunning (h.request _ _ _ (h.releaseRequest sid)) ht
  | refill retry tag sid n => exact h.whenRunning (h.request _ _ _ (h.refillRequest sid n)) ht
  | transmitFrameEnd => exact h.whenRunning h.transmitEnd ht
  | restartReset => exact h.whenRunning h.restartEnd ht
  | cycleBoundary => exact h.whenRunning (h.passTime _) ht
  | listenEnd | takeover =>
    refine h.whenRunning ?_ ht
    split
    · exact h.passTime _
    · exact h
  | markFires k => exact h.whenRunning (h.runToMark k) ht
  | pulseEnd k => exact h.whenRunning (h.runToPulseEnd k) ht
  | captureEdge n changed level => exact h.whenRunning (h.sampleAfter n changed level) ht
  | beaconGrant => exact h.whenRunning h.beaconGrant ht
  | cyclicPhaseStart => exact h.whenRunning h.cyclicPhaseStart ht
  | headerSend => exact h.whenRunning h.sendHeader ht
  | headerSent => exact h.whenRunning h.headerSent ht
  | dataFrameSend => exact h.whenRunning h.sendData ht
  | dataFrameSent => exact h.whenRunning h.dataSent ht
  | replyWindowExpiry => exact h.whenRunning h.windowExpiry ht
  | nodeAnswerReceived | beaconReceived | ignoredFrame => exact h.whenRunning (h.frameHeard _ _) ht
  | dataLengthRead => exact h.whenRunning (h.lengthRead _ _) ht
  | inboundDataFrameEnd => exact h.whenRunning (h.dataFrameEnd _ _) ht
  | takenSend => exact h.whenRunning h.sendTaken ht
  | takenSent => exact h.whenRunning h.takenSent ht
  | transactionEnd => exact h.whenRunning h.transactionEnd ht
  | stuckLine => exact h.whenRunning h.holdLine.holdLine ht

end

/-- Every step is made of acts. -/
theorem acts_of_step {s t : State} (ht : step s = .next t) : Acts s t := by
  have h := Acts.refl s
  unfold Machine.step at ht
  split at ht
  · exact Acts.exec (s := s.setPending _) h.of_same ht
  · unfold stepIdle at ht
    split at ht
    · exact h.exec ht
    · cases ht
      unfold State.tick
      split
      · exact h
      · exact h.passTime 1

end Sys2Proof.Machine
end

section
/-! SUPPORT. Every act keeps the idle law and the link law: O9. -/

set_option Elab.async false

namespace Sys2Proof.Machine

open Sys2Proof.Safety

/-! ## The idle law (R103) -/

section
variable {s t : State} (h : IdleLaw s)
include h

theorem idleLaw_of_same (hstate : t.master.state = s.master.state := by simp)
    (hrate : t.master.rate = s.master.rate := by simp) (hquiet : t.engine.quiet = s.engine.quiet := by simp)
    (hbusy : t.engine.busy = s.engine.busy := by simp) : IdleLaw t := by
  unfold IdleLaw
  rw [hstate, hrate, hquiet, hbusy]
  exact h

theorem idleLaw_of_view {v : LawView} (hs : v = s.lawView) (ht : t.lawView = v) : IdleLaw t := by
  have hview := ht.trans hs
  exact idleLaw_of_same h (congrArg LawView.state hview) (congrArg LawView.rate hview) (congrArg LawView.quiet hview)
    (congrArg LawView.busy hview)

end

/-- Silence returns the busy count to 0 once it has lasted 2 characters. -/
theorem LinkEngine.silent_busy {charMicros n : Nat} {e : LinkEngine}
    (h : 2 * charMicros ≤ (e.silent true charMicros n).quiet) : (e.silent true charMicros n).busy = 0 :=
  if_pos h

/-- However time passes, the busy count returns to 0 with the line idle for 2 characters. -/
theorem idleLaw_elapse (n : Nat) (s : State) : IdleLaw (s.elapse n) := by
  intro hsup hidle
  have hsup' : s.master.state.supervised = true := hsup
  simp only [State.elapse, hsup'] at hidle ⊢
  exact LinkEngine.silent_busy hidle

theorem LinkRate.charMicros_pos (r : LinkRate) : 0 < r.charMicros := by cases r <;> decide

/-- The line has just been active. -/
theorem idleLaw_of_active {s : State} (h : s.engine.quiet = 0) : IdleLaw s := by
  intro _ hidle
  have := s.master.rate.charMicros_pos
  omega

theorem State.changeMastership_busy (new : MastState) (cause : Cause) (s : State) (h : new.supervised = true) :
    (s.changeMastership new cause).engine.busy = 0 := by
  rw [State.changeMastership_eq, State.planFollows_engine, h]
  rfl

theorem State.grantWithRoom_engine {i : Sid} {r : StreamRecord} {n : Nat} {u v : State}
    (h : u.grantWithRoom i r n = (v, .granted)) :
    v.engine = { u.engine with transaction := some (newTransaction i r n u.time.cycle) } := by
  unfold State.grantWithRoom at h
  split at h
  · cases h
    rw [State.grant_eq]
  · split at h
    · cases h
      rw [State.grant_eq]
      rfl
    · cases h

theorem State.grantWithRoom_frame {i : Sid} {r : StreamRecord} {n : Nat} {u v : State}
    (h : u.grantWithRoom i r n = (v, .granted)) :
    v.streams = u.streams ∧ v.plan = u.plan ∧ v.master = u.master ∧ v.time = u.time := by
  unfold State.grantWithRoom at h
  split at h
  · cases h
    simp
  · split at h
    · cases h
      simp
    · cases h

/-- Serving the link leaves the line, the mastership state and the streams. -/
theorem Served.frame {s t : State} (h : Served s t) :
    t.lawView.streams = s.lawView.streams ∧ t.lawView.state = s.lawView.state ∧ t.lawView.rate = s.lawView.rate ∧
      t.lawView.quiet = s.lawView.quiet ∧ t.lawView.busy = s.lawView.busy ∧
      t.lawView.drivenUntil = s.lawView.drivenUntil ∧ t.lawView.clock = s.lawView.clock ∧
      t.lawView.beacon = s.lawView.beacon := by
  cases h with
  | moved hview => rw [hview]; exact ⟨rfl, rfl, rfl, rfl, rfl, rfl, rfl, rfl⟩
  | @granted u v t st i r n hview _ _ _ hgrant ht =>
    obtain ⟨hstreams, hplan, hmaster, htime⟩ := State.grantWithRoom_frame hgrant
    have hengine := State.grantWithRoom_engine hgrant
    have hu : v.lawView = { u.lawView with memory := v.memory, transaction := v.engine.transaction } := by
      simp only [State.lawView, State.stream, hstreams, hplan, hmaster, htime, hengine]
    rw [ht, hu, hview]
    exact ⟨rfl, rfl, rfl, rfl, rfl, rfl, rfl, rfl⟩

/-- Every act keeps the idle law. -/
theorem Act.idleLaw {s t : State} (hact : Act s t) (h : IdleLaw s) : IdleLaw t := by
  cases hact with
  | same hview => exact idleLaw_of_view h rfl hview
  | elapse n => exact idleLaw_elapse n s
  | restream | clearHeld | define | release | flush | put | take | outcome | openRecord | beacon =>
    exact idleLaw_of_same h
  | transaction | releaseLine => exact idleLaw_of_same h rfl rfl rfl rfl
  | @mastership new _ _ cause =>
    intro hsup _
    rw [State.changeMastership_master] at hsup
    exact State.changeMastership_busy new cause s hsup
  | beginFrame | configured | reset => exact idleLaw_of_active rfl
  | serve _ _ hserved =>
    obtain ⟨-, hstate, hrate, hquiet, hbusy, -⟩ := hserved.frame
    exact idleLaw_of_same h hstate hrate hquiet hbusy

end Sys2Proof.Machine
end

section
/-! SUPPORT. Every act keeps the link law: O9. -/

set_option Elab.async false

namespace Sys2Proof.Machine

open Sys2Proof.Safety

/-! ## The link law, by names -/

/-- The link law with a name for each of its clauses. -/
structure Linked (s : State) : Prop where
  lead : s.engine.transaction.isSome = true → s.master.state = .leading
  record : s.plan.record.isSome = true ↔ s.master.state = .leading
  stage : s.plan.stage = .standby ↔ s.master.state ≠ .leading
  drive : s.ldrv = true → s.master.state = .leading
  service : ∀ tx, s.engine.transaction = some tx → (s.stream tx.stream).any (inService tx) = true
  stop : ∀ i : Sid, (s.stream i).any (·.stopPending) = true → s.inFlight i = true
  beacon : s.plan.stage = .opening → s.plan.record.any (·.beaconStart.isSome) = true → s.engine.transaction = none
  closed : s.plan.stage = .closed → s.engine.transaction = none

theorem linked_iff {s : State} : Linked s ↔ LinkLaw s :=
  ⟨fun ⟨h1, h2, h3, h4, h5, h6, h7, h8⟩ => ⟨h1, h2, h3, h4, h5, h6, h7, h8⟩,
    fun ⟨h1, h2, h3, h4, h5, h6, h7, h8⟩ => ⟨h1, h2, h3, h4, h5, h6, h7, h8⟩⟩

/-! ## Changes that leave the plan and the transaction -/

theorem inService_eq (tx : Transaction) (r : StreamRecord) :
    inService tx r = (r.inUse && r.defn.direction == tx.direction) := rfl

theorem inService_of_core {tx : Transaction} {a b : Option StreamRecord}
    (h : a.map StreamRecord.lawCore = b.map StreamRecord.lawCore) : a.any (inService tx) = b.any (inService tx) := by
  cases a <;> cases b <;> simp_all [StreamRecord.lawCore, inService]

theorem stopPending_of_core {a b : Option StreamRecord} (h : a.map StreamRecord.lawCore = b.map StreamRecord.lawCore) :
    a.any (·.stopPending) = b.any (·.stopPending) := by
  cases a <;> cases b <;> simp_all [StreamRecord.lawCore]

theorem beaconOut_of_view {a b : Option CycleRecord} (h : a.map (·.beaconStart.isSome) = b.map (·.beaconStart.isSome)) :
    a.isSome = b.isSome ∧ a.any (·.beaconStart.isSome) = b.any (·.beaconStart.isSome) := by
  cases a <;> cases b <;> simp_all

/-- The link law reads the streams, the plan, the transaction, the mastership state, and whether the part drives the line. -/
theorem Linked.frame {s t : State} (h : Linked s)
    (hstreams : t.lawView.streams = s.lawView.streams) (hst : t.plan.stage = s.plan.stage)
    (hb : t.plan.record.map (·.beaconStart.isSome) = s.plan.record.map (·.beaconStart.isSome))
    (htx : t.engine.transaction = s.engine.transaction) (hm : t.master.state = s.master.state)
    (hdriven : t.ldrv = true → t.master.state = .leading) : Linked t := by
  have hcore (i : Sid) : (t.stream i).map StreamRecord.lawCore = (s.stream i).map StreamRecord.lawCore :=
    congrFun hstreams i
  obtain ⟨hsome, hany⟩ := beaconOut_of_view hb
  refine ⟨?_, ?_, ?_, hdriven, fun tx ht => ?_, fun i hi => ?_, ?_, ?_⟩
  · rw [htx, hm]; exact h.lead
  · rw [hsome, hm]; exact h.record
  · rw [hst, hm]; exact h.stage
  · rw [inService_of_core (hcore _)]
    exact h.service tx (htx ▸ ht)
  · rw [stopPending_of_core (hcore i)] at hi
    simpa only [State.inFlight, htx] using h.stop i hi
  · rw [hst, hany, htx]; exact h.beacon
  · rw [hst, htx]; exact h.closed

theorem Linked.of_view {s t : State} (h : Linked s) (hview : t.lawView = s.lawView) : Linked t := by
  have hstate : t.master.state = s.master.state := congrArg LawView.state hview
  have hdriven : t.ldrv = s.ldrv := by
    have h1 : t.engine.drivenUntil = s.engine.drivenUntil := congrArg LawView.drivenUntil hview
    have h2 : t.time.clock = s.time.clock := congrArg LawView.clock hview
    rw [State.ldrv, State.ldrv, h1, h2]
  refine Linked.frame h (congrArg LawView.streams hview) (congrArg LawView.stage hview) (congrArg LawView.beacon hview)
    (congrArg LawView.transaction hview) hstate fun hd => ?_
  rw [hstate]
  exact h.drive (hdriven ▸ hd)

/-- One stream's record changes: the stream in flight stays in service, and a STOP waits only on it. -/
theorem Linked.restream {s t : State} (h : Linked s) (i : Sid) (hne : ∀ j, j ≠ i → t.stream j = s.stream j)
    (huse : ∀ tx, s.engine.transaction = some tx → tx.stream = i → (t.stream i).any (inService tx) = true)
    (hstop : (t.stream i).any (·.stopPending) = true → s.inFlight i = true)
    (hplan : t.plan = s.plan := by simp) (hengine : t.engine = s.engine := by simp)
    (hmaster : t.master = s.master := by simp) (htime : t.time = s.time := by simp) : Linked t := by
  have hdriven : t.ldrv = s.ldrv := by rw [State.ldrv, State.ldrv, hengine, htime]
  have hflight (j : Sid) : t.inFlight j = s.inFlight j := by rw [State.inFlight, State.inFlight, hengine]
  refine ⟨?_, ?_, ?_, ?_, fun tx ht => ?_, fun j hj => ?_, ?_, ?_⟩
  · rw [hengine, hmaster]; exact h.lead
  · rw [hplan, hmaster]; exact h.record
  · rw [hplan, hmaster]; exact h.stage
  · rw [hdriven, hmaster]; exact h.drive
  · rw [hengine] at ht
    by_cases hi : tx.stream = i
    · rw [hi]; exact huse tx ht hi
    · rw [hne _ hi]; exact h.service tx ht
  · rw [hflight]
    by_cases hi : j = i
    · subst hi; exact hstop hj
    · rw [hne j hi] at hj; exact h.stop j hj
  · rw [hplan, hengine]; exact h.beacon
  · rw [hplan, hengine]; exact h.closed

/-- What the link law says about a stream in flight (R38). -/
theorem Linked.served {s : State} (h : Linked s) {tx : Transaction} (ht : s.engine.transaction = some tx) :
    ∃ r, s.stream tx.stream = some r ∧ r.inUse = true ∧ r.defn.direction = tx.direction := by
  obtain ⟨r, hr, hserv⟩ := (Option.any_eq_true _ _).mp (h.service tx ht)
  rw [inService_eq, Bool.and_eq_true, beq_iff_eq] at hserv
  exact ⟨r, hr, hserv⟩

theorem Linked.leads {s : State} (h : Linked s) {tx : Transaction} (ht : s.engine.transaction = some tx) :
    s.master.state = .leading := h.lead (by rw [ht]; rfl)

/-- A stream out of use is not in flight. -/
theorem Linked.notInFlight {s : State} (h : Linked s) {i : Sid} (hi : (s.stream i).all (fun r => !r.inUse) = true) :
    s.inFlight i = false := by
  cases ht : s.engine.transaction with
  | none => simp [State.inFlight, ht]
  | some tx =>
    obtain ⟨r, hr, huse, -⟩ := h.served ht
    by_cases hj : tx.stream = i
    · subst hj
      simp [hr, huse] at hi
    · simp [State.inFlight, ht, hj]

/-- Where nothing is in flight no STOP waits (R13). -/
theorem Linked.noStop {s : State} (h : Linked s) (hfree : s.engine.transaction = none) {i : Sid} {r : StreamRecord}
    (hi : s.stream i = some r) : r.stopPending = false := by
  by_contra hp
  have := h.stop i (by simpa [hi] using hp)
  simp [State.inFlight, hfree] at this

/-- A state with nothing in flight meets the link law when its plan fits the mastership state and no STOP waits. -/
theorem Linked.of_free {t : State} (hfree : t.engine.transaction = none)
    (hstop : ∀ i r, t.stream i = some r → r.stopPending = false)
    (hrecord : t.plan.record.isSome = true ↔ t.master.state = .leading)
    (hstage : t.plan.stage = .standby ↔ t.master.state ≠ .leading)
    (hdriven : t.ldrv = true → t.master.state = .leading) : Linked t := by
  refine ⟨fun hsome => ?_, hrecord, hstage, hdriven, fun tx ht => ?_, fun i hi => ?_, fun _ _ => hfree, fun _ => hfree⟩
  · rw [hfree] at hsome; cases hsome
  · rw [hfree] at ht; cases ht
  · obtain ⟨r, hr, hp⟩ := (Option.any_eq_true _ _).mp hi
    rw [hstop i r hr] at hp; cases hp

/-! ## The end of a transaction -/

/-- The record behind its waiting STOPs: they wait no more, and a stream that has not ended halts (R13). -/
def StreamRecord.stopResolved (r : StreamRecord) : StreamRecord :=
  if r.stopPending = false then r
  else if r.state = .halted ∨ r.state = .done then { r with stopPending := false, stopTags := [] }
  else { r with stopPending := false, stopTags := [], state := .halted, condition := some .stopped }

theorem StreamRecord.stopResolved_stopPending (r : StreamRecord) : r.stopResolved.stopPending = false := by
  unfold StreamRecord.stopResolved
  split
  · assumption
  · split <;> rfl

theorem StreamRecord.stopResolved_defn (r : StreamRecord) : r.stopResolved.defn = r.defn := by
  unfold StreamRecord.stopResolved
  (repeat' split) <;> rfl

theorem State.resolveStop_stream (i : Sid) (s : State) :
    (s.resolveStop i).stream i = (s.stream i).map StreamRecord.stopResolved := by
  have answered (tags : List Byte) (b : Body) (t : State) :
      (tags.foldl (fun s tag => s.answer tag b) t).stream i = t.stream i := by
    rw [answerAll_eq, State.setPort_stream]
  cases hi : s.stream i with
  | none => simp only [State.resolveStop, hi, Option.map_none]
  | some r =>
    rw [Option.map_some, StreamRecord.stopResolved]
    by_cases hp : r.stopPending = true
    · simp only [State.resolveStop, hi, hp, if_true, Bool.true_eq_false, if_false]
      split
      case h_1 hs | h_2 hs => rw [if_pos (by simp [hs]), answered, State.setStream_stream_self]
      case h_3 hs | h_4 hs | h_5 hs | h_6 hs =>
        rw [if_neg (by simp [hs]), answered]
        exact State.setStream_stream_self _ _ _
    · simp only [State.resolveStop, hi, if_neg hp, if_pos (Bool.eq_false_iff.mpr hp)]

section
variable (tx : Transaction) (o : Outcome) (s : State)

theorem State.conclude_planKept (i : Sid) (r : StreamRecord) (marked : Bool) (e : EndCheck) :
    (s.conclude i r marked e).plan.stage = s.plan.stage ∧ (s.conclude i r marked e).plan.record = s.plan.record := by
  cases e with
  | closed | complete | short => simp [State.conclude, State.finish_eq, Plan.without]
  | closeEmpty | stays => rw [State.conclude, State.goOn_plan]; exact ⟨rfl, rfl⟩

theorem State.applyToStream_planKept :
    (s.applyToStream tx o).plan.stage = s.plan.stage ∧ (s.applyToStream tx o).plan.record = s.plan.record := by
  unfold State.applyToStream
  split
  next => exact ⟨rfl, rfl⟩
  next r _ =>
    cases o with
    | accepted =>
      rw [State.applyAccepted_eq]
      obtain ⟨hstage, hrecord⟩ := State.conclude_planKept (if r.marks then s.offer (.streamMark tx.stream) else s)
        tx.stream (r.afterAccepted tx) r.marks ((r.afterAccepted tx).endCheck tx.moved tx.baseSize tx.size)
      rw [hstage, hrecord]
      split <;> exact ⟨rfl, rfl⟩
    | silent | check | form => simp
    | duplicate | wait | reject | overrun | yielded => exact ⟨rfl, rfl⟩

theorem State.applyOutcome_planKept : (s.applyOutcome tx o).plan.stage = s.plan.stage ∧
    (s.applyOutcome tx o).plan.record.map (·.beaconStart.isSome) = s.plan.record.map (·.beaconStart.isSome) := by
  obtain ⟨hstage, hrecord⟩ := State.applyToStream_planKept tx o
    ((s.setEngine { s.engine with transaction := none }).applyToMemory tx o)
  rw [State.applyToMemory_plan] at hstage hrecord
  rw [State.applyOutcome, State.resolveStop_plan, State.joinWaited]
  split
  · rw [State.setPlan_plan, hrecord]
    exact ⟨hstage, by simp [Function.comp_def]⟩
  · exact ⟨hstage, by rw [hrecord]; rfl⟩

end

/-- The end of a transaction leaves nothing in flight and no STOP waiting (R92, R13). -/
theorem Linked.applyOutcome {s : State} (h : Linked s) {tx : Transaction} (ht : s.engine.transaction = some tx)
    (o : Outcome) : Linked (s.applyOutcome tx o) := by
  obtain ⟨hstage, hbeacon⟩ := State.applyOutcome_planKept tx o s
  have hrecord := (beaconOut_of_view hbeacon).1
  have hengine := State.applyOutcome_engine tx o s
  have hdriven : (s.applyOutcome tx o).ldrv = s.ldrv := by
    rw [State.ldrv, State.ldrv, hengine, State.applyOutcome_time]
  refine Linked.of_free (by rw [hengine]) (fun i r hi => ?_) ?_ ?_ ?_
  · by_cases hj : i = tx.stream
    · subst hj
      obtain ⟨x, -, rfl⟩ := Option.map_eq_some_iff.mp ((State.resolveStop_stream _ _).symm.trans hi)
      exact x.stopResolved_stopPending
    · rw [State.applyOutcome_stream_ne hj] at hi
      by_contra hp
      have := h.stop i (by simpa [hi] using hp)
      simp [State.inFlight, ht, Ne.symm hj] at this
  · rw [hrecord, State.applyOutcome_master]; exact h.record
  · rw [hstage, State.applyOutcome_master]; exact h.stage
  · rw [hdriven, State.applyOutcome_master]; exact h.drive

/-! ## A change of mastership (R106) -/

/-- Releasing the line. -/
theorem Linked.releaseLine {s : State} (h : Linked s) : Linked s.releaseLine := by
  refine Linked.frame h rfl rfl rfl rfl rfl fun hd => ?_
  have hlt : s.time.clock < min s.engine.drivenUntil s.time.clock := of_decide_eq_true hd
  omega

/-- The part has left LEADING: nothing is in flight, and a STOP still waits only where a transaction was dropped, on a stream
that the change halts. -/
theorem Linked.leaveLeading {s : State} (h : Linked s) (new : MastState) :
    (s.leaveLeading new).engine.transaction = none ∧
      ∀ i r, (s.leaveLeading new).stream i = some r → r.stopPending = true →
        r.losesLink ∧ new ≠ .following ∧ s.master.state = .leading := by
  by_cases hlead : s.master.state = .leading
  · rw [State.leaveLeading, if_pos hlead]
    refine ⟨State.settleTransaction_noTransaction _ _, fun i r hi hp => ?_⟩
    have hrel := Linked.releaseLine h
    have settled {t : State} (ht : Linked t) (hfree : t.engine.transaction = none) (hr : t.stream i = some r) : False := by
      rw [ht.noStop hfree hr] at hp
      cases hp
    unfold State.settleTransaction at hi
    split at hi
    next hnone => exact (settled hrel hnone hi).elim
    next tx htx =>
      have applied (o : Outcome) (hi : (s.releaseLine.applyOutcome tx o).stream i = some r) : False :=
        settled (Linked.applyOutcome hrel htx o) (by rw [State.applyOutcome_engine]) hi
      split at hi
      next o _ => exact (applied o hi).elim
      next =>
        split at hi
        next => exact (applied _ hi).elim
        next hnew =>
          have hi' : s.stream i = some r := by simpa [State.stream] using hi
          have hflight := h.stop i (by simpa [hi'] using hp)
          have hin : r.inUse = true := by
            by_contra hno
            rw [h.notInFlight (by simpa [hi'] using hno)] at hflight
            cases hflight
          exact ⟨.inr (by simpa [StreamRecord.inUse] using hin), hnew, hlead⟩
  · rw [State.leaveLeading, if_neg hlead]
    have hfree : s.engine.transaction = none := by
      by_contra hne
      exact hlead (h.lead (by simpa [Option.isSome_iff_ne_none] using hne))
    refine ⟨hfree, fun i r hi hp => ?_⟩
    rw [h.noStop hfree hi] at hp
    cases hp

theorem Linked.changeMastership {s : State} (h : Linked s) {new : MastState}
    (hnew : s.master.state = .leading → new ≠ .leading ∧ new ≠ .listening) (cause : Cause) :
    Linked (s.changeMastership new cause) := by
  obtain ⟨hfree, hstop⟩ := Linked.leaveLeading h new
  have hstate : (s.changeMastership new cause).master.state = new := by rw [State.changeMastership_master]
  have hplan : (s.changeMastership new cause).plan.stage = (if new = .leading then .opening else .standby) ∧
      (s.changeMastership new cause).plan.record.isSome = decide (new = .leading) := by
    rw [State.changeMastership_eq, State.planFollows_plan]
    by_cases hl : new = .leading <;> simp [hl]
  have hnone : (s.changeMastership new cause).engine.transaction = none := by
    rw [State.changeMastership_eq, State.planFollows_engine, State.streamsFollow_engine]
    exact hfree
  refine Linked.of_free hnone (fun i r hi => ?_) ?_ ?_ fun hd => ?_
  · have hfollowed : (s.changeMastership new cause).stream i = ((s.leaveLeading new).stream i).map (·.followed new) := by
      rw [State.changeMastership_eq, State.stream, State.planFollows_streams]
      exact (State.streamsFollow_spec new _).1 i
    rw [hfollowed] at hi
    obtain ⟨x, hx, rfl⟩ := Option.map_eq_some_iff.mp hi
    by_contra hp
    have hxp : x.stopPending = true := by
      revert hp
      rw [StreamRecord.followed_eq]
      (repeat' split) <;> simp
    obtain ⟨hloses, hnf, hlead⟩ := hstop i x hx hxp
    obtain ⟨hnl, hnli⟩ := hnew hlead
    have hlost : new = .offline ∨ new = .faulted := by cases new <;> simp_all
    rw [StreamRecord.followed_eq, if_pos ⟨hlost, hloses⟩] at hp
    exact hp rfl
  · rw [hplan.2, hstate, decide_eq_true_iff]
  · rw [hplan.1, hstate]
    by_cases hl : new = .leading <;> simp [hl]
  · rw [hstate]
    by_contra hl
    have hrest : s.master.state ≠ .leading → s.engine.transaction = none ∧ s.ldrv = false := fun hs =>
      ⟨by_contra fun hne => hs (h.lead (by simpa [Option.isSome_iff_ne_none] using hne)),
        Bool.eq_false_iff.mpr fun hd => hs (h.drive hd)⟩
    rw [(State.changeMastership_released hl hrest cause).2.1] at hd
    cases hd

/-! ## The plan serves the link -/

/-- A grant of a leading part with nothing in flight, to a RUNNING stream in CYCLIC or DEMAND. -/
theorem Linked.granted {u v t : State} (h : Linked u) (hlead : u.master.state = .leading)
    (hfree : u.engine.transaction = none) (hst : u.plan.stage = .cyclic ∨ u.plan.stage = .demand) {i : Sid}
    {r : StreamRecord} (hi : u.stream i = some r) (hrun : r.state = .running) {n : Nat}
    (hgrant : u.grantWithRoom i r n = (v, .granted)) (ht : t.lawView = v.lawView) : Linked t := by
  refine Linked.of_view ?_ ht
  obtain ⟨hstreams, hplan, hmaster, -⟩ := State.grantWithRoom_frame hgrant
  have htx : v.engine.transaction = some (newTransaction i r n u.time.cycle) := by rw [State.grantWithRoom_engine hgrant]
  have hstream (j : Sid) : v.stream j = u.stream j := by rw [State.stream, State.stream, hstreams]
  have hopen : v.plan.stage ≠ .opening ∧ v.plan.stage ≠ .closed := by
    rw [hplan]
    rcases hst with hst | hst <;> simp [hst]
  refine ⟨fun _ => hmaster ▸ hlead, hplan ▸ hmaster ▸ h.record, hplan ▸ hmaster ▸ h.stage, fun _ => hmaster ▸ hlead,
    fun tx htx' => ?_, fun j hj => ?_, fun ho => absurd ho hopen.1, fun hc => absurd hc hopen.2⟩
  · obtain rfl : newTransaction i r n u.time.cycle = tx := by
      rw [htx] at htx'
      exact Option.some.inj htx'
    simp [hstream, newTransaction, hi, inService, hrun]
  · rw [hstream] at hj
    obtain ⟨x, hx, hp⟩ := (Option.any_eq_true _ _).mp hj
    rw [h.noStop hfree hx] at hp
    cases hp

/-- The plan moves on in its stages with nothing in flight. -/
theorem Linked.moved {s t : State} (h : Linked s) (hlead : s.master.state = .leading)
    (hfree : s.engine.transaction = none) {st : Stage} (hst : st ≠ .standby)
    (hview : t.lawView = { s.lawView with stage := st }) : Linked t := by
  have hstate : t.master.state = .leading := (congrArg LawView.state hview).trans hlead
  have hstage : t.plan.stage = st := congrArg LawView.stage hview
  have hrecord := (beaconOut_of_view (congrArg LawView.beacon hview)).1
  refine Linked.of_free ((congrArg LawView.transaction hview).trans hfree) (fun i r hi => ?_) ?_ ?_ fun _ => hstate
  · have hcore : (t.stream i).map StreamRecord.lawCore = (s.stream i).map StreamRecord.lawCore :=
      congrFun (congrArg LawView.streams hview) i
    obtain ⟨x, hx, hc⟩ := Option.map_eq_some_iff.mp (hcore.symm.trans (congrArg (Option.map _) hi))
    rw [show r.stopPending = x.stopPending from (congrArg (·.2.2) hc).symm]
    exact h.noStop hfree hx
  · rw [hstate, hrecord]
    simpa [hlead] using h.record
  · rw [hstate, hstage]
    simp [hst]

/-- Behind the beacon nothing is in flight, and a plan out of STANDBY leads (R57, R58). -/
theorem Linked.free {s : State} (h : Linked s) (hstage : s.plan.stage ≠ .standby)
    (hfree : s.beaconOut = true ∨ s.engine.transaction = none) :
    s.master.state = .leading ∧ s.engine.transaction = none := by
  refine ⟨by_contra fun hne => hstage (h.stage.mpr hne), hfree.elim (fun hb => ?_) id⟩
  obtain ⟨c, hc, hstart⟩ := (Option.any_eq_true _ _).mp hb
  obtain ⟨hopen, hrecord⟩ := State.opening_stage hc
  exact h.beacon hopen (by simpa [hrecord] using hstart)

theorem Linked.serve {s t : State} (h : Linked s) (hlead : s.master.state = .leading)
    (hfree : s.engine.transaction = none) (hserved : Served s t) : Linked t := by
  cases hserved with
  | moved hview hst => exact Linked.moved h hlead hfree hst.1 hview
  | @granted u v t st i r n hview hst hi hrun hgrant ht =>
    have hu : Linked u := Linked.moved h hlead hfree (by rcases hst with rfl | rfl <;> decide) hview
    have hstage : u.plan.stage = st := congrArg LawView.stage hview
    exact Linked.granted hu ((congrArg LawView.state hview).trans hlead) ((congrArg LawView.transaction hview).trans hfree)
      (hstage ▸ hst) hi hrun hgrant ht

/-! ## The other acts -/

theorem Linked.elapse {s : State} (h : Linked s) (n : Nat) : Linked (s.elapse n) := by
  have hengine : (s.elapse n).engine.transaction = s.engine.transaction ∧
      (s.elapse n).engine.drivenUntil = s.engine.drivenUntil := by
    simp only [State.elapse, LinkEngine.silent, LinkEngine.active]
    split <;> exact ⟨rfl, rfl⟩
  refine h.frame rfl rfl rfl hengine.1 rfl fun hd => h.drive (decide_eq_true ?_)
  have hlt : s.time.clock + n < (s.elapse n).engine.drivenUntil := of_decide_eq_true hd
  rw [hengine.2] at hlt
  omega

theorem Linked.setStream {s : State} (h : Linked s) {i : Sid} {r r' : StreamRecord} (hi : s.stream i = some r)
    (hd : r'.defn = r.defn) (hstop : r'.stopPending = true → r.stopPending = true ∨ s.inFlight i = true)
    (huse : r.inUse = true → r'.inUse = true ∨ s.inFlight i = false) : Linked (s.setStream i (some r')) := by
  refine h.restream i (fun j hj => State.setStream_stream_ne (Ne.symm hj) _ _) (fun tx ht hj => ?_) fun hp => ?_
  · obtain ⟨x, hx, hin, hdir⟩ := h.served ht
    obtain rfl : x = r := by simpa [hj, hi] using hx.symm
    have hflight : s.inFlight i = true := by simp [State.inFlight, ht, hj]
    have hin' : r'.inUse = true := (huse hin).resolve_right (by simp [hflight])
    simp [inService_eq, hin', hd, hdir]
  · rw [State.setStream_stream_self] at hp
    exact (hstop hp).elim (fun hp' => h.stop i (by simpa [hi] using hp')) id

theorem Linked.define {s : State} (h : Linked s) {i : Sid} (hi : s.stream i = none) (d : StreamDef) :
    Linked ((s.setStream i (some (newRecordOf d))).setChain i Chain.empty s.memory.free) := by
  refine h.restream i (fun j hj => State.setStream_stream_ne (Ne.symm hj) _ _) (fun tx ht hj => ?_) fun hp => ?_
  · obtain ⟨x, hx, -⟩ := h.served ht
    rw [hj, hi] at hx
    cases hx
  · rw [State.setChain_stream, State.setStream_stream_self] at hp
    cases hp

theorem Linked.release {s : State} (h : Linked s) {i : Sid} {r : StreamRecord} (hi : s.stream i = some r)
    (huse : r.inUse = false) : Linked ((s.freeChain i).setStream i none) := by
  refine h.restream i (fun j hj => State.setStream_stream_ne (Ne.symm hj) _ _) (fun tx ht hj => ?_) fun hp => ?_
  · obtain ⟨x, hx, hin, -⟩ := h.served ht
    obtain rfl : x = r := by simpa [hj, hi] using hx.symm
    rw [huse] at hin
    cases hin
  · rw [State.setStream_stream_self] at hp
    cases hp

theorem Linked.of_same {s t : State} (h : Linked s) (hstreams : t.streams = s.streams := by simp)
    (hplan : t.plan = s.plan := by simp) (hengine : t.engine = s.engine := by simp)
    (hmaster : t.master = s.master := by simp) (htime : t.time = s.time := by simp) : Linked t := by
  refine h.frame ?_ (by rw [hplan]) (by rw [hplan]) (by rw [hengine]) (by rw [hmaster]) ?_
  · simp only [State.lawView, State.stream, hstreams]
  · rw [State.ldrv, hengine, htime, hmaster]
    exact h.drive

/-- A new cycle record waits for its beacon. -/
theorem Linked.openRecord {s : State} (h : Linked s) (hlead : s.master.state = .leading) : Linked s.openRecord where
  lead _ := hlead
  record := iff_of_true rfl hlead
  stage := iff_of_false nofun fun hne => hne hlead
  drive _ := hlead
  service := h.service
  stop := h.stop
  beacon _ hb := by cases hb
  closed hc := by cases hc

/-- The beacon begins with nothing in flight. -/
theorem Linked.beaconBegun {s : State} (h : Linked s) (hlead : s.master.state = .leading)
    (hfree : s.engine.transaction = none) (n : Nat) : Linked (s.mapRecord fun c => { c with beaconStart := some n }) where
  lead _ := hlead
  record := by simpa [State.mapRecord] using h.record
  stage := h.stage
  drive _ := hlead
  service := h.service
  stop := h.stop
  beacon _ _ := hfree
  closed _ := hfree

/-- The transaction record goes on, for the same stream and in the same direction. -/
theorem Linked.setTransaction {s : State} (h : Linked s) {tx tx' : Transaction} (ht : s.engine.transaction = some tx)
    (hf : tx.Follows tx') : Linked (s.setTransaction tx') where
  lead _ := h.leads ht
  record := h.record
  stage := h.stage
  drive _ := h.leads ht
  service x hx := by
    cases hx
    obtain ⟨r, hr, hin, hdir⟩ := h.served ht
    have hr' : (s.setTransaction tx').stream tx'.stream = some r := by rw [hf.stream]; exact hr
    simp [hr', inService_eq, hin, hdir, hf.direction]
  stop i hi := by
    have hflight : s.inFlight i = true := h.stop i hi
    simpa [State.inFlight, ht, hf.stream, State.setTransaction] using hflight
  beacon ho hb := by
    have hnone := h.beacon ho hb
    rw [ht] at hnone
    cases hnone
  closed hc := by
    have hnone := h.closed hc
    rw [ht] at hnone
    cases hnone

/-! ## Every act -/

theorem Linked.afterReset (baud : Baud) (unit : UnitId) (epoch : Byte) (cause : HelloCause) (clock : Nat)
    (pending : List Instr) : Linked (State.afterReset baud unit epoch cause clock pending) := by
  refine Linked.of_free rfl (fun i r hi => ?_) ?_ ?_ fun hd => ?_
  · simp [State.afterReset, State.stream] at hi
  · simp [State.afterReset, Plan.reset, Mastership.reset]
  · simp [State.afterReset, Plan.reset, Mastership.reset]
  · simp [State.ldrv, State.afterReset, LinkEngine.reset] at hd

/-- Every act keeps the link law. -/
theorem Act.linked {s t : State} (hact : Act s t) (h : Linked s) : Linked t := by
  cases hact with
  | same hview => exact h.of_view hview
  | elapse n => exact h.elapse n
  | restream hi hd hstop huse => exact h.setStream hi hd hstop huse
  | clearHeld | flush => exact h.of_same
  | define hi d => exact h.define hi d
  | release hi huse => exact h.release hi huse
  | put sid payload => exact h.of_same
  | take sid => exact h.of_same
  | mastership hnew cause => exact h.changeMastership hnew cause
  | outcome ht o => exact h.applyOutcome ht o
  | openRecord hlead => exact h.openRecord hlead
  | beacon hlead hfree n => exact h.beaconBegun hlead hfree n
  | transaction ht hf => exact h.setTransaction ht hf
  | beginFrame hlead chars => exact h.frame rfl rfl rfl rfl rfl fun _ => hlead
  | releaseLine => exact h.releaseLine
  | serve hstage hfree hserved =>
    obtain ⟨hlead, hnone⟩ := h.free hstage hfree
    exact h.serve hlead hnone hserved
  | configured hoff q => exact h.frame rfl rfl rfl rfl rfl h.drive
  | reset => exact .afterReset _ _ _ _ _ _

/-- Settles O9: a step is made of acts, and every act keeps the link law and the idle law. -/
theorem linkLawKept : Obligations.LinkLawKept := fun _ _ hstep =>
  ⟨fun hlink => linked_iff.mp ((acts_of_step hstep).preserve (fun _ _ hact => hact.linked) (linked_iff.mpr hlink)),
    (acts_of_step hstep).preserve fun _ _ hact => hact.idleLaw⟩

end Sys2Proof.Machine
end

section
/-! SUPPORT. The memory law under a change of one chain, and what each operation of segment memory does to the blocks. -/

set_option Elab.async false

namespace Sys2Proof.Machine

open Sys2Proof.Safety

/-! ## The memory law, by names -/

/-- The memory law with a name for each of its clauses. -/
structure Stored (s : State) : Prop where
  count : allBlocks s = Config.blocks
  quota : ∀ i r, s.stream i = some r → (s.chain i).blocks + reservedFor i s ≤ r.defn.quota
  ok : ∀ i, chainOk (s.chain i) = true
  fits : ∀ i, chainFits (s.stream i) (s.chain i) = true
  reservation : reservationOk s = true

theorem stored_iff {s : State} : Stored s ↔ MemoryLaw s := by
  have hquota (i : Sid) : ((s.stream i).map fun r => decide ((s.chain i).blocks + reservedFor i s ≤ r.defn.quota)).getD true = true ↔
      ∀ r, s.stream i = some r → (s.chain i).blocks + reservedFor i s ≤ r.defn.quota := by
    cases s.stream i <;> simp
  exact ⟨fun ⟨h1, h2, h3, h4, h5⟩ => ⟨h1, fun i => (hquota i).mpr (h2 i), h3, h4, h5⟩,
    fun ⟨h1, h2, h3, h4, h5⟩ => ⟨h1, fun i => (hquota i).mp (h2 i), h3, h4, h5⟩⟩

theorem chainOk_iff {c : Chain} : chainOk c = true ↔
    c.headOffset < 64 ∧ (c.bytes = [] → c.headOffset = 0) ∧ ∀ r ∈ c.records, r.delivered < r.data.length := by
  simp only [chainOk, Bool.and_eq_true, decide_eq_true_eq, Bool.or_eq_true, Bool.not_eq_true', List.isEmpty_eq_false_iff,
    beq_iff_eq, List.all_eq_true, and_assoc, ne_eq, ← imp_iff_not_or]

/-- What a transaction claims of the free list (R40). -/
def Transaction.claim (tx : Transaction) : Option Reservation :=
  if tx.direction = .inbound then some ⟨tx.stream, blocksFor tx.size⟩ else none

/-- The reservation is what the transaction in flight claims, and the transaction holds no more than it claims. -/
theorem reservationOk_iff {s : State} : reservationOk s = true ↔
    s.memory.reservation = s.engine.transaction.bind Transaction.claim ∧
      ∀ tx, s.engine.transaction = some tx → tx.Within := by
  unfold reservationOk
  cases s.engine.transaction with
  | none => simp
  | some tx =>
    cases hd : tx.direction with
    | outbound => simp [Transaction.claim, Transaction.Within, hd]
    | inbound =>
      simp only [Transaction.claim, Transaction.Within, hd, Option.bind_some, if_true, Option.some.injEq, forall_eq',
        true_imp_iff, Bool.and_eq_true, beq_iff_eq, decide_eq_true_eq, Bool.or_eq_true, bne_iff_ne, and_assoc,
        ← imp_iff_not_or]
      cases tx.received <;> simp

section
variable {s : State} (h : Stored s)
include h

theorem Stored.claimed {tx : Transaction} (ht : s.engine.transaction = some tx) :
    s.memory.reservation = tx.claim ∧ tx.Within := by
  obtain ⟨hres, hwithin⟩ := reservationOk_iff.mp h.reservation
  rw [ht] at hres
  exact ⟨hres, hwithin tx ht⟩

theorem Stored.unreserved (ht : s.engine.transaction = none) : s.memory.reservation = none := by
  rw [(reservationOk_iff.mp h.reservation).1, ht]
  rfl

/-- Only the stream in flight holds reserved blocks. -/
theorem Stored.reservedFor_eq_zero {i : Sid} (hi : s.inFlight i = false) : reservedFor i s = 0 := by
  unfold reservedFor
  cases ht : s.engine.transaction with
  | none => rw [h.unreserved ht]
  | some tx =>
    rw [(h.claimed ht).1, Transaction.claim]
    by_cases hd : tx.direction = .inbound
    · simp only [if_pos hd]
      exact if_neg fun hj => by simp [State.inFlight, ht, hj] at hi
    · simp only [if_neg hd]

/-- An OUTBOUND stream holds no reserved blocks. -/
theorem Stored.reservedFor_outbound (hl : Linked s) {i : Sid} {r : StreamRecord} (hi : s.stream i = some r)
    (hd : r.defn.direction = .outbound) : reservedFor i s = 0 := by
  cases hf : s.inFlight i with
  | false => exact h.reservedFor_eq_zero hf
  | true =>
    obtain ⟨tx, ht, hj⟩ := (Option.any_eq_true _ _).mp hf
    obtain rfl : tx.stream = i := by simpa using hj
    obtain ⟨x, hx, -, hdir⟩ := hl.served ht
    obtain rfl : r = x := Option.some.inj (hi.symm.trans hx)
    unfold reservedFor
    rw [(h.claimed ht).1, Transaction.claim, if_neg (by rw [← hdir, hd]; decide)]

theorem Stored.records_nil {i : Sid} {r : StreamRecord} (hi : s.stream i = some r) (hd : r.defn.direction = .outbound) :
    (s.chain i).records = [] := by
  simpa [chainFits, hi, hd] using h.fits i

theorem Stored.bytes_nil {i : Sid} {r : StreamRecord} (hi : s.stream i = some r) (hd : r.defn.direction = .inbound) :
    (s.chain i).bytes = [] := by
  simpa [chainFits, hi, hd] using h.fits i

theorem Stored.chain_free {i : Sid} (hi : s.stream i = none) : s.chain i = Chain.empty := by
  simpa [chainFits, hi] using h.fits i

end

/-! ## The rules of the memory law -/

theorem allBlocks_eq (s : State) :
    allBlocks s = s.memory.free + reservedBlocks s + (allSids.map fun i => (s.chain i).blocks).sum := by
  have hlist : s.memory.chains.toList = allSids.map fun i => s.chain i := by
    rw [allSids_eq_finRange]
    refine List.ext_getElem (by simp) fun k _ _ => ?_
    simp [State.chain]
  rw [allBlocks, hlist, List.map_map]
  rfl

theorem chainFits_congr {a b : Option StreamRecord} (h : a.map (·.defn) = b.map (·.defn)) (c : Chain) :
    chainFits a c = chainFits b c := by
  cases a <;> cases b <;> simp_all [chainFits]

theorem quota_congr {a b : Option StreamRecord} (h : a.map (·.defn) = b.map (·.defn)) {n : Nat}
    (hb : ∀ r, b = some r → n ≤ r.defn.quota) : ∀ r, a = some r → n ≤ r.defn.quota := by
  rintro r rfl
  obtain ⟨x, hx, hd⟩ := Option.map_eq_some_iff.mp h.symm
  have hdefn : x.defn = r.defn := hd
  exact hdefn ▸ hb x hx

/-- The one rule of the memory law: the blocks move between the free list, the reservation and one chain. -/
theorem Stored.change {s t : State} (h : Stored s) (i : Sid) (hchain : ∀ j, j ≠ i → t.chain j = s.chain j)
    (hdefn : ∀ j, j ≠ i → (t.stream j).map (·.defn) = (s.stream j).map (·.defn))
    (hother : ∀ j, j ≠ i → reservedFor j t ≤ reservedFor j s)
    (hcount : t.memory.free + reservedBlocks t + (t.chain i).blocks =
      s.memory.free + reservedBlocks s + (s.chain i).blocks)
    (hquota : ∀ r, t.stream i = some r → (t.chain i).blocks + reservedFor i t ≤ r.defn.quota)
    (hok : chainOk (t.chain i) = true) (hfits : chainFits (t.stream i) (t.chain i) = true)
    (hres : reservationOk t = true) : Stored t where
  count := by
    have hs := h.count
    have hc := sum_allSids_change (f := fun j => (s.chain j).blocks) (g := fun j => (t.chain j).blocks) (i := i)
      fun j hj => by rw [hchain j hj]
    rw [allBlocks_eq] at hs ⊢
    omega
  quota j := by
    by_cases hj : j = i
    · subst hj; exact hquota
    · refine quota_congr (hdefn j hj) fun r hr => ?_
      have hs := h.quota j r hr
      have ho := hother j hj
      rw [hchain j hj]
      omega
  ok j := by
    by_cases hj : j = i
    · subst hj; exact hok
    · rw [hchain j hj]; exact h.ok j
  fits j := by
    by_cases hj : j = i
    · subst hj; exact hfits
    · rw [hchain j hj, chainFits_congr (hdefn j hj)]; exact h.fits j
  reservation := hres

theorem reservedFor_of_memory {s t : State} (hm : t.memory.reservation = s.memory.reservation) (i : Sid) :
    reservedFor i t = reservedFor i s := by
  rw [reservedFor, reservedFor, hm]

/-- Operations that leave segment memory, the definitions and the transaction. -/
theorem Stored.frame {s t : State} (h : Stored s) (hmemory : t.memory = s.memory)
    (hdefn : ∀ i, (t.stream i).map (·.defn) = (s.stream i).map (·.defn))
    (hres : reservationOk t = true) : Stored t := by
  have hchain (i : Sid) : t.chain i = s.chain i := by rw [State.chain, State.chain, hmemory]
  have hfor (i : Sid) : reservedFor i t = reservedFor i s := reservedFor_of_memory (by rw [hmemory]) i
  refine ⟨?_, fun i => ?_, fun i => ?_, fun i => ?_, hres⟩
  · rw [allBlocks, reservedBlocks, hmemory]; exact h.count
  · rw [hchain, hfor]; exact quota_congr (hdefn i) (h.quota i)
  · rw [hchain]; exact h.ok i
  · rw [hchain, chainFits_congr (hdefn i)]; exact h.fits i

theorem reservationOk_of_same {s t : State} (h : Stored s) (hmemory : t.memory.reservation = s.memory.reservation)
    (htx : t.engine.transaction = s.engine.transaction) : reservationOk t = true := by
  have hs := reservationOk_iff.mp h.reservation
  rw [reservationOk_iff, hmemory, htx]
  exact hs

theorem Stored.of_same {s t : State} (h : Stored s) (hstreams : t.streams = s.streams := by simp)
    (hmemory : t.memory = s.memory := by simp) (htx : t.engine.transaction = s.engine.transaction := by simp) : Stored t :=
  h.frame hmemory (fun i => by rw [State.stream, State.stream, hstreams]) (reservationOk_of_same h (by rw [hmemory]) htx)

theorem Stored.of_core {s t : State} (h : Stored s) (hmemory : t.memory = s.memory)
    (hcore : t.lawView.streams = s.lawView.streams) (htx : t.engine.transaction = s.engine.transaction) : Stored t := by
  refine h.frame hmemory (fun i => ?_) (reservationOk_of_same h (by rw [hmemory]) htx)
  have hi : (t.stream i).map StreamRecord.lawCore = (s.stream i).map StreamRecord.lawCore := congrFun hcore i
  have hd := congrArg (Option.map Prod.fst) hi
  rw [Option.map_map, Option.map_map] at hd
  exact hd

theorem Stored.of_view {s t : State} (h : Stored s) (hview : t.lawView = s.lawView) : Stored t :=
  h.of_core (congrArg LawView.memory hview) (congrArg LawView.streams hview) (congrArg LawView.transaction hview)

/-- One chain and the free list change together; the reservation, the transaction and the other streams stay. -/
theorem Stored.setChain {s t : State} (h : Stored s) {i : Sid} {c : Chain} {free : Nat}
    (hmemory : t.memory = (s.setChain i c free).memory) (htx : t.engine.transaction = s.engine.transaction)
    (hdefn : ∀ j, j ≠ i → t.stream j = s.stream j)
    (hcount : free + c.blocks = s.memory.free + (s.chain i).blocks)
    (hquota : ∀ r, t.stream i = some r → c.blocks + reservedFor i s ≤ r.defn.quota)
    (hok : chainOk c = true) (hfits : chainFits (t.stream i) c = true) : Stored t := by
  have hchain (j : Sid) : t.chain j = (s.setChain i c free).chain j := by rw [State.chain, State.chain, hmemory]
  have hself : t.chain i = c := (hchain i).trans (State.setChain_chain_self _ _ _ _)
  have hres : t.memory.reservation = s.memory.reservation := by rw [hmemory]; rfl
  have hfree : t.memory.free = free := by rw [hmemory]; rfl
  have hblocks : reservedBlocks t = reservedBlocks s := by rw [reservedBlocks, reservedBlocks, hres]
  refine h.change i (fun j hj => ?_) (fun j hj => by rw [hdefn j hj])
    (fun j _ => (reservedFor_of_memory hres j).le) ?_ (fun r hr => ?_) (hself ▸ hok) (hself ▸ hfits)
    (reservationOk_of_same h hres htx)
  · rw [hchain, State.setChain_chain_ne (Ne.symm hj)]
  · rw [hself, hfree, hblocks]
    omega
  · rw [hself, reservedFor_of_memory hres]
    exact hquota r hr

/-! ## Chains (R35 to R37, R39) -/

theorem Chain.blocks_empty : Chain.empty.blocks = 0 := rfl

/-- The bytes that leave the head of a chain free the blocks they leave (R37). -/
theorem Chain.removeHead_blocks (n : Nat) (c : Chain) : (c.removeHead n).blocks + c.freedByRemoving n = c.blocks := by
  unfold Chain.removeHead Chain.freedByRemoving Chain.blocks blocksFor
  by_cases hall : c.bytes.length - n = 0
  · simp only [if_pos hall, List.length_nil]
    omega
  · simp only [if_neg hall, List.length_drop]
    omega

theorem Chain.removeHead_ok {c : Chain} (h : chainOk c = true) (n : Nat) : chainOk (c.removeHead n) = true := by
  obtain ⟨hoff, -, hrecords⟩ := chainOk_iff.mp h
  rw [chainOk_iff]
  unfold Chain.removeHead
  by_cases hall : c.bytes.length - n = 0
  · rw [if_pos hall]
    exact ⟨Nat.zero_lt_succ _, fun _ => rfl, hrecords⟩
  · rw [if_neg hall]
    refine ⟨Nat.mod_lt _ (by decide), fun hnil => absurd ?_ hall, hrecords⟩
    simpa using congrArg List.length hnil

theorem Chain.removeHead_records (n : Nat) (c : Chain) : (c.removeHead n).records = c.records := by
  unfold Chain.removeHead
  split <;> rfl

/-- A chain that its rules keep counts a PUT from its head offset (R36). -/
theorem Chain.putOffset_of_ok {c : Chain} (h : chainOk c = true) : c.putOffset = c.headOffset := by
  rw [Chain.putOffset]
  split
  next he => exact ((chainOk_iff.mp h).2.1 (by simpa using he)).symm
  next => rfl

/-- Delivery keeps each block in one place, and leaves no delivered record behind (R49, R50). -/
theorem takePieces_blocks (space : Nat) (rs : List SegmentRecord) (h : ∀ r ∈ rs, r.delivered < r.data.length) :
    ((takePieces space rs).2.1.map SegmentRecord.blocks).sum + (takePieces space rs).2.2 =
        (rs.map SegmentRecord.blocks).sum ∧
      ∀ r ∈ (takePieces space rs).2.1, r.delivered < r.data.length := by
  induction rs generalizing space with
  | nil => exact ⟨rfl, nofun⟩
  | cons x rest ih =>
    have hx := h x List.mem_cons_self
    have hrest : ∀ r ∈ rest, r.delivered < r.data.length := fun r hr => h r (List.mem_cons_of_mem _ hr)
    by_cases hspace : space < 5
    · rw [takePieces_noSpace hspace]
      exact ⟨rfl, h⟩
    · obtain ⟨u, hu⟩ := Nat.exists_eq_add_of_lt hx
      by_cases hfit : u + 1 + 4 ≤ space
      · obtain ⟨hsum, hleft⟩ := ih (space - 4 - (u + 1)) hrest
        rw [takePieces_whole (by omega) (u := u + 1) (by omega) hfit]
        refine ⟨?_, hleft⟩
        simp only [List.map_cons, List.sum_cons]
        omega
      · rw [takePieces_part (by omega) (u := u + 1) (by omega) (by omega)]
        refine ⟨?_, fun r hr => ?_⟩
        · simp only [List.map_cons, List.sum_cons, SegmentRecord.blocks, blocksFor]
          omega
        · rcases List.mem_cons.mp hr with rfl | hr
          · dsimp only
            omega
          · exact hrest r hr

end Sys2Proof.Machine
end

section
/-! SUPPORT. Every act keeps the memory law: O10. -/

set_option Elab.async false

namespace Sys2Proof.Machine

open Sys2Proof.Safety

/-! ## The requests of segment memory and of the stream table -/

theorem chainFits_empty (r : Option StreamRecord) : chainFits r Chain.empty = true := by
  cases r with
  | none => rfl
  | some r => cases hd : r.defn.direction <;> simp [chainFits, hd, Chain.empty]

/-- A stream request changes nothing, or goes to the record of its stream. -/
theorem withStream_cases {P : State → Prop} {s : State} (h : P s) (sid : Byte) {k : Sid → StreamRecord → State → Executed}
    (hk : ∀ i r, s.stream i = some r → P (k i r s).1) : P (withStream sid k s).1 := by
  unfold withStream
  split
  · exact h
  · split
    · exact h
    next r hr => exact hk _ r hr

section
variable {s : State} (h : Stored s)
include h

/-- The held size is no block. -/
theorem Stored.setHeld {t : State} {i : Sid} {r : StreamRecord} (hi : s.stream i = some r) (x : Option Nat)
    (hmemory : t.memory = (s.setChain i { s.chain i with heldSize := x } s.memory.free).memory)
    (hstreams : t.streams = s.streams) (htx : t.engine.transaction = s.engine.transaction) : Stored t := by
  have hstream (j : Sid) : t.stream j = s.stream j := by rw [State.stream, State.stream, hstreams]
  refine h.setChain hmemory htx (fun j _ => hstream j) rfl (fun r' hr' => ?_) ?_ ?_
  · rw [hstream] at hr'
    exact h.quota i r' hr'
  · exact chainOk_iff.mpr (chainOk_iff.mp (h.ok i))
  · have hfits := h.fits i
    rw [hstream, hi]
    rw [hi] at hfits
    exact hfits

theorem Stored.define (hl : Linked s) {i : Sid} (hi : s.stream i = none) (d : StreamDef) :
    Stored ((s.setStream i (some (newRecordOf d))).setChain i Chain.empty s.memory.free) := by
  have hidle : reservedFor i s = 0 := h.reservedFor_eq_zero (hl.notInFlight (by simp [hi]))
  refine h.setChain (i := i) (c := Chain.empty) rfl rfl (fun j hj => State.setStream_stream_ne (Ne.symm hj) _ _) ?_
    (fun r _ => ?_) rfl (chainFits_empty _)
  · rw [h.chain_free hi]
  · rw [hidle, Chain.blocks_empty]
    exact Nat.zero_le _

/-- A whole chain returns to the free list. -/
theorem Stored.emptyChain {t : State} {i : Sid}
    (hmemory : t.memory = (s.freeChain i).memory) (htx : t.engine.transaction = s.engine.transaction)
    (hdefn : ∀ j, j ≠ i → t.stream j = s.stream j) (hi : ∀ r, t.stream i = some r → s.stream i = some r) : Stored t := by
  refine h.setChain hmemory htx hdefn ?_ (fun r hr => ?_) rfl (chainFits_empty _)
  · rw [Chain.blocks_empty]
    rfl
  · have hq := h.quota i r (hi r hr)
    rw [Chain.blocks_empty]
    omega

/-- PUT takes the added blocks from the free list, within the quota (R36). -/
theorem Stored.put (hl : Linked s) {i : Sid} {r : StreamRecord} (hi : s.stream i = some r)
    (hd : r.defn.direction = .outbound) (payload : List Byte)
    (hquota : (s.chain i).blocksAfterPut payload.length ≤ r.defn.quota)
    (hpool : (s.chain i).blocksAfterPut payload.length - (s.chain i).outBlocks ≤ s.memory.free) :
    Stored (s.setChain i { s.chain i with bytes := (s.chain i).bytes ++ payload, headOffset := (s.chain i).putOffset }
      (s.memory.free - ((s.chain i).blocksAfterPut payload.length - (s.chain i).outBlocks))) := by
  have hrecords := h.records_nil hi hd
  have hoff := Chain.putOffset_of_ok (h.ok i)
  obtain ⟨hlt, hzero, -⟩ := chainOk_iff.mp (h.ok i)
  have hbefore : (s.chain i).outBlocks = (s.chain i).blocks := by
    simp [Chain.outBlocks, Chain.blocks, hoff, hrecords]
  have hafter : Chain.blocks { s.chain i with
      bytes := (s.chain i).bytes ++ payload, headOffset := (s.chain i).putOffset } =
      (s.chain i).blocksAfterPut payload.length := by
    simp [Chain.blocksAfterPut, Chain.blocks, hrecords, Nat.add_assoc]
  have hmono : (s.chain i).outBlocks ≤ (s.chain i).blocksAfterPut payload.length := by
    simp only [Chain.outBlocks, Chain.blocksAfterPut, blocksFor]
    omega
  refine h.setChain rfl rfl (fun _ _ => rfl) ?_ (fun r' hr' => ?_) ?_ ?_
  · rw [hafter, ← hbefore]
    omega
  · obtain rfl : r = r' := Option.some.inj (hi.symm.trans hr')
    rw [hafter, h.reservedFor_outbound hl hi hd]
    exact hquota
  · refine chainOk_iff.mpr ⟨hoff ▸ hlt, fun hnil => ?_, by simp [hrecords]⟩
    exact hoff.trans (hzero (List.append_eq_nil_iff.mp hnil).1)
  · simp [State.setChain_stream, hi, chainFits, hd, hrecords]

theorem Stored.putRequest (hl : Linked s) (sid : Byte) (payload : List Byte) : Stored (putRequest sid payload s).1 := by
  refine withStream_cases h sid fun i r hi => ?_
  dsimp only
  split
  next => exact h
  next hd =>
    split
    next => exact h
    next =>
      split
      next => exact h
      next hquota =>
        split
        next => exact h
        next hpool => exact h.put hl hi (not_not.mp hd) payload (Nat.le_of_not_lt hquota) (Nat.le_of_not_lt hpool)

/-- TAKE returns the blocks of what it delivers (R49, R50). -/
theorem Stored.take {i : Sid} {r : StreamRecord} (hi : s.stream i = some r) (hd : r.defn.direction = .inbound)
    {space freed : Nat} {left : List SegmentRecord} {pieces : List Byte}
    (htake : takePieces space (s.chain i).records = (pieces, left, freed)) :
    Stored (s.setChain i { s.chain i with records := left } (s.memory.free + freed)) := by
  obtain ⟨hlt, hzero, hrecords⟩ := chainOk_iff.mp (h.ok i)
  obtain ⟨hsum, hleft⟩ := takePieces_blocks space (s.chain i).records hrecords
  rw [htake] at hsum hleft
  dsimp only at hsum hleft
  have hblocks : Chain.blocks { s.chain i with records := left } =
      blocksFor ((s.chain i).headOffset + (s.chain i).bytes.length) + (left.map SegmentRecord.blocks).sum := rfl
  have hbefore : (s.chain i).blocks = blocksFor ((s.chain i).headOffset + (s.chain i).bytes.length) +
      ((s.chain i).records.map SegmentRecord.blocks).sum := rfl
  refine h.setChain rfl rfl (fun _ _ => rfl) ?_ (fun r' hr' => ?_) (chainOk_iff.mpr ⟨hlt, hzero, hleft⟩) ?_
  · rw [hblocks, hbefore]
    omega
  · have hq := h.quota i r' hr'
    rw [hblocks]
    omega
  · simp [State.setChain_stream, hi, chainFits, hd, h.bytes_nil hi hd]

theorem Stored.takeRequest (sid : Byte) : Stored (takeRequest sid s).1 := by
  refine withStream_cases h sid fun i r hi => ?_
  dsimp only
  split
  next => exact h
  next hd => exact h.take hi (not_not.mp hd) rfl

end

end Sys2Proof.Machine
end

section
/-! SUPPORT. The memory law at the grants, at the end of a transaction and at a change of mastership: O10. -/

set_option Elab.async false

namespace Sys2Proof.Machine

open Sys2Proof.Safety

/-! ## Grants (R40, R46) -/

section
variable {u v : State} (h : Stored u) (hfree : u.engine.transaction = none) {i : Sid} {r : StreamRecord}
  (hi : u.stream i = some r) (n : Nat)
include h hfree hi

/-- An OUTBOUND grant holds a size, and claims nothing. -/
theorem Stored.grant_outbound (hd : r.defn.direction = .outbound) : Stored (u.grant i r n) := by
  have hheld : Stored (u.setChain i { u.chain i with heldSize := some n } u.memory.free) := h.setHeld hi _ rfl rfl rfl
  refine hheld.frame ?_ (fun j => ?_) ?_
  · rw [State.grant_eq, if_pos hd]
    rfl
  · rw [State.grant_eq]
    rfl
  · rw [reservationOk_iff, State.grant_eq]
    refine ⟨(h.unreserved hfree).trans ?_, fun tx htx hin => ?_⟩
    · exact (if_neg fun hin => absurd (hd.symm.trans hin) (by decide)).symm
    · obtain rfl : newTransaction i r n u.time.cycle = tx := Option.some.inj htx
      exact absurd (hd.symm.trans hin) (by decide)

/-- An INBOUND grant claims the blocks of its expected size, which the pool and the quota hold. -/
theorem Stored.grant_inbound (hd : r.defn.direction = .inbound)
    (hquota : (u.chain i).blocks + (n + 63) / 64 ≤ r.defn.quota) (hpool : (n + 63) / 64 ≤ u.memory.free) :
    Stored ((u.reserve i n).grant i r n) := by
  have hnone : u.memory.reservation = none := h.unreserved hfree
  have hmemory : ((u.reserve i n).grant i r n).memory =
      { u.memory with free := u.memory.free - (n + 63) / 64, reservation := some ⟨i, (n + 63) / 64⟩ } := by
    rw [State.grant_eq, if_neg (by rw [hd]; decide)]
    rfl
  have hstream (j : Sid) : ((u.reserve i n).grant i r n).stream j = u.stream j := by
    rw [State.grant_eq]
    rfl
  have hchain (j : Sid) : ((u.reserve i n).grant i r n).chain j = u.chain j := by
    rw [State.chain, hmemory]
    rfl
  refine h.change i (fun j _ => hchain j) (fun j _ => by rw [hstream]) (fun j hj => ?_) ?_ (fun x hx => ?_) ?_ ?_ ?_
  · simp [reservedFor, hmemory, Ne.symm hj]
  · simp only [hchain, reservedBlocks, hmemory, hnone, Option.map_some, Option.map_none, Option.getD_some, Option.getD_none]
    omega
  · obtain rfl : r = x := Option.some.inj (hi.symm.trans ((hstream i).symm.trans hx))
    simpa [hchain, reservedFor, hmemory] using hquota
  · rw [hchain]
    exact h.ok i
  · rw [hchain, hstream]
    exact h.fits i
  · rw [reservationOk_iff, hmemory, State.grant_eq]
    refine ⟨(if_pos hd).symm, fun tx htx _ => ?_⟩
    obtain rfl : newTransaction i r n u.time.cycle = tx := Option.some.inj htx
    exact ⟨Nat.zero_le _, nofun⟩

theorem Stored.grantWithRoom (hgrant : u.grantWithRoom i r n = (v, .granted)) : Stored v := by
  unfold State.grantWithRoom at hgrant
  split at hgrant
  next hd =>
    cases hgrant
    exact h.grant_outbound hfree hi n hd
  next hd =>
    split at hgrant
    next hroom =>
      cases hgrant
      have hin : r.defn.direction = .inbound := by
        cases hr : r.defn.direction <;> simp_all
      exact h.grant_inbound hfree hi n hin hroom.1 hroom.2
    next => cases hgrant

end

theorem Stored.serve {s t : State} (h : Stored s) (hfree : s.engine.transaction = none) (hserved : Served s t) : Stored t := by
  have moved {u : State} {st : Stage} (hview : u.lawView = { s.lawView with stage := st }) : Stored u :=
    h.of_core (congrArg LawView.memory hview) (by rw [hview]) (congrArg LawView.transaction hview)
  cases hserved with
  | moved hview => exact moved hview
  | granted hview _ hi _ hgrant ht =>
    have hnone := (congrArg LawView.transaction hview).trans hfree
    exact ((moved hview).grantWithRoom hnone hi _ hgrant).of_view ht

/-! ## The end of a transaction (R37, R41, R42) -/

/-- Nothing is in flight any more: the reserved blocks are free, or in one chain. -/
theorem Stored.ended {s t : State} (h : Stored s) {i : Sid} {c : Chain} {free : Nat}
    (hmemory : t.memory = { s.memory with chains := s.memory.chains.set i.val c, free := free, reservation := none })
    (htx : t.engine.transaction = none) (hdefn : ∀ j, (t.stream j).map (·.defn) = (s.stream j).map (·.defn))
    (hcount : free + c.blocks = s.memory.free + reservedBlocks s + (s.chain i).blocks)
    (hgrown : c.blocks ≤ (s.chain i).blocks + reservedFor i s) (hok : chainOk c = true)
    (hfits : chainFits (s.stream i) c = true) : Stored t := by
  have hres : t.memory.reservation = none := by rw [hmemory]
  have hfor (j : Sid) : reservedFor j t = 0 := by rw [reservedFor, hres]
  have hself : t.chain i = c := by simp [State.chain, hmemory]
  refine h.change i (fun j hj => ?_) (fun j _ => hdefn j) (fun j _ => (hfor j).trans_le (Nat.zero_le _)) ?_ ?_
    (hself ▸ hok) ?_ ?_
  · have hval : i.val ≠ j.val := fun e => hj (Fin.ext e.symm)
    simp [State.chain, hmemory, hval]
  · rw [hself, reservedBlocks, hres, hmemory]
    exact hcount
  · rw [hself, hfor]
    exact quota_congr (hdefn i) fun r hr => hgrown.trans (h.quota i r hr)
  · rw [hself, chainFits_congr (hdefn i)]
    exact hfits
  · exact reservationOk_iff.mpr ⟨by rw [hres, htx]; rfl, fun tx ht => by rw [htx] at ht; cases ht⟩

/-- Nothing is in flight any more, and the reservation has returned whole. -/
theorem Stored.returned {s t : State} (h : Stored s)
    (hmemory : t.memory = { s.memory with free := s.memory.free + reservedBlocks s, reservation := none })
    (htx : t.engine.transaction = none) (hdefn : ∀ j, (t.stream j).map (·.defn) = (s.stream j).map (·.defn)) :
    Stored t := by
  refine h.ended (i := 0) (c := s.chain 0) ?_ htx hdefn rfl (Nat.le_add_right _ _) (h.ok 0) (h.fits 0)
  have hsame : s.memory.chains.set (0 : Sid).val (s.chain 0) = s.memory.chains := Vector.set_getElem_self _
  rw [hmemory, hsame]

theorem Stored.dropTransaction {s : State} (h : Stored s) : Stored s.dropTransaction := by
  rw [State.dropTransaction_eq]
  exact h.returned rfl rfl fun _ => rfl

section
variable (tx : Transaction) (o : Outcome) (s : State)

theorem State.conclude_defn (i : Sid) (r : StreamRecord) (marked : Bool) (e : EndCheck) :
    ((s.conclude i r marked e).stream i).map (·.defn) = some r.defn := by
  have gone (x : StreamRecord) : ((s.goOn i x marked).stream i).map (·.defn) = some x.defn := by
    rw [State.goOn_stream, Option.map_some, (x.goneOn_loadKept marked).1]
  have finished (x : StreamRecord) (c : Condition) : ((s.finish i x c).stream i).map (·.defn) = some x.defn := by
    rw [State.finish_stream, Option.map_some]
  cases e with
  | closed | complete | short => exact finished _ _
  | closeEmpty | stays => exact gone _

theorem State.applyToStream_defn :
    ((s.applyToStream tx o).stream tx.stream).map (·.defn) = (s.stream tx.stream).map (·.defn) := by
  cases hr : s.stream tx.stream with
  | none => simp [State.applyToStream, hr]
  | some r =>
    by_cases ho : o = .accepted
    · subst ho
      simp only [State.applyToStream, hr]
      rw [State.applyAccepted_eq, State.conclude_defn]
      rfl
    · rw [State.applyToStream_stream hr ho, Option.map_some, StreamRecord.afterOutcome_defn, Option.map_some]

theorem State.applyOutcome_defn (j : Sid) :
    ((s.applyOutcome tx o).stream j).map (·.defn) = (s.stream j).map (·.defn) := by
  by_cases hj : j = tx.stream
  · subst hj
    rw [State.applyOutcome_eq, State.resolveStop_stream, Option.map_map, State.outcomeApplied]
    simp only [Function.comp_def, StreamRecord.stopResolved_defn]
    rw [State.stream, State.joinWaited_streams]
    refine (State.applyToStream_defn tx o _).trans ?_
    simp [State.stream]
  · rw [State.applyOutcome_stream_ne hj]

theorem State.applyOutcome_memory : (s.applyOutcome tx o).memory =
    ((s.setEngine { s.engine with transaction := none }).applyToMemory tx o).memory := by
  rw [State.applyOutcome_eq, State.resolveStop_memory, State.outcomeApplied_memory]

end

/-- An outcome but the accepted one moves no segment (R42). -/
theorem Stored.refused {s : State} (h : Stored s) {tx : Transaction} (ht : s.engine.transaction = some tx) {o : Outcome}
    (ho : o ≠ .accepted) : Stored (s.applyOutcome tx o) := by
  have hmemory := (State.applyOutcome_memory tx o s).trans (State.applyToMemory_memory ho)
  refine h.returned ?_ (by rw [State.applyOutcome_engine]) (State.applyOutcome_defn tx o s)
  rw [hmemory]
  split
  next hd =>
    have hnone : s.memory.reservation = none := by rw [(h.claimed ht).1, Transaction.claim, if_neg (by rw [hd]; decide)]
    rw [reservedBlocks, hnone, Option.map_none, Option.getD_none, Nat.add_zero, ← hnone]
    rfl
  next => rfl

section
variable {s : State} (h : Stored s) (hl : Linked s) {tx : Transaction} (ht : s.engine.transaction = some tx)
include h hl ht

/-- An accepted OUTBOUND segment leaves the head of its chain (R37). -/
theorem Stored.accepted_outbound (hd : tx.direction = .outbound) : Stored (s.applyOutcome tx .accepted) := by
  obtain ⟨r, hr, -, hdir⟩ := hl.served ht
  have hnone : s.memory.reservation = none := by rw [(h.claimed ht).1, Transaction.claim, if_neg (by rw [hd]; decide)]
  have hblocks := (s.chain tx.stream).removeHead_blocks tx.size
  have hremoved : Chain.blocks { (s.chain tx.stream).removeHead tx.size with heldSize := none } =
      ((s.chain tx.stream).removeHead tx.size).blocks := rfl
  refine h.ended (i := tx.stream) (c := { (s.chain tx.stream).removeHead tx.size with heldSize := none })
    (free := s.memory.free + (s.chain tx.stream).freedByRemoving tx.size) ?_ (by rw [State.applyOutcome_engine])
    (State.applyOutcome_defn tx _ s) ?_ ?_ ?_ ?_
  · rw [State.applyOutcome_memory]
    simp only [State.applyToMemory, hd, ← hnone]
    rfl
  · rw [hremoved, reservedBlocks, hnone, Option.map_none, Option.getD_none]
    omega
  · rw [hremoved]
    omega
  · exact chainOk_iff.mpr (chainOk_iff.mp (Chain.removeHead_ok (h.ok tx.stream) tx.size))
  · simp [chainFits, hr, hdir, hd, Chain.removeHead_records, h.records_nil hr (hdir.trans hd)]

/-- An accepted INBOUND segment stands in the first of the reserved blocks, and the rest return (R41). -/
theorem Stored.accepted_inbound (hd : tx.direction = .inbound) : Stored (s.applyOutcome tx .accepted) := by
  obtain ⟨r, hr, -, hdir⟩ := hl.served ht
  obtain ⟨hclaim, hwithin⟩ := h.claimed ht
  have hlen := (hwithin hd).1
  rw [Transaction.claim, if_pos hd] at hclaim
  have hmemory : (s.applyOutcome tx .accepted).memory = _ := (State.applyOutcome_memory tx _ s).trans (by
    simp only [State.applyToMemory, hd]
    exact State.segmentStored_memory (s := s.setEngine { s.engine with transaction := none }) hclaim)
  have hengine : (s.applyOutcome tx .accepted).engine.transaction = none := by rw [State.applyOutcome_engine]
  have hreserved : reservedBlocks s = blocksFor tx.size := by rw [reservedBlocks, hclaim]; rfl
  have hfor : reservedFor tx.stream s = blocksFor tx.size := by simp [reservedFor, hclaim]
  by_cases hnil : tx.payload.length = 0
  · refine h.returned ?_ hengine (State.applyOutcome_defn tx _ s)
    rw [hmemory, if_pos hnil, hreserved, hnil]
    rfl
  · replace hmemory : (s.applyOutcome tx .accepted).memory = { s.memory with
        chains := s.memory.chains.set tx.stream.val { s.chain tx.stream with
          records := (s.chain tx.stream).records ++ [⟨tx.payload, tx.headerCycle, 0⟩] }
        free := s.memory.free + (blocksFor tx.size - blocksFor tx.payload.length), reservation := none } := by
      rw [hmemory, if_neg hnil]
      rfl
    have hblocks : Chain.blocks { s.chain tx.stream with
        records := (s.chain tx.stream).records ++ [⟨tx.payload, tx.headerCycle, 0⟩] } =
        (s.chain tx.stream).blocks + blocksFor tx.payload.length := by
      simp [Chain.blocks, SegmentRecord.blocks, Nat.add_assoc]
    have hfits : blocksFor tx.payload.length ≤ blocksFor tx.size := by
      simp only [blocksFor]
      omega
    refine h.ended hmemory hengine (State.applyOutcome_defn tx _ s) ?_ ?_ ?_ ?_
    · rw [hreserved, hblocks]
      omega
    · rw [hfor, hblocks]
      omega
    · obtain ⟨hlt, hzero, hrecords⟩ := chainOk_iff.mp (h.ok tx.stream)
      refine chainOk_iff.mpr ⟨hlt, hzero, fun x hx => ?_⟩
      rcases List.mem_append.mp hx with hx | hx
      · exact hrecords x hx
      · rw [List.mem_singleton.mp hx]
        exact Nat.pos_of_ne_zero hnil
    · simp [chainFits, hr, hdir, hd, h.bytes_nil hr (hdir.trans hd)]

theorem Stored.applyOutcome (o : Outcome) : Stored (s.applyOutcome tx o) := by
  by_cases ho : o = .accepted
  · subst ho
    cases hd : tx.direction with
    | outbound => exact h.accepted_outbound hl ht hd
    | inbound => exact h.accepted_inbound hl ht hd
  · exact h.refused ht ho

end

/-! ## A change of mastership (R106) -/

theorem Stored.leaveLeading {s : State} (h : Stored s) (hl : Linked s) (new : MastState) : Stored (s.leaveLeading new) := by
  unfold State.leaveLeading
  split
  next =>
    have hrel : Stored s.releaseLine := h.of_same rfl rfl rfl
    unfold State.settleTransaction
    split
    next => exact hrel
    next tx ht =>
      split
      next => exact hrel.applyOutcome hl.releaseLine ht _
      next =>
        split
        · exact hrel.applyOutcome hl.releaseLine ht _
        · exact hrel.dropTransaction
  next => exact h

theorem Stored.changeMastership {s : State} (h : Stored s) (hl : Linked s) (new : MastState) (cause : Cause) :
    Stored (s.changeMastership new cause) := by
  have hleft := h.leaveLeading hl new
  rw [State.changeMastership_eq]
  refine hleft.frame (by simp) (fun j => ?_) (reservationOk_of_same hleft (by simp) ?_)
  · rw [State.stream, State.planFollows_streams]
    refine (congrArg _ ((State.streamsFollow_spec new _).1 j)).trans ?_
    have hdefn (r : StreamRecord) : (r.followed new).defn = r.defn := by
      rw [StreamRecord.followed_eq]
      (repeat' split) <;> rfl
    simp [Function.comp_def, hdefn, State.stream]
  · rw [State.planFollows_engine, State.streamsFollow_engine]
    rfl

/-! ## Every act -/

theorem Stored.setTransaction {s : State} (h : Stored s) {tx tx' : Transaction} (ht : s.engine.transaction = some tx)
    (hf : tx.Follows tx') : Stored (s.setTransaction tx') := by
  obtain ⟨hclaim, hwithin⟩ := h.claimed ht
  refine h.frame rfl (fun _ => rfl) (reservationOk_iff.mpr ⟨?_, fun x hx => ?_⟩)
  · refine hclaim.trans ?_
    change tx.claim = tx'.claim
    rw [Transaction.claim, Transaction.claim, hf.stream, hf.direction, hf.size]
  · obtain rfl : tx' = x := Option.some.inj hx
    exact hf.within hwithin

theorem Stored.setStream {s : State} (h : Stored s) {i : Sid} {r r' : StreamRecord} (hi : s.stream i = some r)
    (hd : r'.defn = r.defn) : Stored (s.setStream i (some r')) := by
  refine h.frame rfl (fun j => ?_) (reservationOk_of_same h rfl rfl)
  by_cases hj : j = i
  · subst hj
    rw [State.setStream_stream_self, hi, Option.map_some, Option.map_some, hd]
  · rw [State.setStream_stream_ne (Ne.symm hj)]

theorem Stored.afterReset (baud : Baud) (unit : UnitId) (epoch : Byte) (cause : HelloCause) (clock : Nat)
    (pending : List Instr) : Stored (State.afterReset baud unit epoch cause clock pending) :=
  (stored_iff.mpr memoryLaw_reset).frame rfl (fun _ => rfl) rfl

/-- Every act keeps the memory law. -/
theorem Act.stored {s t : State} (hact : Act s t) (hl : Linked s) (h : Stored s) : Stored t := by
  cases hact with
  | same hview => exact h.of_view hview
  | elapse n =>
    refine h.of_same rfl rfl ?_
    simp only [State.elapse, LinkEngine.silent, LinkEngine.active]
    split <;> rfl
  | restream hi hd => exact h.setStream hi hd
  | clearHeld hi => exact h.setHeld hi none rfl rfl rfl
  | define hi d => exact h.define hl hi d
  | @release i r _ hi =>
    refine h.emptyChain rfl rfl (fun j hj => State.setStream_stream_ne (Ne.symm hj) _ _) fun x hx => ?_
    rw [State.setStream_stream_self] at hx
    cases hx
  | flush hi => exact h.emptyChain rfl rfl (fun _ _ => rfl) fun _ hx => hx
  | put sid payload => exact h.putRequest hl sid payload
  | take sid => exact h.takeRequest sid
  | mastership _ cause => exact h.changeMastership hl _ cause
  | outcome ht o => exact h.applyOutcome hl ht o
  | transaction ht hf => exact h.setTransaction ht hf
  | openRecord | beacon | beginFrame | releaseLine | configured => exact h.of_same rfl rfl rfl
  | serve hstage hfree hserved => exact h.serve (hl.free hstage hfree).2 hserved
  | reset => exact .afterReset _ _ _ _ _ _

/-- Settles O10: a step is made of acts, and every act keeps the link law and the memory law. -/
theorem memoryLawKept : Obligations.MemoryLawKept := fun _ _ hlink hmem hstep =>
  stored_iff.mp ((acts_of_step hstep).preserve (P := fun s => Linked s ∧ Stored s)
    (fun _ _ hact h => ⟨hact.linked h.1, hact.stored h.1 h.2⟩) ⟨linked_iff.mpr hlink, stored_iff.mpr hmem⟩).2

end Sys2Proof.Machine
end

section
/-! SUPPORT. The report queue's answer to an offered report, state by state: O25. -/

set_option Elab.async false

namespace Sys2Proof.Machine

/-! ## Absorption (R173, R174) -/

theorem ReportQueue.absorbs_iff (r : Report) (q : ReportQueue) : q.absorbs r = true ↔
    ∃ k, r.coalesceKey = some k ∧ ∃ e ∈ q.entries, e.report.coalesceKey = some k := by
  unfold ReportQueue.absorbs
  cases r.coalesceKey <;> simp

theorem ReportQueue.offer_of_unabsorbed {r : Report} {q : ReportQueue}
    (h : ∀ k, r.coalesceKey = some k → ∀ e ∈ q.entries, e.report.coalesceKey ≠ some k) :
    q.offer r = q.admitOrdinary r :=
  if_neg fun habsorbed => by
    obtain ⟨k, hk, e, he, hek⟩ := (q.absorbs_iff r).mp habsorbed
    exact h k hk e he hek

/-! ## Joining the tail (R173, R176) -/

/-- At the limit the report is dropped and counted, and one REPORTS_LOST stands. -/
theorem ReportQueue.admitOrdinary_of_full {q : ReportQueue} (h : 47 ≤ q.ordinary) (r : Report) :
    q.admitOrdinary r = { q with
      lostCount := min 255 (q.lostCount + 1)
      entries := if q.entries.any (·.report.isLost) then q.entries else q.entries ++ [⟨.reportsLost none, false, none⟩] } := by
  rw [ReportQueue.admitOrdinary, if_pos (show Config.ordinaryReports ≤ q.ordinary from h), ReportQueue.ensureLost]
  have hcounted : decide (0 < min 255 (q.lostCount + 1)) = true := by simp
  rw [hcounted, Bool.true_and]
  cases q.entries.any (·.report.isLost) <;> rfl

theorem ReportQueue.admitOrdinary_of_room {q : ReportQueue} (h : q.ordinary < 47) (r : Report) :
    q.admitOrdinary r = { q with entries := q.entries ++ [⟨r, false, none⟩] } :=
  if_neg (Nat.not_le.mpr h)

/-! ## CYCLE_OVERRUN (R175) -/

/-- An entry of another kind is no standing CYCLE_OVERRUN to update. -/
theorem ReportEntry.addSkips_of_other {e : ReportEntry} (h : e.report.isOverrun = false) (n : Nat) : e.addSkips n = e := by
  unfold ReportEntry.addSkips
  split
  next hr => rw [hr] at h; cases h
  all_goals rfl

theorem ReportEntry.addSkips_overrun (first : Cycle) (k n : Nat) (fixed : Bool) (number : Option Byte) :
    ReportEntry.addSkips n ⟨.cycleOverrun first k, fixed, number⟩ =
      if fixed then ⟨.cycleOverrun first k, fixed, number⟩
      else ⟨.cycleOverrun first (min 65535 (k + n)), false, number⟩ := by
  cases fixed <;> rfl

theorem ReportQueue.map_addSkips_of_others {l : List ReportEntry} (h : ∀ e ∈ l, e.report.isOverrun = false) (n : Nat) :
    l.map (·.addSkips n) = l :=
  (List.map_congr_left fun e he => ReportEntry.addSkips_of_other (h e he) n).trans l.map_id'

/-- A CYCLE_OVERRUN stands: it counts the skips while it is not fixed, and absorbs them once it is. -/
theorem ReportQueue.offerOverrun_of_standing {q : ReportQueue} {pre post : List ReportEntry} {first : Cycle} {k : Nat}
    {fixed : Bool} {number : Option Byte} (hq : q.entries = pre ++ ⟨.cycleOverrun first k, fixed, number⟩ :: post)
    (hothers : ∀ e ∈ pre ++ post, e.report.isOverrun = false) (cycle : Cycle) (soFar more : Nat) :
    q.offerOverrun cycle soFar more =
      if fixed then q
      else { q with entries := pre ++ ⟨.cycleOverrun first (min 65535 (k + more)), false, number⟩ :: post } := by
  have hstands : q.entries.any (·.report.isOverrun) = true := by simp [hq, Report.isOverrun]
  have hpre := ReportQueue.map_addSkips_of_others (fun e he => hothers e (List.mem_append_left post he)) more
  have hpost := ReportQueue.map_addSkips_of_others (fun e he => hothers e (List.mem_append_right pre he)) more
  rw [ReportQueue.offerOverrun, if_pos hstands, hq, List.map_append, List.map_cons, hpre, hpost,
    ReportEntry.addSkips_overrun]
  cases fixed with
  | false => rfl
  | true => simp only [if_true, ← hq]

theorem ReportQueue.offerOverrun_of_none {q : ReportQueue} (h : ∀ e ∈ q.entries, e.report.isOverrun = false)
    (cycle : Cycle) (soFar more : Nat) :
    q.offerOverrun cycle soFar more = q.admitOrdinary (.cycleOverrun cycle (min 65535 soFar)) :=
  if_neg (by simpa using h)

/-- Settles O25: an ordinary report by whether a standing entry absorbs it, CYCLE_OVERRUN by whether one stands. -/
theorem reportOffered : Obligations.ReportOffered := by
  refine ⟨fun r q _ _ => ⟨fun h => if_pos ((q.absorbs_iff r).mpr h), fun h hfull => ?_, fun h hroom => ?_⟩,
    fun cycle soFar more q => ⟨fun pre post first k fixed number hq hothers =>
      ReportQueue.offerOverrun_of_standing hq hothers cycle soFar more, fun h hfull => ?_, fun h hroom => ?_⟩⟩
  · rw [ReportQueue.offer_of_unabsorbed h, ReportQueue.admitOrdinary_of_full hfull]
  · rw [ReportQueue.offer_of_unabsorbed h, ReportQueue.admitOrdinary_of_room hroom]
  · rw [ReportQueue.offerOverrun_of_none h, ReportQueue.admitOrdinary_of_full hfull]
  · rw [ReportQueue.offerOverrun_of_none h, ReportQueue.admitOrdinary_of_room hroom]

end Sys2Proof.Machine
end

section
/-! SUPPORT. The wait for an idle line, the beacon of the cycle and the handover in its place: O36. -/

set_option Elab.async false

namespace Sys2Proof.Machine

open Sys2Proof.Safety

/-! ## The line while time passes (R77, R78) -/

/-- From one state to the other nothing new is heard or sent at that moment; the part may only have released the line. -/
structure State.LineEased (s t : State) : Prop where
  hearing : t.engine.hearing = s.engine.hearing
  quiet : t.engine.quiet = s.engine.quiet
  driven : t.engine.drivenUntil ≤ s.engine.drivenUntil
  rate : t.master.rate = s.master.rate
  clock : t.time.clock = s.time.clock

theorem State.LineEased.of_engine {s t : State} (hengine : t.engine = s.engine) (hrate : t.master.rate = s.master.rate)
    (hclock : t.time.clock = s.time.clock) : s.LineEased t :=
  ⟨by rw [hengine], by rw [hengine], by rw [hengine], hrate, hclock⟩

theorem State.LineEased.trans {s t u : State} (h : s.LineEased t) (h' : t.LineEased u) : s.LineEased u :=
  ⟨h'.hearing.trans h.hearing, h'.quiet.trans h.quiet, h'.driven.trans h.driven, h'.rate.trans h.rate,
    h'.clock.trans h.clock⟩

/-- A released line falls idle no later. -/
theorem State.LineEased.untilIdle_le {s t : State} (h : s.LineEased t) : t.untilIdle ≤ s.untilIdle := by
  have hdriven := h.driven
  simp only [State.untilIdle, State.chars, h.quiet, h.rate, h.clock]
  split <;> split <;> omega

/-- Settling a transaction touches the engine in the transaction record alone. -/
theorem State.settleTransaction_lineEased (new : MastState) (s : State) : s.LineEased (s.settleTransaction new) := by
  have hmaster := s.settleTransaction_master new
  have htime := s.settleTransaction_time new
  refine ⟨?_, ?_, ?_, by rw [hmaster], by rw [htime]⟩
  all_goals
    unfold State.settleTransaction
    (repeat' split) <;> simp [State.dropTransaction]

theorem State.leaveLeading_lineEased (new : MastState) (s : State) : s.LineEased (s.leaveLeading new) := by
  unfold State.leaveLeading
  split
  · have hrelease : s.LineEased s.releaseLine := ⟨rfl, rfl, Nat.min_le_left _ _, rfl, rfl⟩
    exact hrelease.trans (s.releaseLine.settleTransaction_lineEased new)
  · exact .of_engine rfl rfl rfl

/-- A change of mastership may release the line, and leaves it otherwise. -/
theorem State.changeMastership_lineEased (new : MastState) (cause : Cause) (s : State) :
    s.LineEased (s.changeMastership new cause) := by
  have hleft := s.leaveLeading_lineEased new
  have hengine : (s.changeMastership new cause).engine = { (s.leaveLeading new).engine with
      busy := if new.supervised then 0 else (s.leaveLeading new).engine.busy } := by
    rw [State.changeMastership_eq, State.planFollows_engine, State.streamsFollow_engine]
    rfl
  exact hleft.trans ⟨by rw [hengine], by rw [hengine], by rw [hengine], by simp [State.changeMastership_master],
    by simp [State.changeMastership]⟩

theorem State.settleListen_lineEased (body : Body) (s : State) : s.LineEased (s.settleListen body) :=
  .of_engine (by simp) (by rw [State.settleListen_master]) (by simp)

theorem State.settleHandovers_lineEased (body : Body) (s : State) : s.LineEased (s.settleHandovers body) :=
  .of_engine (by simp) (by rw [State.settleHandovers_master]) (by simp)

/-- A stuck line, as far as the line can tell: at most a release (R122). -/
theorem State.faulted_lineEased (cause : Cause) (s : State) : s.LineEased (s.faulted cause) := by
  have hmaster : s.LineEased (s.setMaster { s.master with listenCount := none }) := .of_engine rfl rfl rfl
  rw [State.faulted_eq]
  exact ((hmaster.trans (State.changeMastership_lineEased _ _ _)).trans (State.settleListen_lineEased _ _)).trans
    (State.settleHandovers_lineEased _ _)

theorem State.masterBoundary_lineEased (s : State) : s.LineEased s.masterBoundary := by
  have hmaster {m : Mastership} (hm : m.rate = s.master.rate) : s.LineEased (s.setMaster m) := .of_engine rfl hm rfl
  unfold State.masterBoundary
  split
  next =>
    split
    next => refine hmaster ?_; rfl
    next =>
      split
      · refine ((hmaster ?_).trans (State.changeMastership_lineEased _ _ _)).trans (State.settleListen_lineEased _ _)
        rfl
      · refine hmaster ?_; rfl
  next =>
    split
    · refine (hmaster ?_).trans (State.changeMastership_lineEased _ _ _); rfl
    · refine hmaster ?_; rfl
  next => refine hmaster ?_; rfl
  all_goals exact .of_engine rfl rfl rfl

/-- A cycle boundary, as far as the line can tell: at most a release (R128). -/
theorem State.cycleBoundary_lineEased (s : State) : s.LineEased s.cycleBoundary := by
  have hplan : s.LineEased (s.timeBoundary.planBoundary.passCycleStarts (s.timeBoundary.time.cycle - 1)
      s.timeBoundary.time.cycle) := .of_engine (by simp) (by simp [State.timeBoundary])
        (by simp [State.timeBoundary, TimeUnit.boundary])
  exact hplan.trans (State.masterBoundary_lineEased _)

/-- While no frame arrives, the idle count restarts at the end of the part's own frame, and runs from there (R77). -/
theorem State.elapse_quiet {s : State} (h : s.engine.hearing = false) (n : Nat) : (s.elapse n).engine.quiet =
    if min n (s.engine.drivenUntil - s.time.clock) = 0 then s.engine.quiet + n
    else n - (s.engine.drivenUntil - s.time.clock) := by
  simp only [State.elapse, LinkEngine.silent, LinkEngine.active, State.activeTime, h, Bool.false_eq_true, if_false]
  split
  next => omega
  next => dsimp only; omega

theorem State.elapse_hearing (n : Nat) (s : State) : (s.elapse n).engine.hearing = s.engine.hearing := by
  simp only [State.elapse, LinkEngine.silent, LinkEngine.active]
  split <;> rfl

theorem State.elapse_drivenUntil (n : Nat) (s : State) : (s.elapse n).engine.drivenUntil = s.engine.drivenUntil := by
  simp only [State.elapse, LinkEngine.silent, LinkEngine.active]
  split <;> rfl

/-- Passing time brings the idle line nearer by its own length, while no frame arrives. -/
theorem State.elapse_untilIdle {s : State} (h : s.engine.hearing = false) (n : Nat) :
    (s.elapse n).untilIdle ≤ s.untilIdle - n := by
  have hclock : (s.elapse n).time.clock = s.time.clock + n := rfl
  simp only [State.untilIdle, State.chars, State.elapse_quiet h, State.elapse_drivenUntil, hclock, State.elapse_master]
  (repeat' split) <;> omega

/-- No frame is arriving, and the line will have been idle for 2 characters by the moment of the reference clock. -/
def State.IdleBy (moment : Nat) (s : State) : Prop := s.engine.hearing = false ∧ s.untilIdle ≤ moment - s.time.clock

theorem State.IdleBy.elapse {m : Nat} {s : State} (h : s.IdleBy m) (n : Nat) : (s.elapse n).IdleBy m := by
  obtain ⟨hhear, hidle⟩ := h
  have hnearer := State.elapse_untilIdle hhear n
  have hclock : (s.elapse n).time.clock = s.time.clock + n := rfl
  exact ⟨(s.elapse_hearing n).trans hhear, by omega⟩

theorem State.IdleBy.of_eased {m : Nat} {s t : State} (h : s.IdleBy m) (ht : s.LineEased t) : t.IdleBy m :=
  ⟨ht.hearing.trans h.1, by rw [ht.clock]; exact ht.untilIdle_le.trans h.2⟩

/-- Behind the wait of R78 the line has been idle for 2 characters, whatever boundary or stuck line came on the way. -/
theorem State.waitIdle_idle {s : State} (h : s.engine.hearing = false) :
    2 * s.master.rate.charMicros ≤ s.waitIdle.engine.quiet ∧ s.waitIdle.ldrv = false := by
  have hwait : s.waitIdle.IdleBy (s.time.clock + s.untilIdle) :=
    State.passTime_preserves (P := State.IdleBy (s.time.clock + s.untilIdle)) (fun n _ ht => ht.elapse n)
      (fun t ht => ht.of_eased t.cycleBoundary_lineEased) (fun t ht => ht.of_eased (t.faulted_lineEased _)) _ s
      ⟨h, by omega⟩
  have hnow : s.waitIdle.untilIdle = 0 := by
    have hclock : s.waitIdle.time.clock = s.time.clock + s.untilIdle := s.passTime_clock _
    have hleft := hwait.2
    omega
  have hrate : s.waitIdle.master.rate = s.master.rate := s.passTime_rate _
  have hpos := s.master.rate.charMicros_pos
  simp only [State.untilIdle, State.chars, Config.idleGap, hrate] at hnow
  unfold State.ldrv
  split at hnow
  · omega
  next hdriven => exact ⟨by omega, decide_eq_false hdriven⟩

/-! ## Answering the waiting HANDOVERs (R119, R120) -/

/-- The reply queue and window behind the answer to one waiting request, an abandoned one discarded (R162). -/
def Waiter.answeredIn (body : Body) (p : Port) (w : Waiter) : Port :=
  match w with
  | some tag => p.makeReady tag body
  | none => p

theorem State.answerWaiter_eq (w : Waiter) (body : Body) (s : State) :
    s.answerWaiter w body = s.setPort (Waiter.answeredIn body s.port w) := by
  cases w <;> rfl

theorem State.answerWaiters_eq (ws : List Waiter) (body : Body) (s : State) :
    ws.foldl (fun s w => s.answerWaiter w body) s = s.setPort (ws.foldl (Waiter.answeredIn body) s.port) := by
  induction ws generalizing s with
  | nil => rfl
  | cons w ws ih => rw [List.foldl_cons, List.foldl_cons, ih, State.answerWaiter_eq]; rfl

theorem State.settleHandovers_eq (body : Body) (s : State) : s.settleHandovers body = { s with
    port := s.master.handovers.foldl (Waiter.answeredIn body) s.port
    master := { s.master with handovers := [], armed := false } } :=
  State.answerWaiters_eq _ _ _

/-! ## The opening of a cycle (R60, R119) -/

theorem State.opening_of {c : CycleRecord} {s : State} (hlead : s.master.state = .leading) (hstage : s.plan.stage = .opening)
    (hrec : s.plan.record = some c) : s.opening = some c := by
  rw [State.opening, if_pos ⟨hlead, hstage⟩, hrec]

theorem State.opening_of_not_leading {s : State} (h : s.master.state ≠ .leading) : s.opening = none :=
  if_neg fun hopen => h hopen.1

/-- The part leaves LEADING with nothing in flight and the line released: only LTXD changes. -/
theorem State.leaveLeading_of_idle {s : State} (hlead : s.master.state = .leading) (hline : s.ldrv = false)
    (hfree : s.engine.transaction = none) (new : MastState) :
    s.leaveLeading new = s.setEngine { s.engine with ltxd := [] } := by
  have hdriven : min s.engine.drivenUntil s.time.clock = s.engine.drivenUntil := by
    simp only [State.ldrv, decide_eq_false_iff_not] at hline
    omega
  have hrelease : s.releaseLine = s.setEngine { s.engine with ltxd := [] } := by rw [State.releaseLine, hdriven]
  rw [State.leaveLeading, if_pos hlead, hrelease, State.settleTransaction]
  simp [hfree]

/-- The armed handover of a part with nothing in flight, on an idle line (R119). -/
theorem State.handoverEffect_of_idle {s : State} (hlead : s.master.state = .leading) (hline : s.ldrv = false)
    (hfree : s.engine.transaction = none) : s.handoverEffect = { s with
      master := { s.master with
        state := .following, lastCause := some .handover, silenceCount := 0, silenceLimit := 2 * s.master.timeout
        handovers := [], armed := false }
      port := s.master.handovers.foldl (Waiter.answeredIn [0x00, 0x03]) s.port
      reports := s.reports.offer (.mastership .following .handover s.master.lastPartner)
      plan := { s.plan with stage := .standby, record := none }
      engine := { s.engine with ltxd := [], busy := 0 } } := by
  have hleave := State.leaveLeading_of_idle
    (s := s.setMaster { s.master with silenceCount := 0, silenceLimit := 2 * s.master.timeout }) hlead hline hfree .following
  rw [State.handoverEffect, State.settleHandovers_eq, State.changeMastership_eq, hleave]
  rfl

/-- The beacon of the record that waits for it (R60), late when it starts after position 8 (R74). -/
theorem State.openCycle_beacon {c : CycleRecord} {s : State} (hopen : s.opening = some c) (hrec : s.plan.record = some c)
    (harm : s.master.armed = false) : s.openCycle = { s with
      plan := { s.plan with record := some { c with
        beaconStart := some s.position, late := c.late || decide (8 < s.position) } }
      reports := if 8 < s.position then s.reports.offerOverrun c.cycle c.skipped 0 else s.reports
      engine := { s.engine with
        ltxd := beaconFrame s.master.unit c.cycle, quiet := 0
        drivenUntil := s.time.clock + 6 * s.master.rate.charMicros } } := by
  have hbegun : s.mapRecord (fun c => { c with beaconStart := some s.position }) =
      s.setPlan { s.plan with record := some { c with beaconStart := some s.position } } := by
    rw [State.mapRecord, hrec]
    rfl
  simp only [State.openCycle, hopen, harm, hbegun, Bool.false_eq_true, if_false]
  by_cases hlate : 8 < s.position
  · rw [if_pos (show Config.beaconCost < s.position from hlate), if_pos hlate, decide_eq_true hlate, Bool.or_true]
    rfl
  · rw [if_neg (show ¬ Config.beaconCost < s.position from hlate), if_neg hlate, decide_eq_false hlate, Bool.or_false]
    rfl

/-- BEACON_GRANT with nothing in flight and nothing heard: the wait, then the opening of the cycle. -/
theorem State.beaconGrant_of_free {c : CycleRecord} {s : State} (hopen : s.opening = some c)
    (hwaits : c.beaconStart = none) (hfree : s.engine.transaction = none) (hhear : s.engine.hearing = false) :
    s.beaconGrant = s.waitIdle.openCycle := by
  simp [State.beaconGrant, hopen, hwaits, hfree, hhear]

/-- Settles O36: the wait leaves an idle line; the part as it then stands decides between nothing, beacon and handover. -/
theorem beaconGranted : Obligations.BeaconGranted := by
  intro c0 s u hrun hlead hstage hrec hwaits hfree hhear hu
  obtain rfl : u = s.waitIdle := hu
  obtain ⟨hquiet, hline⟩ := State.waitIdle_idle hhear
  have hrate : s.waitIdle.master.rate = s.master.rate := s.passTime_rate _
  have hexec : exec .beaconGrant s = .next s.waitIdle.openCycle := by
    rw [← State.beaconGrant_of_free (State.opening_of hlead hstage hrec) hwaits hfree hhear]
    exact congrArg Host.Outcome.next (if_neg (by simp [hrun]))
  refine ⟨hquiet, hline, fun hleft => ?_, fun c hlead' hstage' hrec' at0 hat0 => ?_⟩
  · rw [hexec, State.openCycle, State.opening_of_not_leading hleft]
  · have hopen := State.opening_of hlead' hstage' hrec'
    obtain rfl : at0 = s.waitIdle.position := by rw [hat0, State.position, hrate]
    refine ⟨fun harm => ?_, fun harm hfree' => ?_⟩
    · rw [hexec, State.openCycle_beacon hopen hrec' harm, hrate]
    · rw [hexec, State.openCycle, hopen]
      simp only [harm, if_true]
      rw [State.handoverEffect_of_idle hlead' hline hfree']
      rfl

end Sys2Proof.Machine
end

section
/-! SUPPORT. The due list, its order, and the plan that serves it: O37. -/

set_option Elab.async false

namespace Sys2Proof.Machine

open Sys2Proof.Safety

/-! ## The streams of the due list (R61) -/

/-- The cycles in which a stream is due, for the periods and phases of R3. -/
theorem dueIn_iff {period phase : Nat} (hperiod : period ∈ periods) (hphase : phase < period) (c : Cycle) :
    dueIn period phase c = true ↔ c.toNat % period = phase := by
  simp only [dueIn, beq_iff_eq]
  simp only [periods, List.mem_cons, List.not_mem_nil, or_false] at hperiod
  rcases hperiod with rfl | rfl | rfl | rfl | rfl | rfl | rfl | rfl | rfl <;> omega

theorem StreamRecord.duePeriod_iff (c : Cycle) (r : StreamRecord) (p : Nat) : r.duePeriod c = some p ↔
    ∃ phase, r.defn.kind = .cyclic p phase ∧ r.holdsLoad = true ∧ dueIn p phase c = true := by
  unfold StreamRecord.duePeriod
  split
  next period phase hkind =>
    constructor
    · intro h
      obtain ⟨hdue, rfl⟩ := (Option.ite_none_right_eq_some.mp h).imp_right Option.some.inj
      exact ⟨phase, hkind, Bool.and_eq_true_iff.mp hdue⟩
    · rintro ⟨phase', hkind', hload, hdue⟩
      obtain ⟨rfl, rfl⟩ := StreamKind.cyclic.inj (hkind.symm.trans hkind')
      rw [hload, hdue]
      rfl
  next hkind => simp [hkind]

/-- A CYCLIC record within R3 has one of the nine periods, and its phase is below it. -/
theorem placeRight_cyclic {r : StreamRecord} {period phase : Nat} (h : placeRight r = true)
    (hkind : r.defn.kind = .cyclic period phase) : period ∈ periods ∧ phase < period := by
  simpa [placeRight, hkind] using h

theorem mem_allSids (i : Sid) : i ∈ allSids := by revert i; decide

/-- The stream stands in the group of a period. -/
theorem State.mem_dueGroup_iff (c : Cycle) (p : Nat) (i : Sid) (s : State) :
    i ∈ allSids.filter (fun i => (s.stream i).bind (StreamRecord.duePeriod c) == some p) ↔
      ∃ r phase, s.stream i = some r ∧ r.defn.kind = .cyclic p phase ∧ r.holdsLoad = true ∧ dueIn p phase c = true := by
  simp [mem_allSids, Option.bind_eq_some_iff, StreamRecord.duePeriod_iff]

theorem State.mem_dueStreams_iff {s : State} (hplace : ∀ i : Sid, (s.stream i).all placeRight = true) (c : Cycle) (i : Sid) :
    i ∈ s.dueStreams c ↔ ∃ r period phase, s.stream i = some r ∧ r.defn.kind = .cyclic period phase ∧
      r.holdsLoad = true ∧ c.toNat % period = phase := by
  have hright {r : StreamRecord} {period phase : Nat} (hr : s.stream i = some r)
      (hkind : r.defn.kind = .cyclic period phase) : period ∈ periods ∧ phase < period :=
    placeRight_cyclic (by simpa [hr] using hplace i) hkind
  simp only [State.dueStreams, List.mem_flatMap, State.mem_dueGroup_iff]
  constructor
  · rintro ⟨p, -, r, phase, hr, hkind, hload, hdue⟩
    obtain ⟨hp, hphase⟩ := hright hr hkind
    exact ⟨r, p, phase, hr, hkind, hload, (dueIn_iff hp hphase c).mp hdue⟩
  · rintro ⟨r, p, phase, hr, hkind, hload, hdue⟩
    obtain ⟨hp, hphase⟩ := hright hr hkind
    exact ⟨p, hp, r, phase, hr, hkind, hload, (dueIn_iff hp hphase c).mpr hdue⟩

/-! ## The order of the due list (R61) -/

/-- One CYCLIC stream comes before another: by its period, and by its id among equal periods. -/
def State.DueBefore (s : State) (i j : Sid) : Prop :=
  ∀ p q a b r r', s.stream i = some r → s.stream j = some r' →
    r.defn.kind = .cyclic p a → r'.defn.kind = .cyclic q b → p < q ∨ (p = q ∧ i < j)

theorem periods_ascend : periods.Pairwise (· < ·) := by decide

theorem allSids_ascend : allSids.Pairwise (· < ·) := by decide

/-- The groups stand by ascending period, the ids within each ascend. -/
theorem State.dueStreams_ordered (c : Cycle) (s : State) : (s.dueStreams c).Pairwise s.DueBefore := by
  have period_eq {p q a : Nat} {i : Sid} {r : StreamRecord}
      (hi : i ∈ allSids.filter (fun i => (s.stream i).bind (StreamRecord.duePeriod c) == some q))
      (hr : s.stream i = some r) (hkind : r.defn.kind = .cyclic p a) : p = q := by
    obtain ⟨x, phase, hx, hkind', -⟩ := (State.mem_dueGroup_iff c q i s).mp hi
    obtain rfl : r = x := Option.some.inj (hr.symm.trans hx)
    exact (StreamKind.cyclic.inj (hkind.symm.trans hkind')).1
  refine List.pairwise_flatMap.mpr ⟨fun q _ => ?_, periods_ascend.imp fun {q q'} hq i hi j hj => ?_⟩
  · refine (allSids_ascend.filter _).imp_of_mem fun {i j} hi hj hij => ?_
    intro p p' a b r r' hr hr' hkind hkind'
    exact .inr ⟨(period_eq hi hr hkind).trans (period_eq hj hr' hkind').symm, hij⟩
  · intro p p' a b r r' hr hr' hkind hkind'
    rw [period_eq hi hr hkind, period_eq hj hr' hkind']
    exact .inl hq

/-! ## Serving keeps the due list (R62) -/

/-- The due list of the cycle record. -/
def State.recordedDue (s : State) : Option (List Sid) := s.plan.record.map (·.dueList)

theorem State.recordedDue_of_plan {s t : State} (h : t.plan = s.plan) : t.recordedDue = s.recordedDue := by
  rw [State.recordedDue, h, State.recordedDue]

theorem State.mapRecord_recordedDue {f : CycleRecord → CycleRecord} (s : State)
    (hf : ∀ c, (f c).dueList = c.dueList := by intro; rfl) : (s.mapRecord f).recordedDue = s.recordedDue := by
  simp [State.recordedDue, State.mapRecord, Function.comp_def, hf]

theorem State.noteLate_recordedDue (n : Nat) (s : State) : (s.noteLate n).recordedDue = s.recordedDue := by
  unfold State.noteLate
  split
  next => rfl
  next => exact State.mapRecord_recordedDue (f := fun c => { c with late := true, skipped := c.skipped + n }) s

theorem State.grantWithRoom_plan (i : Sid) (r : StreamRecord) (n : Nat) (s : State) :
    (s.grantWithRoom i r n).1.plan = s.plan := by
  unfold State.grantWithRoom
  (repeat' split) <;> simp

theorem State.considerDue_recordedDue (i : Sid) (s : State) : (s.considerDue i).1.recordedDue = s.recordedDue := by
  cases hs : s.serviceable i with
  | none => rw [State.considerDue, hs]
  | some r =>
    by_cases hfit : s.fits r.defn.cost = true
    · rw [State.considerDue_fits hs hfit]
      split
      next => rfl
      next => rfl
      next n _ => exact State.recordedDue_of_plan (State.grantWithRoom_plan i r n s)
    · simp only [State.considerDue, hs]
      rw [if_pos (by simpa using hfit)]
      exact s.noteLate_recordedDue 1

theorem State.considerDemand_recordedDue (i : Sid) (s : State) : (s.considerDemand i).1.recordedDue = s.recordedDue := by
  refine State.recordedDue_of_plan ?_
  unfold State.considerDemand
  (repeat' split) <;> simp

theorem State.searchDemand_recordedDue (k : Nat) (i : Sid) (s : State) :
    (State.searchDemand k i s).recordedDue = s.recordedDue := by
  induction k generalizing i s with
  | zero => rfl
  | succ k ih =>
    have hkept := s.considerDemand_recordedDue i
    rw [State.searchDemand_succ]
    generalize s.considerDemand i = x at hkept
    obtain ⟨t, came⟩ := x
    cases came with
    | granted => exact (State.mapRecord_recordedDue (t.setPlan { t.plan with pointer := i })).trans hkept
    | ended => exact hkept
    | passed => exact ((ih _ _).trans (State.mapRecord_recordedDue t)).trans hkept

theorem State.serveDue_recordedDue (l : List Sid) (s : State) : (State.serveDue l s).recordedDue = s.recordedDue := by
  induction l generalizing s with
  | nil => exact (State.searchDemand_recordedDue _ _ _).trans (State.mapRecord_recordedDue (s.enterStage .demand))
  | cons i l ih =>
    have hkept := s.considerDue_recordedDue i
    unfold State.serveDue
    generalize s.considerDue i = x at hkept
    obtain ⟨t, came⟩ := x
    cases came with
    | granted => exact hkept
    | ended | passed =>
      exact ((ih _).trans (State.mapRecord_recordedDue (f := fun c => { c with duePlace := c.duePlace + 1 }) t)).trans hkept

/-! ## The stage of a plan that serves the link -/

theorem Served.stage_ne {s t : State} (h : Served s t) : t.plan.stage ≠ .opening ∧ t.plan.stage ≠ .standby := by
  cases h with
  | moved hview hst =>
    have hstage : t.plan.stage = _ := congrArg LawView.stage hview
    rw [hstage]
    exact ⟨hst.2, hst.1⟩
  | @granted u v _ st _ _ _ hview hst _ _ hgrant ht =>
    have hstage : t.plan.stage = st := by
      calc t.plan.stage = v.plan.stage := congrArg LawView.stage ht
        _ = u.plan.stage := by rw [(State.grantWithRoom_frame hgrant).2.1]
        _ = st := congrArg LawView.stage hview
    rw [hstage]
    rcases hst with rfl | rfl <;> exact ⟨nofun, nofun⟩

/-! ## CYCLIC_PHASE_START (R61) -/

/-- The plan in CYCLIC, its due list built and nothing of it considered yet (R61). -/
def State.dueBuilt (due : List Sid) (c : CycleRecord) (s : State) : State :=
  { s with plan := { s.plan with stage := .cyclic, record := some { c with dueList := due, duePlace := 0, renewed := [] } } }

theorem State.enterCyclic_eq {c : CycleRecord} {s : State} (hrec : s.plan.record = some c) :
    s.enterCyclic = State.serveDue (s.dueStreams c.cycle) (s.dueBuilt (s.dueStreams c.cycle) c) := by
  have hbuilt (due : List Sid) : (s.enterStage .cyclic).mapRecord
      (fun c => { c with dueList := due, duePlace := 0, renewed := [] }) = s.dueBuilt due c := by
    simp only [State.mapRecord, State.enterStage, State.setPlan, hrec]
    rfl
  simp only [State.enterCyclic, hrec, hbuilt]

theorem State.dueBuilt_recordedDue (due : List Sid) (c : CycleRecord) (s : State) :
    (s.dueBuilt due c).recordedDue = some due := rfl

theorem State.serveDue_dueBuilt_stage {c : CycleRecord} {s : State} (hrec : s.plan.record = some c) (due l : List Sid) :
    (State.serveDue l (s.dueBuilt due c)).plan.stage ≠ .opening ∧ (State.serveDue l (s.dueBuilt due c)).plan.stage ≠ .standby := by
  have hview : (s.dueBuilt due c).lawView = { s.lawView with stage := .cyclic } := by
    simp only [State.lawView, State.dueBuilt, hrec]
    rfl
  exact (Served.serveDue hview l).stage_ne

theorem State.beaconOut_of {c : CycleRecord} {s : State} (hlead : s.master.state = .leading)
    (hstage : s.plan.stage = .opening) (hrec : s.plan.record = some c) (hout : c.beaconStart.isSome = true) :
    s.beaconOut = true := by
  rw [State.beaconOut, State.opening_of hlead hstage hrec]
  exact hout

theorem State.cyclicPhaseStart_eq {s : State} (hout : s.beaconOut = true)
    (hout' : (s.waitUntil (s.engine.drivenUntil + s.chars Config.idleGap)).beaconOut = true) :
    s.cyclicPhaseStart = (s.waitUntil (s.engine.drivenUntil + s.chars Config.idleGap)).enterCyclic := by
  simp only [State.cyclicPhaseStart, hout, hout', if_true]

/-! ## The plan goes on (R57, R62) -/

/-- One place of the due list, by what its consideration comes to (R62). -/
theorem State.serveDue_cons (i : Sid) (rest : List Sid) (s : State) : State.serveDue (i :: rest) s =
    match s.considerDue i with
    | (t, .granted) => t
    | (t, .passed) | (t, .ended) => State.serveDue rest (t.mapRecord fun c => { c with duePlace := c.duePlace + 1 }) := rfl

/-- Settles O37: the list by its members and its order, then the plan place by place and behind a transaction. -/
theorem dueListBuilt : Obligations.DueListBuilt := by
  refine ⟨?_, fun _ => rfl, fun i rest s t => ⟨fun h => ?_, fun h => ?_⟩, fun c pre rest i s hstage hrec hlist hplace => ?_,
    fun c s hstage hrec => ?_, fun s hcyclic hdemand => ?_⟩
  · intro c0 c s u hrun hlead hstage hrec hout hu hlead' hstage' hrec' hout' hplace
    obtain rfl : u = s.waitUntil (s.engine.drivenUntil + s.chars Config.idleGap) := hu
    generalize hw : s.waitUntil (s.engine.drivenUntil + s.chars Config.idleGap) = u at *
    have hexec : exec .cyclicPhaseStart s = .next u.enterCyclic := by
      have hstart := State.cyclicPhaseStart_eq (State.beaconOut_of hlead hstage hrec hout)
        (by rw [hw]; exact State.beaconOut_of hlead' hstage' hrec' hout')
      rw [hw] at hstart
      rw [← hstart]
      exact congrArg Host.Outcome.next (if_neg (by simp [hrun]))
    obtain ⟨hopening, hstandby⟩ := State.serveDue_dueBuilt_stage hrec' (u.dueStreams c.cycle) (u.dueStreams c.cycle)
    refine ⟨_, u.dueStreams c.cycle, hexec.trans (congrArg Host.Outcome.next (State.enterCyclic_eq hrec')), ?_, rfl, hopening, hstandby,
      State.mem_dueStreams_iff hplace c.cycle, State.dueStreams_ordered c.cycle u⟩
    exact (State.serveDue_recordedDue _ _).trans (State.dueBuilt_recordedDue _ c u)
  · rw [State.serveDue_cons, h]
  · rw [State.serveDue_cons, h]
    rfl
  · have hbehind : c.dueList.drop (c.duePlace + 1) = rest := by
      rw [hlist, hplace]
      simp
    simp only [State.planContinues, hstage, hrec, hbehind, State.mapRecord]
    rfl
  · simp only [State.planContinues, hstage, hrec]
  · unfold State.planContinues
    split
    next h _ => exact absurd h hcyclic
    next h _ => exact absurd h hdemand
    next => rfl

end Sys2Proof.Machine
end

section
/-! SUPPORT. The passing of time: the events within it, each at its instant, and the quiet time between them: O4. -/

namespace Sys2Proof.Machine

open Sys2Proof.Safety

/-! ## The instants of the two events (R103, R127) -/

theorem State.stuckWithin_some {n t : Nat} {s : State} (h : s.stuckWithin n = some t) :
    s.master.state.supervised = true ∧ t ≤ n ∧ t ≤ s.untilBoundary := by
  obtain ⟨hstuck, hwithin⟩ := Option.filter_eq_some_iff.mp h
  refine ⟨?_, of_decide_eq_true hwithin⟩
  by_contra hsup
  simp [State.untilStuck, hsup] at hstuck

/-- No stuck line comes before the next boundary and within `n` microseconds of which NoStuck covers that much. -/
theorem State.stuckWithin_of_noStuck {n k : Nat} {s : State} (h : NoStuck k s) (hk : min n s.untilBoundary ≤ k) :
    s.stuckWithin n = none := by
  refine Option.filter_eq_none_iff.mpr fun t ht => ?_
  rw [decide_eq_true_eq]
  simp only [State.untilStuck, State.chars, Config.stuckCharacters, Option.ite_none_right_eq_some, Bool.and_eq_true,
    Bool.or_eq_true, Option.some.injEq] at ht
  obtain ⟨⟨hsup, hcomes⟩, rfl⟩ := ht
  rcases h hsup with hfar | ⟨hquiet, hidle⟩
  · omega
  · rcases hcomes with hheard | hbefore
    · rw [hquiet] at hheard; cases hheard
    · have := of_decide_eq_true hbefore
      omega

/-- The stuck line at its instant, when it comes no later than the boundary. -/
theorem State.stuckWithin_of_stuck {n k : Nat} {s : State} (hsup : s.master.state.supervised = true)
    (hbusy : s.engine.busy + k = 600 * s.master.rate.charMicros) (hbound : k ≤ s.untilBoundary) (hk : k ≤ n)
    (hheld : s.engine.hearing = true ∨ k < s.untilIdle) : s.stuckWithin n = some k := by
  have hleft : s.chars Config.stuckCharacters - s.engine.busy = k := by
    rw [State.chars, Config.stuckCharacters]; omega
  have hstuck : s.untilStuck = some k := by
    simp only [State.untilStuck, hleft]
    exact if_pos (by simpa [hsup] using hheld)
  exact Option.filter_eq_some_iff.mpr ⟨hstuck, decide_eq_true ⟨hk, hbound⟩⟩

/-! ## What the events keep -/

theorem State.masterBoundary_cycleLength (s : State) : s.masterBoundary.master.cycleLength = s.master.cycleLength := by
  unfold State.masterBoundary
  split
  next =>
    split
    next => rfl
    next =>
      split
      · rw [State.settleListen_master, State.changeMastership_master]; rfl
      · rfl
  next =>
    split
    · rw [State.changeMastership_master]; rfl
    · rfl
  all_goals rfl

theorem State.cycleBoundary_cycleLength (s : State) : s.cycleBoundary.master.cycleLength = s.master.cycleLength := by
  rw [State.cycleBoundary, State.masterBoundary_cycleLength]
  simp

theorem State.cycleBoundary_time (s : State) : s.cycleBoundary.time = s.time.boundary := by
  rw [State.cycleBoundary, State.masterBoundary_time]
  simp [State.timeBoundary]

/-- A boundary means nothing to the mastership unit of an unsupervised part. -/
theorem State.masterBoundary_unsupervised {s : State} (h : s.master.state.supervised = false) : s.masterBoundary = s := by
  unfold State.masterBoundary
  split
  next hst => rw [hst] at h; cases h
  next hst => rw [hst] at h; cases h
  next hst => rw [hst] at h; cases h
  all_goals rfl

theorem State.cycleBoundary_unsupervised {s : State} (h : s.master.state.supervised = false) :
    s.cycleBoundary.master = s.master := by
  rw [State.cycleBoundary, State.masterBoundary_unsupervised (by simpa using h)]
  simp

/-! ## As many events as there is room for (log entry 4) -/

/-- At most so many events fall into the next `n` microseconds: the boundaries, and one stuck line of a supervised part. -/
def State.eventsWithin (n : Nat) (s : State) : Nat :=
  (s.time.offset + n) / s.master.cycleLength + if s.master.state.supervised then 1 else 0

theorem State.eventsWithin_stuck {n t : Nat} {s : State} (h : s.stuckWithin n = some t) :
    ((s.elapse t).faulted .stuckLine).eventsWithin (n - t) + 1 = s.eventsWithin n := by
  obtain ⟨hsup, hn, -⟩ := State.stuckWithin_some h
  have htime : s.time.offset + t + (n - t) = s.time.offset + n := by omega
  simp only [State.eventsWithin, State.faulted_time, State.faulted_master, hsup]
  simp [State.elapse, TimeUnit.run, htime, MastState.supervised]

theorem State.eventsWithin_boundary {n : Nat} {s : State} (hoff : s.time.offset ≤ s.master.cycleLength)
    (hlen : 0 < s.master.cycleLength) (hn : s.untilBoundary ≤ n) :
    (s.elapse s.untilBoundary).cycleBoundary.eventsWithin (n - s.untilBoundary) + 1 ≤ s.eventsWithin n := by
  have hcycles : (n - s.untilBoundary) / s.master.cycleLength + 1 = (s.time.offset + n) / s.master.cycleLength := by
    rw [← Nat.add_div_right _ hlen]
    congr 1
    simp only [State.untilBoundary] at hn ⊢
    omega
  have hsup : (if (s.elapse s.untilBoundary).cycleBoundary.master.state.supervised then 1 else 0) ≤
      if s.master.state.supervised then 1 else 0 := by
    cases h : s.master.state.supervised with
    | false => rw [State.cycleBoundary_unsupervised (s := s.elapse s.untilBoundary) h, State.elapse_master, h]
    | true => split <;> simp
  simp only [State.eventsWithin, State.cycleBoundary_time, State.cycleBoundary_cycleLength, State.elapse_master,
    TimeUnit.boundary, Nat.zero_add]
  omega

section
variable {n t : Nat} {s : State}

theorem State.advance_stuck (h : s.stuckWithin n = some t) (k : Nat) :
    s.advance (k + 1) n = ((s.elapse t).faulted .stuckLine).advance k (n - t) := by
  rw [State.advance, h]

theorem State.advance_boundary (h : s.stuckWithin n = none) (hn : s.untilBoundary ≤ n) (k : Nat) :
    s.advance (k + 1) n = (s.elapse s.untilBoundary).cycleBoundary.advance k (n - s.untilBoundary) := by
  rw [State.advance, h]
  exact if_pos hn

theorem State.advance_quiet (h : s.stuckWithin n = none) (hn : ¬ s.untilBoundary ≤ n) (k : Nat) :
    s.advance k n = s.elapse n := by
  cases k with
  | zero => rfl
  | succ k =>
    rw [State.advance, h]
    exact if_neg hn

end

/-- Room for one more event than can fall into the time changes nothing. -/
theorem State.advance_succ {k n : Nat} {s : State} (hoff : s.time.offset ≤ s.master.cycleLength)
    (hlen : 0 < s.master.cycleLength) (hk : s.eventsWithin n ≤ k) : s.advance (k + 1) n = s.advance k n := by
  induction k generalizing n s with
  | zero =>
    have hnone : s.stuckWithin n = none := by
      refine Option.eq_none_iff_forall_ne_some.mpr fun t ht => ?_
      have := State.eventsWithin_stuck ht
      omega
    have hbefore : ¬ s.untilBoundary ≤ n := fun hn => by
      have := State.eventsWithin_boundary hoff hlen hn
      omega
    rw [State.advance_quiet hnone hbefore, State.advance_quiet hnone hbefore]
  | succ k ih =>
    cases hstuck : s.stuckWithin n with
    | some t =>
      obtain ⟨-, -, hbound⟩ := State.stuckWithin_some hstuck
      have hcount := State.eventsWithin_stuck hstuck
      rw [State.advance_stuck hstuck, State.advance_stuck hstuck]
      refine ih ?_ ?_ (by omega)
      · rw [State.faulted_time, State.faulted_master]
        simp only [State.elapse, TimeUnit.run, State.untilBoundary] at hbound ⊢
        omega
      · rw [State.faulted_master]; exact hlen
    | none =>
      by_cases hn : s.untilBoundary ≤ n
      · have hcount := State.eventsWithin_boundary hoff hlen hn
        rw [State.advance_boundary hstuck hn, State.advance_boundary hstuck hn]
        refine ih ?_ ?_ (by omega)
        · rw [State.cycleBoundary_time]; exact Nat.zero_le _
        · rw [State.cycleBoundary_cycleLength]; exact hlen
      · rw [State.advance_quiet hstuck hn, State.advance_quiet hstuck hn]

/-- The passing of time, with any room for events that suffices. -/
theorem State.advance_eq_passTime {k n : Nat} {s : State} (hoff : s.time.offset ≤ s.master.cycleLength)
    (hlen : 0 < s.master.cycleLength) (hk : s.eventsWithin n ≤ k) : s.advance k n = s.passTime n := by
  have hroom (j : Nat) (hj : s.eventsWithin n ≤ j) : s.advance j n = s.advance (s.eventsWithin n) n := by
    induction j, hj using Nat.le_induction with
    | base => rfl
    | succ j hj ih => rw [State.advance_succ hoff hlen hj, ih]
  have henough : s.eventsWithin n ≤ n / s.master.cycleLength + 2 := by
    have hcycles : (s.time.offset + n) / s.master.cycleLength ≤ n / s.master.cycleLength + 1 := by
      rw [← Nat.add_div_right _ hlen]
      exact Nat.div_le_div_right (by omega)
    have hsup : (if s.master.state.supervised then 1 else 0) ≤ 1 := by split <;> simp
    rw [State.eventsWithin]
    omega
  rw [hroom k hk, State.passTime, hroom _ henough]

/-- The boundary is taken at its instant, and time passes on behind it (R127, R128). -/
theorem State.passTime_boundary {b : Nat} {s : State} (hlen : 0 < s.master.cycleLength)
    (hb : s.time.offset + b = s.master.cycleLength) (hquiet : NoStuck b s) (m : Nat) :
    s.passTime (b + m) = (s.elapse b).cycleBoundary.passTime m := by
  obtain rfl : b = s.untilBoundary := by simp only [State.untilBoundary]; omega
  have hnone : s.stuckWithin (s.untilBoundary + m) = none :=
    State.stuckWithin_of_noStuck hquiet (Nat.min_le_right _ _)
  have hcount := State.eventsWithin_boundary (n := s.untilBoundary + m) (by omega) hlen (Nat.le_add_right _ _)
  rw [← State.advance_eq_passTime (k := s.eventsWithin (s.untilBoundary + m) + 1) (by omega) hlen (by omega),
    State.advance_boundary hnone (Nat.le_add_right _ _)]
  rw [Nat.add_sub_cancel_left] at hcount ⊢
  refine State.advance_eq_passTime ?_ ?_ (by omega)
  · rw [State.cycleBoundary_time]; exact Nat.zero_le _
  · rw [State.cycleBoundary_cycleLength]; exact hlen

/-- The stuck line is taken at its instant, and time passes on behind it (R103, R122). -/
theorem State.passTime_stuck {k m : Nat} {s : State} (hlen : 0 < s.master.cycleLength)
    (hoff : s.time.offset + k ≤ s.master.cycleLength) (hstuck : s.stuckWithin (k + m) = some k) :
    s.passTime (k + m) = ((s.elapse k).faulted .stuckLine).passTime m := by
  have hcount := State.eventsWithin_stuck hstuck
  rw [← State.advance_eq_passTime (k := s.eventsWithin (k + m) + 1) (by omega) hlen (by omega),
    State.advance_stuck hstuck]
  rw [Nat.add_sub_cancel_left] at hcount ⊢
  refine State.advance_eq_passTime ?_ ?_ (by omega)
  · rw [State.faulted_time, State.faulted_master]; exact hoff
  · rw [State.faulted_master]; exact hlen

/-! ## The line in the quiet time (R77, R103, log entry 9) -/

/-- `n` microseconds of the line's time: of them `a` active ones, then silence. -/
theorem State.elapse_engine (n : Nat) (s : State) : (s.elapse n).engine = { s.engine with
    quiet := if s.activeTime n = 0 then s.engine.quiet + n else n - s.activeTime n
    busy := if s.master.state.supervised then
        (if 2 * s.master.rate.charMicros ≤ (s.elapse n).engine.quiet then 0 else s.engine.busy + n)
      else s.engine.busy } := by
  have hle : s.activeTime n ≤ n := by
    simp only [State.activeTime]
    split <;> omega
  have hsum : s.activeTime n + (n - s.activeTime n) = n := by omega
  simp only [State.elapse, LinkEngine.silent, LinkEngine.active, Config.idleGap]
  split
  next hzero => simp [hzero]
  next => cases s.master.state.supervised <;> simp [Nat.add_assoc, hsum]

/-- Settles O4: the two events at their instants, and the quiet time field by field. -/
theorem timePasses : Obligations.TimePasses := by
  refine ⟨fun n s hlaw hn hquiet => ?_, fun b m s hlaw hb hquiet => ?_, fun k m s hlaw hsup hbusy hoff hheld => ?_,
    fun n s => ⟨rfl, rfl, rfl, rfl, rfl, rfl, rfl, rfl, rfl, ?_, fun hhear hn => ?_, fun d hhear hd hpos hn => ?_,
      fun hhear hdriven => ?_⟩⟩
  · have hbefore : n < s.untilBoundary := by simp only [State.untilBoundary]; omega
    exact State.passTime_quiet n s hbefore (State.stuckWithin_of_noStuck hquiet (Nat.min_le_left _ _))
  · obtain ⟨hlen, -⟩ := hlaw
    exact State.passTime_boundary (by omega) hb hquiet m
  · obtain ⟨hlen, -⟩ := hlaw
    have hbound : k ≤ s.untilBoundary := by simp only [State.untilBoundary]; omega
    exact State.passTime_stuck (by omega) hoff
      (State.stuckWithin_of_stuck hsup hbusy hbound (Nat.le_add_right k m) hheld)
  · rw [State.elapse_engine]
  · have hactive : s.activeTime n = n := by simp [State.activeTime, hhear]
    have hpos := s.master.rate.charMicros_pos
    have hquiet : (s.elapse n).engine.quiet = 0 := by
      rw [State.elapse_engine, hactive]
      exact (if_neg (by omega)).trans (Nat.sub_self n)
    refine ⟨hquiet, ?_⟩
    rw [State.elapse_engine, hquiet]
    simp [show s.master.rate.charMicros ≠ 0 by omega]
  · have hactive : s.activeTime n = min n d := by
      have hleft : s.engine.drivenUntil - s.time.clock = d := by omega
      simp [State.activeTime, hhear, hleft]
    have hquiet : (s.elapse n).engine.quiet = n - d := by
      rw [State.elapse_engine, hactive]
      exact (if_neg (by omega)).trans (by omega)
    refine ⟨hquiet, ?_⟩
    rw [State.elapse_engine, hquiet]
  · have hactive : s.activeTime n = 0 := by simp [State.activeTime, hhear, Nat.sub_eq_zero_of_le hdriven]
    have hquiet : (s.elapse n).engine.quiet = s.engine.quiet + n := by
      rw [State.elapse_engine, hactive]
      rfl
    refine ⟨hquiet, ?_⟩
    rw [State.elapse_engine, hquiet]

end Sys2Proof.Machine
end

section
/-! SUPPORT. A partner beacon heard outside LEADING: O32. -/

namespace Sys2Proof.Machine

open Sys2Proof.Safety

/-! ## Reading a well-formed beacon (R79, R192) -/

theorem heardBytes_map_some (bs : List Byte) : heardBytes (bs.map some) = some bs := by
  induction bs with
  | nil => rfl
  | cons b bs ih => simp [heardBytes, ih]

/-- The cycle number is read from the low 12 bits, the top 4 disregarded. -/
theorem readBeacon_wellFormed (id : UnitId) (hi lo : Byte) :
    readBeacon ((beaconType :: id.code :: hi :: lo :: crcBytes [id.code, hi, lo]).map some) =
      some (id, (hi ++ lo).setWidth 12) := by
  rw [readBeacon, heardBytes_map_some]
  cases id <;> simp [UnitId.code, crcBytes, u16]

/-! ## What the mastership unit does with it (R111, R116, R123) -/

section
variable {s : State} {id : UnitId} (c : Cycle) (hid : id ≠ s.master.unit)
include hid

theorem State.beaconHeard_following (hst : s.master.state = .following) :
    s.beaconHeard id c = State.realign c { s with master := { s.master with
      lastPartner := some id, silenceCount := 0, silenceLimit := s.master.timeout } } := by
  rw [State.beaconHeard, if_neg hid]
  simp only [hst]
  rfl

/-- A listener follows: the four steps of R106, the realignment, then the waiting LINK_UP is answered (R111, R112). -/
theorem State.beaconHeard_listening (hst : s.master.state = .listening) :
    s.beaconHeard id c = (State.realign c (State.changeMastership .following .linkUpFollow { s with master := { s.master with
      lastPartner := some id, silenceCount := 0, silenceLimit := s.master.timeout, listenCount := none } })).settleListen
        [0x00, 0x03, 0x03, id.code] := by
  have hdone : (s.follow id c .linkUpFollow).linkUpDone = [0x00, 0x03, 0x03, id.code] := by
    rw [State.linkUpDone, State.follow, State.realign_master, State.changeMastership_master]
    rfl
  have hheard : s.beaconHeard id c = (s.follow id c .linkUpFollow).settleListen (s.follow id c .linkUpFollow).linkUpDone := by
    rw [State.beaconHeard, if_neg hid]
    simp only [hst]
  rw [hheard, hdone]
  rfl

theorem State.beaconHeard_inactive (hst : s.master.state = .offline ∨ s.master.state = .faulted) :
    s.beaconHeard id c = { s with master := { s.master with lastPartner := some id } } := by
  rw [State.beaconHeard, if_neg hid]
  rcases hst with hst | hst <;> simp only [hst] <;> rfl

end

/-- A part that drives no line and has nothing to lose changes its mastership without a reply (R106). -/
theorem State.changeMastership_following_port {s : State} (h : s.master.state ≠ .leading) (cause : Cause) :
    (s.changeMastership .following cause).port = s.port := by
  rw [State.changeMastership_eq, State.planFollows_port, State.leaveLeading, if_neg h]
  rfl

theorem State.settleListen_port (b : Body) (s : State) : (s.settleListen b).port =
    match s.master.listenRequest with
    | some (some tag) => s.port.makeReady tag b
    | some none | none => s.port := by
  unfold State.settleListen
  cases s.master.listenRequest with
  | none => rfl
  | some w => cases w <;> rfl

/-- Settles O32: the beacon reaches the mastership unit, where the state decides. -/
theorem partnerBeaconHeard : Obligations.PartnerBeaconHeard := by
  refine ⟨readBeacon_wellFormed, ?_⟩
  intro after times errs row id c s v u hrow hspan hread hrun hhear hv hquiet hu hid _
  refine ⟨_, exec_beaconReceived hrow hspan hread hrun hhear hv hquiet hu, fun hst => ?_, fun hst => ?_, fun hst => ?_⟩
  · rw [State.beaconHeard_following c hid hst]
    refine ⟨rfl, State.realign_master _ _, State.realign_port _ _, ?_⟩
    rw [State.realign_time]
    rfl
  · rw [State.beaconHeard_listening c hid hst]
    refine ⟨rfl, ?_, ?_, ?_⟩
    · rw [State.settleListen_master, State.realign_master, State.changeMastership_master]
    · rw [State.settleListen_port, State.realign_master, State.realign_port, State.changeMastership_master,
        State.changeMastership_following_port (by simp [hst])] <;> rfl
    · rw [State.settleListen_time, State.realign_time, State.beaconMicros, State.chars, State.changeMastership_master,
        State.changeMastership_time]
  · exact State.beaconHeard_inactive c hid hst

end Sys2Proof.Machine
end

section
/-! SUPPORT. A transaction that waits in its phase, and the frames of the part: O55. -/

namespace Sys2Proof.Machine

open Sys2Proof.Safety

/-! ## A running part, and a transaction in its phase -/

theorem whenRunning_of_running {f : State → State} {s : State} (h : s.inReset = false) : whenRunning f s = .next (f s) := by
  rw [whenRunning, h]
  rfl

theorem State.atPhase_of {ph : Phase} {b : Bool} {tx : Transaction} {s : State} (hlead : s.master.state = .leading)
    (ht : s.engine.transaction = some tx) (hph : tx.phase = ph) (hb : tx.begun = b) : s.atPhase ph b = some tx := by
  simp [State.atPhase, hlead, ht, hph, hb]

theorem State.atPhase_noTransaction {s : State} (h : s.engine.transaction = none) (ph : Phase) (b : Bool) :
    s.atPhase ph b = none := by
  simp [State.atPhase, h]

section
variable {ph : Phase} {b : Bool} {tx : Transaction} {wait : State → State} {act : Transaction → State → State} {s : State}

/-- A transaction in the phase, which still stands there after the wait, acts. -/
theorem State.whenPhase_acts {tx' : Transaction} (h : s.atPhase ph b = some tx') (ht : (wait s).atPhase ph b = some tx) :
    s.whenPhase ph b wait act = act tx (wait s) := by
  simp [State.whenPhase, h, ht]

/-- A transaction that has left the phase during the wait does nothing. -/
theorem State.whenPhase_left {tx' : Transaction} (h : s.atPhase ph b = some tx') (ht : (wait s).atPhase ph b = none) :
    s.whenPhase ph b wait act = wait s := by
  simp [State.whenPhase, h, ht]

end

/-! ## What the passing of time leaves to a transaction -/

theorem State.passTime_hearing (n : Nat) (s : State) : (s.passTime n).engine.hearing = s.engine.hearing :=
  State.passTime_keeps (·.engine.hearing) State.elapse_hearing (fun s => s.cycleBoundary_lineEased.hearing)
    (fun s => (s.faulted_lineEased _).hearing) n s

/-- A change of mastership of a part that does not lead leaves segment memory. -/
theorem State.changeMastership_memory {s : State} (h : s.master.state ≠ .leading) (new : MastState) (cause : Cause) :
    (s.changeMastership new cause).memory = s.memory := by
  rw [State.changeMastership_eq, State.planFollows_memory, State.streamsFollow_memory, State.leaveLeading, if_neg h]
  rfl

theorem State.masterBoundary_memory (s : State) : s.masterBoundary.memory = s.memory := by
  unfold State.masterBoundary
  split
  next hst =>
    split
    next => rfl
    next =>
      split
      · rw [State.settleListen_memory, State.changeMastership_memory (by simp [hst])]; rfl
      · rfl
  next hst =>
    split
    · rw [State.changeMastership_memory (by simp [hst])]; rfl
    · rfl
  all_goals rfl

theorem State.cycleBoundary_memory (s : State) : s.cycleBoundary.memory = s.memory := by
  rw [State.cycleBoundary, State.masterBoundary_memory]
  simp

/-- A fault either ends the transaction in flight or leaves segment memory. -/
theorem State.faulted_memory (cause : Cause) (s : State) :
    (s.faulted cause).engine.transaction = none ∨ (s.faulted cause).memory = s.memory := by
  by_cases hlead : s.master.state = .leading
  · exact .inl (State.faulted_released (fun hne => absurd hlead hne) cause).1
  · right
    rw [State.faulted_eq, State.settleHandovers_memory, State.settleListen_memory]
    exact State.changeMastership_memory (s := s.setMaster { s.master with listenCount := none }) hlead _ _

/-- While a transaction stays in flight, no time that passes moves a byte of segment memory. -/
theorem State.passTime_memory {n : Nat} {s : State} (h : (s.passTime n).engine.transaction ≠ none) :
    (s.passTime n).memory = s.memory := by
  refine (State.passTime_preserves (P := fun t => t.engine.transaction = none ∨ t.memory = s.memory)
    (fun n t ht => ?_) (fun t ht => ?_) (fun t ht => ?_) n s (.inr rfl)).resolve_left h
  · refine ht.imp (fun hnone => ?_) id
    rw [State.elapse_engine]
    exact hnone
  · exact ht.imp State.cycleBoundary_noTransaction t.cycleBoundary_memory.trans
  · rcases ht with hnone | hmemory
    · left
      rw [State.faulted_eq, State.settleHandovers_engine, State.settleListen_engine]
      exact State.changeMastership_noTransaction (by exact hnone) _ _
    · exact (t.faulted_memory _).imp id fun hkept => hkept.trans hmemory

/-! ## The lengths of the part's frames (R191) -/

theorem headerFrame_length (node port : Nat) (d : Direction) (bit resync : Bool) (len : Nat) :
    (headerFrame node port d bit resync len).length = 6 := rfl

theorem dataFrame_length (bit : Bool) (payload : List Byte) : (dataFrame bit payload).length = 5 + payload.length := by
  simp only [dataFrame, dataControl, crcBytes, u16, List.length_append, List.length_cons, List.length_nil]
  omega

/-! ## A frame begins and ends (R78, R82, R83, R86, R90) -/

section
variable {ph : Phase} {tx : Transaction} {chars : Transaction → State → List Byte} {note : Transaction → State → Transaction}
  {s u : State} (hlead : s.master.state = .leading) (ht : s.engine.transaction = some tx) (hph : tx.phase = ph)
include hlead ht hph

/-- The frame of the phase begins at the first moment at which the line has been idle for 2 characters. -/
theorem State.sendAtPhase_begins (hb : tx.begun = false) (hhear : s.engine.hearing = false)
    (hu : u = s.passTime s.untilIdle) (ht' : u.engine.transaction = some tx) (hlead' : u.master.state = .leading) :
    s.sendAtPhase ph chars note = u.setEngine { u.engine with
      quiet := 0, drivenUntil := u.time.clock + (chars (note tx u) u).length * s.master.rate.charMicros
      ltxd := chars (note tx u) u, transaction := some { note tx u with begun := true } } := by
  subst hu
  have hact := State.whenPhase_acts (wait := State.waitIdle)
    (act := fun tx s => (s.beginFrame (chars (note tx s) s)).setTransaction { note tx s with begun := true })
    (State.atPhase_of hlead ht hph hb) (State.atPhase_of hlead' ht' hph hb)
  rw [← State.passTime_rate s.untilIdle s, State.sendAtPhase, hhear]
  exact hact

/-- A transaction that the wait has ended sends nothing. -/
theorem State.sendAtPhase_ended (hb : tx.begun = false) (hhear : s.engine.hearing = false)
    (hu : u = s.passTime s.untilIdle) (ht' : u.engine.transaction = none) : s.sendAtPhase ph chars note = u := by
  subst hu
  have hleft := State.whenPhase_left (wait := State.waitIdle)
    (act := fun tx s => (s.beginFrame (chars (note tx s) s)).setTransaction { note tx s with begun := true })
    (State.atPhase_of hlead ht hph hb) (State.atPhase_noTransaction ht' ph false)
  rw [State.sendAtPhase, hhear]
  exact hleft

/-- The last character of the frame of the phase has been sent. -/
theorem State.sentAtPhase_acts {act : Transaction → State → State} (hb : tx.begun = true)
    (hu : u = s.passTime (s.engine.drivenUntil - s.time.clock)) (ht' : u.engine.transaction = some tx)
    (hlead' : u.master.state = .leading) : s.sentAtPhase ph act = act tx u := by
  subst hu
  exact State.whenPhase_acts (wait := fun s => s.waitUntil s.engine.drivenUntil) (State.atPhase_of hlead ht hph hb)
    (State.atPhase_of hlead' ht' hph hb)

end

/-- The wait of R78 is no longer than it must be. -/
theorem State.elapse_before_idle {m : Nat} {s : State} (hhear : s.engine.hearing = false) (hm : m < s.untilIdle) :
    (s.elapse m).engine.quiet < 2 * s.master.rate.charMicros ∨ (s.elapse m).ldrv = true := by
  have hclock : (s.elapse m).time.clock = s.time.clock + m := rfl
  rw [State.ldrv, decide_eq_true_eq, State.elapse_quiet hhear, State.elapse_drivenUntil, hclock]
  simp only [State.untilIdle, State.chars, Config.idleGap] at hm
  split at hm <;> split <;> omega

/-- Deciding the outcome of the transaction in flight. -/
theorem State.decideOutcome_of {tx : Transaction} {s : State} (ht : s.engine.transaction = some tx) (o : Outcome) (ph : Phase) :
    s.decideOutcome o ph = s.setEngine { s.engine with
      transaction := some { tx with decided := some o, phase := ph, begun := false } } := by
  rw [State.decideOutcome, ht]
  rfl

/-- The bit that a received data frame carried decides whether it is new (R88). -/
theorem Transaction.isNew_received {tx : Transaction} {bit : Bool} {n : Nat} (hd : tx.direction = .inbound)
    (hr : tx.received = some (bit, n)) : tx.isNew = Decidable.decide (tx.resync = true ∨ bit = tx.bitSent) := by
  have hbit : tx.carried = bit := by simp [Transaction.carried, hd, hr]
  rw [Transaction.isNew, hbit]
  cases tx.resync <;> simp [Bool.beq_eq_decide_eq]

/-- Settles O55: the wait for an idle line, then the frame of the phase; the wait for its last character, then the phase that
follows. -/
theorem framesGoOut : Obligations.FramesGoOut := by
  refine ⟨fun s hhear => ⟨State.waitIdle_idle hhear, fun m => State.elapse_before_idle hhear⟩, ?_, ?_⟩
  · intro tx s u hrun hlead ht hb hhear hu
    refine ⟨fun ⟨hph, ht', hlead'⟩ => ?_, fun ⟨hph, ht', hlead'⟩ => ?_, fun ⟨hph, ht', hlead'⟩ => ?_,
      fun ht' => ⟨fun hph => ?_, fun hph => ?_, fun hph => ?_⟩⟩
    · refine (whenRunning_of_running hrun).trans (congrArg _ ?_)
      exact State.sendAtPhase_begins hlead ht hph hb hhear hu ht' hlead'
    · refine (whenRunning_of_running hrun).trans (congrArg _ ?_)
      have hmemory : u.memory = s.memory := by
        rw [hu]
        exact State.passTime_memory (by rw [← hu, ht']; exact Option.some_ne_none tx)
      have hchain : u.chain tx.stream = s.chain tx.stream := by rw [State.chain, hmemory]; rfl
      have hlength : (tx.dataOut u).length = 5 + min tx.size (s.chain tx.stream).bytes.length := by
        rw [Transaction.dataOut, dataFrame_length, List.length_take, hchain]
      rw [← hlength, ← hchain]
      exact State.sendAtPhase_begins hlead ht hph hb hhear hu ht' hlead'
    · refine (whenRunning_of_running hrun).trans (congrArg _ ?_)
      exact State.sendAtPhase_begins hlead ht hph hb hhear hu ht' hlead'
    all_goals
      refine (whenRunning_of_running hrun).trans (congrArg _ ?_)
      exact State.sendAtPhase_ended hlead ht hph hb hhear hu ht'
  · intro tx s u hrun hlead ht hb hu ht' hlead' hdriven
    refine ⟨fun hph => ?_, fun hph => ?_, fun hph bit n hd hr => ?_⟩
    · refine (whenRunning_of_running hrun).trans (congrArg _ ?_)
      refine (State.sentAtPhase_acts hlead ht hph hb hu ht' hlead').trans ?_
      have hafter : tx.direction.afterHeader = if tx.direction = .outbound then .dataOut else .replyWindow := by
        cases tx.direction <;> rfl
      rw [← hdriven, ← hafter]
      rfl
    · refine (whenRunning_of_running hrun).trans (congrArg _ ?_)
      refine (State.sentAtPhase_acts hlead ht hph hb hu ht' hlead').trans ?_
      rw [← hdriven]
      rfl
    · refine (whenRunning_of_running hrun).trans (congrArg _ ?_)
      refine (State.sentAtPhase_acts hlead ht hph hb hu ht' hlead').trans ?_
      rw [State.decideOutcome_of ht', Transaction.isNew_received hd hr]
      simp only [decide_eq_true_eq]

end Sys2Proof.Machine
end

section
/-! SUPPORT. The character times of a row, and the frames that they make up: O56, O57, O60. -/

namespace Sys2Proof.Machine

open Sys2Proof.Safety

/-! ## Characters among the character times (R77) -/

theorem heardChars_append (f g : List LinkTime) : heardChars (f ++ g) = heardChars f ++ heardChars g :=
  List.filterMap_append

/-- A stretch that ends with a character has one. -/
theorem heardChars_ne_nil {f : List LinkTime} (hf : f ≠ []) (hlast : f.getLast? ≠ some none) : heardChars f ≠ [] := by
  intro hnil
  obtain ⟨t, ht⟩ := Option.ne_none_iff_exists'.mp (mt List.getLast?_eq_none_iff.mp hf)
  have hnone : t = none := List.filterMap_eq_nil_iff.mp hnil t (List.mem_of_getLast? ht)
  exact hlast (by rw [ht, hnone])

/-- The characters of a stretch that ends with one take its character times, whatever comes behind it. -/
theorem charSpan_append {f : List LinkTime} (hlast : f.getLast? ≠ some none) (g : List LinkTime) :
    charSpan (heardChars f).length (f ++ g) = f.length := by
  induction f with
  | nil => simp [heardChars, charSpan]
  | cons t ts ih =>
    have hts : ts.getLast? ≠ some none := by
      cases ts with
      | nil => simp
      | cons t' ts' => rwa [List.getLast?_cons_cons] at hlast
    cases t with
    | some c => exact congrArg (· + 1) (ih hts)
    | none =>
      have hne : ts ≠ [] := by
        rintro rfl
        exact hlast rfl
      obtain ⟨k, hk⟩ := Nat.exists_eq_succ_of_ne_zero (mt List.length_eq_zero_iff.mp (heardChars_ne_nil hne hts))
      have hsame : heardChars (none :: ts) = heardChars ts := rfl
      have hspan := ih hts
      rw [hk] at hspan
      rw [hsame, hk, List.cons_append, charSpan, hspan, List.length_cons]

/-- Fewer characters than asked for: all of the character times. -/
theorem charSpan_of_fewer {k : Nat} {times : List LinkTime} (h : (heardChars times).length < k) :
    charSpan k times = times.length := by
  fun_induction charSpan k times with
  | case1 => omega
  | case2 => rfl
  | case3 k ts ih => exact congrArg (· + 1) (ih h)
  | case4 k c ts ih => exact congrArg (· + 1) (ih (Nat.lt_of_succ_lt_succ h))

/-- Characters that take all of the character times are all there are. -/
theorem heardChars_length_le {k : Nat} {times : List LinkTime} (h : charSpan k times = times.length) :
    (heardChars times).length ≤ k := by
  fun_induction charSpan k times with
  | case1 times => rw [List.length_eq_zero_iff.mp h.symm]; exact Nat.le_refl 0
  | case2 => exact Nat.zero_le _
  | case3 k ts ih => exact ih (Nat.succ.inj h)
  | case4 k c ts ih => exact Nat.succ_le_succ (ih (Nat.succ.inj h))

/-! ## The length of a frame (R79, R191) -/

/-- A data frame's length is known when its control characters are. -/
theorem frameLength_data (c1 c2 : LinkChar) (rest : List LinkChar) :
    frameLength (some dataType :: c1 :: c2 :: rest) = (controlOf c1 c2).map fun c => 5 + (readControl c.1 c.2).2 := by
  cases c1 <;> cases c2 <;> rfl

/-- A frame's length is read off its first characters. -/
theorem frameLength_append {chars : List LinkChar} {n : Nat} (h : frameLength chars = some n) (g : List LinkChar) :
    frameLength (chars ++ g) = some n := by
  unfold frameLength at h
  split at h
  next t rest =>
    simp only [frameLength, List.cons_append]
    split at h
    next ht => rw [if_pos ht]; exact h
    next ht =>
      rw [if_neg ht]
      split at h
      next ha => rw [if_pos ha]; exact h
      next ha =>
        rw [if_neg ha]
        split at h
        next hd =>
          rw [if_pos hd]
          split at h
          next => exact h
          next => cases h
        next => cases h
  next => cases h

theorem frameLength_pos {chars : List LinkChar} {n : Nat} (h : frameLength chars = some n) : 0 < n := by
  unfold frameLength at h
  (repeat' split at h) <;> simp at h <;> omega

/-! ## The extent of the first frame of a row (R79) -/

section
variable {row : List LinkTime} (hhead : row.head? ≠ some none)
include hhead

theorem rowSpan_of_known {n : Nat} (hn : frameLength (heardChars row) = some n) : rowSpan row = charSpan n row := by
  unfold rowSpan
  split
  next => exact absurd rfl hhead
  next => rw [hn]

theorem rowSpan_of_unknown (hn : frameLength (heardChars row) = none) : rowSpan row = row.length := by
  unfold rowSpan
  split
  next => exact absurd rfl hhead
  next => rw [hn]

end

/-! ## The reply window (R84) -/

section
variable {s : State}

theorem State.closeWindow_of_none (h : s.atPhase .replyWindow false = none) : s.closeWindow = s := by
  rw [State.closeWindow, h]

/-- A window that has not closed is left open. -/
theorem State.closeWindow_of_open (h : ∀ tx, s.engine.transaction = some tx → tx.phase = .replyWindow →
    s.time.clock ≤ tx.windowFrom + 4 * s.master.rate.charMicros) : s.closeWindow = s := by
  unfold State.closeWindow
  split
  next => rfl
  next tx htx =>
    have hopen := h tx (State.atPhase_some htx).2 (State.atPhase_phase htx)
    exact if_neg (Nat.not_lt.mpr hopen)

theorem State.lineIdle_iff : s.lineIdle = true ↔
    s.engine.hearing = false ∧ s.ldrv = false ∧ 2 * s.master.rate.charMicros ≤ s.engine.quiet := by
  rw [State.lineIdle, Bool.and_eq_true, Bool.and_eq_true, Bool.not_eq_true', Bool.not_eq_true', decide_eq_true_eq, and_assoc]
  rfl

variable {tx : Transaction} (ht : s.engine.transaction = some tx) (hb : tx.begun = false)
include ht hb

/-- The window of a transaction closes without a reply on a line that is not idle: SILENT. -/
theorem State.silentReply_of_busy (hline : s.lineIdle = false) : s.silentReply = s.setEngine { s.engine with
    transaction := some { tx with phase := .closing, decided := some .silent } } := by
  have hdecided := State.decideOutcome_of ht .silent .closing
  rw [← hb] at hdecided
  rw [State.silentReply, hdecided]
  exact if_neg (Bool.eq_false_iff.mp hline)

/-- On an idle line the transaction ends at once (R92). -/
theorem State.silentReply_of_idle (hline : s.lineIdle = true) : s.silentReply =
    (s.applyOutcome { tx with phase := .closing, decided := some .silent } .silent).planContinues := by
  have hdecided := State.decideOutcome_of ht .silent .closing
  rw [← hb] at hdecided
  rw [State.silentReply, hdecided]
  exact if_pos hline

end

/-! ## Frames that are no whole data frame (R79, R80) -/

theorem State.passBusy_rate (n : Nat) (s : State) : (s.passBusy n).master.rate = s.master.rate :=
  (s.setHearing true).passTime_rate n

/-- The end of a frame: a truncated or unrecognised one waits for 2 idle characters. -/
theorem State.frameStops_eq (whole : Bool) (s : State) :
    s.frameStops whole = if whole then s else s.passTime (2 * s.master.rate.charMicros) := rfl

section
variable {s : State} {micros : Nat} {chars : List LinkChar}

theorem State.hearShort_deaf (h : s.ldrv = true) :
    s.hearShort micros chars = (s.passBusy micros).frameStops (frameWhole chars) := by
  rw [State.hearShort, h]
  rfl

theorem State.hearShort_taken (h : s.ldrv = false) :
    s.hearShort micros chars = ((s.passBusy micros).frameStops (frameWhole chars)).takeFrame chars := by
  rw [State.hearShort, h]
  rfl

theorem State.takeFrame_in_window {tx : Transaction} (h : readBeacon chars = none) (ht : s.atPhase .replyWindow false = some tx) :
    s.takeFrame chars = s.setTransaction (if cutData chars then tx.readCut else tx.readReply chars) := by
  simp only [State.takeFrame, h, ht]

theorem State.takeFrame_by_nobody (h : readBeacon chars = none) (ht : s.atPhase .replyWindow false = none) :
    s.takeFrame chars = s := by
  simp only [State.takeFrame, h, ht]

end

/-- A frame that is no data frame, or one that ends before its control characters, is heard as a short one. -/
theorem State.hearChars_short {row : List LinkTime}
    (h : (heardChars row).head? ≠ some (some dataType) ∨ (heardChars row).length < 3) (s : State) :
    s.hearChars row = s.hearShort (s.chars row.length) (heardChars row) := by
  unfold State.hearChars
  split
  next t c1 c2 rest hchars =>
    rw [hchars] at h ⊢
    have ht : t ≠ some dataType := by
      rcases h with hhead | hlength
      · exact fun ht => hhead (by rw [ht]; rfl)
      · simp only [List.length_cons] at hlength
        omega
    rw [if_neg ht]
  next => rfl

theorem State.hearFrame_of_char {row : List LinkTime} (h : row.head? ≠ some none) (s : State) :
    s.hearFrame row = s.closeWindow.hearChars row := if_neg h

/-- A row that is one frame. -/
theorem State.hearAll_single {row : List LinkTime} (hne : row ≠ []) (hspan : rowSpan row = row.length) (s : State) :
    s.hearAll row = s.hearFrame row := by
  rw [State.hearAll, framesOf_eq_singleton hne hspan]
  rfl

/-! ## Data frames (R79, R87, R89) -/

section
variable {v : State} {micros : Nat} {control : Option (Byte × Byte)}

/-- The control characters reach the transaction that waits for a reply. -/
theorem State.dataBegins_in_window {tx : Transaction} (hline : v.ldrv = false)
    (ht : (v.passBusy micros).atPhase .replyWindow false = some tx) : v.dataBegins micros control =
      (v.passBusy micros).setEngine { (v.passBusy micros).engine with
        hearing := true, control := control, transaction := some (tx.readControl control) } := by
  have hheard : ((v.passBusy micros).setEngine { (v.passBusy micros).engine with
      hearing := true, control := control }).atPhase .replyWindow false = some tx := ht
  simp only [State.dataBegins, hline, hheard]
  rfl

/-- Nobody waits for them, or the part drives the line: they hold the line and no more. -/
theorem State.dataBegins_unheard (h : v.ldrv = true ∨ (v.passBusy micros).atPhase .replyWindow false = none) :
    v.dataBegins micros control = (v.passBusy micros).setEngine { (v.passBusy micros).engine with
      hearing := true, control := control } := by
  simp only [State.dataBegins]
  split
  next tx hline ht =>
    rcases h with hdriven | hnone
    · rw [hdriven] at hline; cases hline
    · exact absurd (Eq.trans (by exact ht.symm) hnone) (Option.some_ne_none tx)
  next => rfl

theorem State.dataBegins_control : (v.dataBegins micros control).engine.control = control := by
  simp only [State.dataBegins]
  split <;> rfl

theorem Transaction.readControl_phase (control : Option (Byte × Byte)) (tx : Transaction) :
    (tx.readControl control).phase ≠ .replyWindow := by
  simp only [Transaction.readControl]
  split
  · simp
  · simp
  · split <;> simp

/-- Behind the control characters no transaction waits for a reply any longer. -/
theorem State.dataBegins_noWindow (hline : v.ldrv = false) :
    (v.dataBegins micros control).atPhase .replyWindow false = none := by
  cases ht : (v.passBusy micros).atPhase .replyWindow false with
  | none =>
    rw [State.dataBegins_unheard (.inr ht)]
    exact ht
  | some tx =>
    rw [State.dataBegins_in_window hline ht]
    have hphase := tx.readControl_phase control
    simp [State.atPhase, hphase]

end

/-- A frame of a row that reaches its control characters is a data frame. -/
theorem State.hearChars_data {row : List LinkTime} {c1 c2 : LinkChar} {rest : List LinkChar}
    (h : heardChars row = some dataType :: c1 :: c2 :: rest) (s : State) :
    s.hearChars row = (s.dataBegins (s.chars (charSpan 3 row)) (controlOf c1 c2)).dataEnds
      (s.chars (row.length - charSpan 3 row)) rest := by
  unfold State.hearChars
  rw [h]
  rfl

/-- A data frame in one row, which is the whole of it, has no characters beyond its length. -/
theorem dataSpan_of_rowSpan {row : List LinkTime} {c1 c2 : LinkChar} {rest : List LinkChar} (hhead : row.head? ≠ some none)
    (hchars : heardChars row = some dataType :: c1 :: c2 :: rest) (hspan : rowSpan row = row.length) {e : LinkEngine}
    (he : e.control = controlOf c1 c2) : e.dataSpan rest = rest.length := by
  rw [LinkEngine.dataSpan, he]
  cases hcontrol : controlOf c1 c2 with
  | none => rfl
  | some c =>
    have hlength : frameLength (heardChars row) = some (5 + (readControl c.1 c.2).2) := by
      rw [hchars, frameLength_data, hcontrol]
      rfl
    have hall := heardChars_length_le ((rowSpan_of_known hhead hlength).symm.trans hspan)
    rw [hchars] at hall
    simp only [List.length_cons] at hall
    exact Nat.min_eq_right (by omega)

/-- A data frame in one row is read as the rows of its control characters and of its end read it. -/
theorem State.hearChars_as_rows {row : List LinkTime} {c1 c2 : LinkChar} {rest : List LinkChar} {v : State}
    (hline : v.ldrv = false) (hhead : row.head? ≠ some none) (hchars : heardChars row = some dataType :: c1 :: c2 :: rest)
    (hspan : rowSpan row = row.length) :
    v.hearChars row = (v.dataBegins (v.chars (charSpan 3 row)) (controlOf c1 c2)).dataFrameEnd
      (v.chars (row.length - charSpan 3 row)) rest := by
  rw [State.hearChars_data hchars, State.dataFrameEnd, State.closeWindow_of_none (State.dataBegins_noWindow hline),
    dataSpan_of_rowSpan hhead hchars hspan State.dataBegins_control, List.take_length, List.drop_length]
  rfl

end Sys2Proof.Machine
end

section
/-! SUPPORT. The reply of a node decides the transaction: O56. -/

namespace Sys2Proof.Machine

open Sys2Proof.Safety

/-! ## The three answers (R79, R191) -/

/-- The three characters of an answer. -/
def AnswerCode.chars (a : AnswerCode) : List LinkChar := [some answerType, some a.code, some (~~~ a.code)]

theorem readAnswer_iff (chars : List LinkChar) (a : AnswerCode) : readAnswer chars = some a ↔ chars = a.chars := by
  constructor
  · intro h
    unfold readAnswer at h
    split at h
    next t code comp hheard =>
      rw [eq_map_some_of_heardBytes hheard]
      split at h
      next => cases h
      next hgood =>
        obtain ⟨rfl, rfl⟩ : t = answerType ∧ comp = ~~~ code := by simpa using hgood
        (repeat' split at h) <;> cases h <;> subst code <;> rfl
    next => cases h
  · rintro rfl
    cases a <;> rfl

/-- What each answer, or a frame of another kind, decides (R85, R91). -/
theorem Transaction.readReply_eq {chars : List LinkChar} {tx : Transaction} {o : Outcome}
    (ho : if chars = [some 0x1E, some 0x59, some 0xA6] then o = (if tx.direction = .outbound then .accepted else .form)
      else if chars = [some 0x1E, some 0x6A, some 0x95] then o = .wait
      else if chars = [some 0x1E, some 0x93, some 0x6C] then o = .reject
      else o = .form) : tx.readReply chars = tx.decide o := by
  split at ho
  next htaken =>
    rw [ho, Transaction.readReply, (readAnswer_iff chars .taken).mpr htaken]
    cases hd : tx.direction <;> rfl
  next htaken =>
    split at ho
    next hwait => rw [ho, Transaction.readReply, (readAnswer_iff chars .wait).mpr hwait]
    next hwait =>
      split at ho
      next hreject => rw [ho, Transaction.readReply, (readAnswer_iff chars .reject).mpr hreject]
      next hreject =>
        have hnone : readAnswer chars = none := by
          refine Option.eq_none_iff_forall_ne_some.mpr fun a ha => ?_
          have hchars := (readAnswer_iff _ _).mp ha
          cases a with
          | taken => exact htaken hchars
          | wait => exact hwait hchars
          | reject => exact hreject hchars
        rw [ho, Transaction.readReply, hnone]

/-! ## The rows (R84, R85) -/

section
variable {after : Nat} {s : State} (hrun : s.inReset = false) (hhear : s.engine.hearing = false)
include hrun hhear

/-- A row of one frame, heard by a part that hears no data frame. -/
theorem exec_nodeAnswerReceived {times : List (Option Byte)} {errs : List Nat} {row : List LinkTime}
    (hrow : row = linkTimes times errs) (hne : heardChars row ≠ []) (hspan : rowSpan row = row.length) :
    exec (.nodeAnswerReceived after times errs) s = .next ((s.passTime after).closeWindow.hearChars row) := by
  have hrowne : row ≠ [] := by
    rintro rfl
    exact hne rfl
  refine (whenRunning_of_running hrun).trans (congrArg _ ?_)
  rw [← hrow, State.frameHeard, hhear]
  exact (State.hearAll_single hrowne hspan _).trans (State.hearFrame_of_char (head?_ne_level hspan hne) _)

theorem exec_dataLengthRead (c1 c2 : Byte) (err : Bool) : exec (.dataLengthRead after c1 c2 err) s =
    .next (State.dataBegins (3 * s.master.rate.charMicros) (if err then none else some (c1, c2))
      (s.passTime after).closeWindow) := by
  refine (whenRunning_of_running hrun).trans (congrArg _ ?_)
  rw [State.lengthRead, hhear]
  rfl

end

/-- The transaction stands in the window to its end: nothing has come. -/
theorem State.windowExpiry_eq {tx : Transaction} {s u : State} (hlead : s.master.state = .leading)
    (ht : s.engine.transaction = some tx) (hph : tx.phase = .replyWindow) (hb : tx.begun = false)
    (hhear : s.engine.hearing = false) (hu : u = s.passTime (tx.windowFrom + 4 * s.master.rate.charMicros - s.time.clock))
    (ht' : u.engine.transaction = some tx) (hlead' : u.master.state = .leading) : s.windowExpiry = u.silentReply := by
  have hwait : s.waitWindow = u := by
    rw [State.waitWindow, State.atPhase_of hlead ht hph hb, hu]
    rfl
  rw [← hwait] at ht' hlead' ⊢
  rw [State.windowExpiry, hhear]
  exact State.whenPhase_acts (act := fun _ s => s.silentReply) (State.atPhase_of hlead ht hph hb)
    (State.atPhase_of hlead' ht' hph hb)

/-- Settles O56: a short frame at its end, a data frame by its two rows, and the end of the window. -/
theorem replyDecides : Obligations.ReplyDecides := by
  refine ⟨?_, ?_, fun after c1 c2 err s hrun hhear => exec_dataLengthRead hrun hhear c1 c2 err, ?_, ?_⟩
  · intro after times errs row chars tx s v w u hrun hrow hchars hhear hv hlead ht hph hb hopen hline hne hdata hspan hbeacon
      hw hu ht' hlead' o ho
    have hrate : v.master.rate = s.master.rate := by rw [hv, State.passTime_rate]
    have hclose : v.closeWindow = v := by
      refine State.closeWindow_of_open fun tx' htx' _ => ?_
      obtain rfl := Option.some.inj (htx'.symm.trans ht)
      rw [hrate]
      exact hopen
    have hend : (v.passBusy (v.chars row.length)).frameStops (frameWhole chars) = u := by
      rw [State.frameStops_eq, State.passBusy_rate, State.chars, hrate, ← hw, hu]
    have hcut : cutData chars = false := by
      rw [cutData, beq_eq_false_iff_ne]
      exact hdata
    subst hchars
    rw [exec_nodeAnswerReceived hrun hhear hrow hne hspan, ← hv, hclose, State.hearChars_short (.inl hdata),
      State.hearShort_taken hline, hend, State.takeFrame_in_window hbeacon (State.atPhase_of hlead' ht' hph hb), hcut,
      Transaction.readReply_eq ho]
    rfl
  · intro after c1 c2 tail rest errs places err row s v t hrun hhear hv hline hrow hfirst herr hrest hspan hbegun
    have hread : ∃ k1 k2 : LinkChar, heardChars row = some dataType :: k1 :: k2 :: linkChars rest places ∧
        controlOf k1 k2 = if err then none else some (c1, c2) := by
      refine ⟨if 1 ∈ errs then none else some c1, if 2 ∈ errs then none else some c2, ?_, ?_⟩
      · rw [hrest, hrow]
        simp [linkTimes, heardChars, hfirst, List.zipIdx_cons]
        rfl
      · rw [herr]
        by_cases h1 : 1 ∈ errs <;> by_cases h2 : 2 ∈ errs <;> simp [h1, h2, controlOf]
    obtain ⟨k1, k2, hchars, hcontrol⟩ := hread
    have hbegin : charSpan 3 row = 3 := by
      rw [hrow]
      simp [linkTimes, List.zipIdx_cons, charSpan]
    have hlength : row.length - 3 = tail.length := by
      rw [hrow, linkTimes_length]
      rfl
    have hne : heardChars row ≠ [] := by rw [hchars]; exact List.cons_ne_nil _ _
    have hrate : v.master.rate = s.master.rate := by rw [hv, State.closeWindow_master, State.passTime_rate]
    rw [exec_dataLengthRead hrun hhear, ← hv] at hbegun
    obtain rfl := Host.Outcome.next.inj hbegun
    rw [exec_nodeAnswerReceived hrun hhear hrow hne hspan, ← hv,
      State.hearChars_as_rows hline (head?_ne_level hspan hne) hchars hspan, hbegin, hlength, hcontrol]
    refine (Eq.trans ?_ (whenRunning_of_running ?_).symm)
    · simp only [State.chars, hrate]
    · simp [hv, hrun]
  · intro f g c1 c2 rest places control s v t u hrun hv hline hhead hlast hf hcontrol hrest hspan ht hu
    have hchars : heardChars (f ++ g) = some dataType :: c1 :: c2 :: linkChars rest places := by
      rw [heardChars_append, hf, hrest]
      rfl
    have hne : heardChars (f ++ g) ≠ [] := by rw [hchars]; exact List.cons_ne_nil _ _
    have hbegin : charSpan 3 (f ++ g) = f.length := by
      have hspan3 := charSpan_append hlast g
      rwa [hf] at hspan3
    have hread : controlOf c1 c2 = control := by
      rw [hcontrol]
      cases c1 <;> cases c2 <;> rfl
    have hrate : v.master.rate = s.master.rate := by rw [hv, State.closeWindow_master]
    have hrunt : t.inReset = false := by simp [ht, hv, hrun]
    have hends : t.dataFrameEnd (g.length * s.master.rate.charMicros) (linkChars rest places) = u :=
      Host.Outcome.next.inj ((whenRunning_of_running hrunt).symm.trans hu)
    rw [State.hearFrame_of_char (head?_ne_level hspan hne), ← hv,
      State.hearChars_as_rows hline (head?_ne_level hspan hne) hchars hspan, hbegin, hread, State.chars, State.chars, hrate,
      ← ht, List.length_append, Nat.add_sub_cancel_left, hends]
  · intro tx s u hrun hlead ht hph hb hhear hu ht' hlead'
    have hexec : exec .replyWindowExpiry s = .next u.silentReply := by
      rw [← State.windowExpiry_eq hlead ht hph hb hhear hu ht' hlead']
      exact whenRunning_of_running hrun
    have hrate : u.master.rate = s.master.rate := by rw [hu, State.passTime_rate]
    have hhear' : u.engine.hearing = false := by rw [hu, State.passTime_hearing, hhear]
    rw [hexec, ← hrate]
    refine ⟨fun hquiet hline => ?_, fun hbusy => ?_⟩
    · rw [State.silentReply_of_idle ht' hb (State.lineIdle_iff.mpr ⟨hhear', hline, hquiet⟩)]
    · have hline : u.lineIdle = false := Bool.eq_false_iff.mpr fun hidle => by
        obtain ⟨-, hline, hquiet⟩ := State.lineIdle_iff.mp hidle
        rcases hbusy with hbusy | hdriven
        · omega
        · rw [hdriven] at hline; cases hline
      rw [State.silentReply_of_busy ht' hb hline]

end Sys2Proof.Machine
end

section
/-! SUPPORT. No rule of the passing of time reads the control characters of the data frame that is being heard: O57, O60. -/

namespace Sys2Proof.Machine

open Sys2Proof.Safety

/-! ## Operations on the other units: whether the link engine is written before or after is the same -/

section
variable (e : LinkEngine) (s : State)

theorem State.offerRefill_setEngine (i : Sid) (r : StreamRecord) :
    (s.offerRefill i r).setEngine e = (s.setEngine e).offerRefill i r := by
  unfold State.offerRefill
  split <;> rfl

theorem State.trigger_setEngine (i : Sid) : (s.trigger i).setEngine e = (s.setEngine e).trigger i := by
  simp only [State.trigger, State.setEngine_stream]
  cases s.stream i with
  | none => rfl
  | some r => exact State.offerRefill_setEngine e _ i r

theorem State.triggerAll_setEngine (test : StreamRecord → Bool) :
    (s.triggerAll test).setEngine e = (s.setEngine e).triggerAll test := by
  refine (List.foldl_hom (State.setEngine e) fun s i => ?_).symm
  rw [State.setEngine_stream]
  split
  · exact (State.trigger_setEngine e s i).symm
  · rfl

theorem State.answerAll_setEngine (tags : List Byte) (b : Body) :
    (tags.foldl (fun s t => s.answer t b) s).setEngine e = tags.foldl (fun s t => s.answer t b) (s.setEngine e) :=
  (List.foldl_hom (State.setEngine e) fun _ _ => rfl).symm

theorem State.resolveStop_setEngine (i : Sid) : (s.resolveStop i).setEngine e = (s.setEngine e).resolveStop i := by
  simp only [State.resolveStop, State.setEngine_stream]
  cases s.stream i with
  | none => rfl
  | some r =>
    dsimp only
    split
    · split
      all_goals exact State.answerAll_setEngine e _ r.stopTags _
    · rfl

theorem State.loseLink_setEngine (i : Sid) : (s.loseLink i).setEngine e = (s.setEngine e).loseLink i := by
  simp only [State.loseLink, State.setEngine_stream]
  cases s.stream i with
  | none => rfl
  | some r =>
    dsimp only
    split
    · exact State.resolveStop_setEngine e _ i
    · exact State.resolveStop_setEngine e _ i
    · exact State.resolveStop_setEngine e _ i
    all_goals rfl

theorem State.loseAll_setEngine : s.loseAll.setEngine e = (s.setEngine e).loseAll := by
  unfold State.loseAll
  exact (List.foldl_hom (State.setEngine e) fun s i => (State.loseLink_setEngine e s i).symm).symm

theorem State.streamsFollow_setEngine (new : MastState) :
    (s.streamsFollow new).setEngine e = (s.setEngine e).streamsFollow new := by
  cases new with
  | offline | faulted => exact State.loseAll_setEngine e s
  | leading | listening | following => rfl

theorem State.returnReservation_setEngine : s.returnReservation.setEngine e = (s.setEngine e).returnReservation := by
  simp only [State.returnReservation, State.setEngine_memory]
  cases s.memory.reservation <;> rfl

theorem State.segmentStored_setEngine (tx : Transaction) :
    (s.segmentStored tx).setEngine e = (s.setEngine e).segmentStored tx := by
  simp only [State.segmentStored, State.setEngine_memory]
  split
  · exact State.returnReservation_setEngine e s
  · cases s.memory.reservation with
    | none => rfl
    | some rv => exact apply_ite (State.setEngine e) _ _ _

theorem State.applyToMemory_setEngine (tx : Transaction) (o : Outcome) :
    (s.applyToMemory tx o).setEngine e = (s.setEngine e).applyToMemory tx o := by
  unfold State.applyToMemory
  split
  · rfl
  · exact State.segmentStored_setEngine e s tx
  · rfl
  · exact State.returnReservation_setEngine e s

theorem State.conclude_setEngine (i : Sid) (r : StreamRecord) (marked : Bool) (check : EndCheck) :
    (s.conclude i r marked check).setEngine e = (s.setEngine e).conclude i r marked check := by
  have hgoOn (r : StreamRecord) : (s.goOn i r marked).setEngine e = (s.setEngine e).goOn i r marked := by
    unfold State.goOn
    split
    · exact State.offerRefill_setEngine e _ i r
    · exact State.offerRefill_setEngine e _ i r
  have hfinish (r : StreamRecord) (c : Condition) : (s.finish i r c).setEngine e = (s.setEngine e).finish i r c := by
    rw [State.finish_eq, State.finish_eq]
    rfl
  cases check with
  | closed | complete | short => exact hfinish _ _
  | closeEmpty | stays => exact hgoOn _

theorem State.applyToStream_setEngine (tx : Transaction) (o : Outcome) :
    (s.applyToStream tx o).setEngine e = (s.setEngine e).applyToStream tx o := by
  have hfailure (k : FailureKind) (r : StreamRecord) :
      (s.applyFailure tx.stream k r).setEngine e = (s.setEngine e).applyFailure tx.stream k r := by
    simp only [State.applyFailure]
    split <;> rfl
  have haccepted (r : StreamRecord) : (s.applyAccepted tx r).setEngine e = (s.setEngine e).applyAccepted tx r := by
    rw [State.applyAccepted_eq, State.applyAccepted_eq, State.conclude_setEngine]
    split <;> rfl
  simp only [State.applyToStream, State.setEngine_stream]
  cases s.stream tx.stream with
  | none => rfl
  | some r =>
    cases o with
    | accepted => exact haccepted r
    | duplicate | wait | reject | overrun | yielded => rfl
    | silent | check | form => exact hfailure _ r

theorem State.joinWaited_setEngine (tx : Transaction) (o : Outcome) :
    (s.joinWaited tx o).setEngine e = (s.setEngine e).joinWaited tx o :=
  apply_ite (State.setEngine e) _ _ _

/-- The outcome of a transaction, whatever the line holds: only the transaction leaves the engine (R92). -/
theorem State.applyOutcome_setEngine (tx : Transaction) (o : Outcome) :
    (s.applyOutcome tx o).setEngine { e with transaction := none } = (s.setEngine e).applyOutcome tx o := by
  simp only [State.applyOutcome, State.resolveStop_setEngine, State.joinWaited_setEngine, State.applyToStream_setEngine,
    State.applyToMemory_setEngine]
  rfl

theorem State.settleListen_setEngine (b : Body) : (s.settleListen b).setEngine e = (s.setEngine e).settleListen b := by
  simp only [State.settleListen, State.setEngine_master]
  cases s.master.listenRequest with
  | none => rfl
  | some w => cases w <;> rfl

theorem State.planBoundary_setEngine : s.planBoundary.setEngine e = (s.setEngine e).planBoundary := by
  have hlate (n : Nat) : (s.noteLate n).setEngine e = (s.setEngine e).noteLate n := by
    simp only [State.noteLate, State.setEngine_plan]
    cases s.plan.record <;> rfl
  have hclose : s.closeRecord.setEngine e = (s.setEngine e).closeRecord := by
    have hunreached : (s.setEngine e).unreached = s.unreached := rfl
    unfold State.closeRecord
    rw [hunreached]
    split
    · rfl
    · exact hlate _
  refine (apply_ite (State.setEngine e) _ _ _).trans ?_
  rw [State.planBoundary, ← hclose]
  rfl

end

/-! ## The control characters in the changes and the passing of time -/

/-- The control characters of the data frame that is being heard become the given ones. -/
def State.setControl (c : Option (Byte × Byte)) (s : State) : State := s.setEngine { s.engine with control := c }

section
variable (c : Option (Byte × Byte)) (s : State)

theorem State.settleTransaction_setControl (new : MastState) :
    (s.settleTransaction new).setControl c = (s.setControl c).settleTransaction new := by
  have happlied (tx : Transaction) (o : Outcome) : (s.applyOutcome tx o).setControl c = (s.setControl c).applyOutcome tx o := by
    rw [State.setControl, State.applyOutcome_engine]
    exact State.applyOutcome_setEngine { s.engine with control := c } s tx o
  have hdropped : s.dropTransaction.setControl c = (s.setControl c).dropTransaction := by
    rw [State.dropTransaction_eq, State.dropTransaction_eq]
    rfl
  have hsame : (s.setControl c).engine.transaction = s.engine.transaction := rfl
  unfold State.settleTransaction
  rw [hsame]
  cases s.engine.transaction with
  | none => rfl
  | some tx =>
    dsimp only
    split
    · exact happlied tx _
    · split
      · exact happlied tx .yielded
      · exact hdropped

theorem State.changeMastership_setControl (new : MastState) (cause : Cause) :
    (s.changeMastership new cause).setControl c = (s.setControl c).changeMastership new cause := by
  have hleave : (s.leaveLeading new).setControl c = (s.setControl c).leaveLeading new := by
    have hsame : (s.setControl c).master.state = s.master.state := rfl
    unfold State.leaveLeading
    rw [hsame]
    split
    · exact s.releaseLine.settleTransaction_setControl c new
    · rfl
  have hstreams (t : State) : (t.streamsFollow new).setControl c = (t.setControl c).streamsFollow new := by
    rw [State.setControl, State.streamsFollow_engine]
    exact State.streamsFollow_setEngine { t.engine with control := c } t new
  have hplan (t : State) : (t.planFollows new).setControl c = (t.setControl c).planFollows new := by cases new <;> rfl
  rw [State.changeMastership_eq, State.changeMastership_eq, hplan, hstreams, ← hleave]
  rfl

theorem State.settleListen_setControl (b : Body) : (s.settleListen b).setControl c = (s.setControl c).settleListen b := by
  rw [State.setControl, State.settleListen_engine]
  exact State.settleListen_setEngine { s.engine with control := c } s b

theorem State.faulted_setControl (cause : Cause) : (s.faulted cause).setControl c = (s.setControl c).faulted cause := by
  have hhandovers (b : Body) (t : State) : (t.settleHandovers b).setControl c = (t.setControl c).settleHandovers b := by
    rw [State.settleHandovers_eq, State.settleHandovers_eq]
    rfl
  rw [State.faulted_eq, State.faulted_eq, hhandovers, State.settleListen_setControl, State.changeMastership_setControl]
  rfl

theorem State.masterBoundary_setControl : s.masterBoundary.setControl c = (s.setControl c).masterBoundary := by
  have hsame : (s.setControl c).master = s.master := rfl
  have hlead (t : State) : (t.settleListen t.linkUpDone).setControl c =
      (t.setControl c).settleListen (t.setControl c).linkUpDone := t.settleListen_setControl c _
  unfold State.masterBoundary
  rw [hsame]
  split
  next =>
    split
    next => rfl
    next =>
      refine (apply_ite (State.setControl c) _ _ _).trans ?_
      rw [hlead, State.changeMastership_setControl]
      rfl
  next =>
    refine (apply_ite (State.setControl c) _ _ _).trans ?_
    rw [State.changeMastership_setControl]
    rfl
  all_goals rfl

theorem State.cycleBoundary_setControl : s.cycleBoundary.setControl c = (s.setControl c).cycleBoundary := by
  have hplan (t : State) : t.planBoundary.setControl c = (t.setControl c).planBoundary := by
    rw [State.setControl, State.planBoundary_engine]
    exact State.planBoundary_setEngine { t.engine with control := c } t
  have hstarts (a b : Cycle) (t : State) : (t.passCycleStarts a b).setControl c = (t.setControl c).passCycleStarts a b := by
    rw [State.setControl, State.passCycleStarts_engine]
    exact State.triggerAll_setEngine { t.engine with control := c } t _
  rw [State.cycleBoundary, State.masterBoundary_setControl, hstarts, hplan]
  rfl

theorem State.elapse_setControl (n : Nat) : (s.elapse n).setControl c = (s.setControl c).elapse n := by
  have hactive : (s.setControl c).activeTime n = s.activeTime n := rfl
  unfold State.elapse LinkEngine.active
  rw [hactive]
  split <;> rfl

theorem State.advance_setControl (k n : Nat) : (s.advance k n).setControl c = (s.setControl c).advance k n := by
  induction k generalizing n s with
  | zero => exact State.elapse_setControl c s n
  | succ k ih =>
    have hstuck : (s.setControl c).stuckWithin n = s.stuckWithin n := rfl
    have hbound : (s.setControl c).untilBoundary = s.untilBoundary := rfl
    cases h : s.stuckWithin n with
    | some t =>
      rw [State.advance_stuck h, State.advance_stuck (hstuck.trans h), ih, State.faulted_setControl, State.elapse_setControl]
    | none =>
      by_cases hn : s.untilBoundary ≤ n
      · rw [State.advance_boundary h hn, State.advance_boundary (hstuck.trans h) hn, hbound, ih,
          State.cycleBoundary_setControl, State.elapse_setControl]
      · rw [State.advance_quiet h hn, State.advance_quiet (hstuck.trans h) hn, State.elapse_setControl]

theorem State.passTime_setControl (n : Nat) : (s.passTime n).setControl c = (s.setControl c).passTime n :=
  State.advance_setControl c s _ n

theorem State.passBusy_setControl (n : Nat) : (s.passBusy n).setControl c = (s.setControl c).passBusy n :=
  congrArg (State.setHearing s.engine.hearing) (State.passTime_setControl c (s.setHearing true) n)

end

/-- No time that passes changes the control characters. -/
theorem State.passTime_control (n : Nat) (s : State) : (s.passTime n).engine.control = s.engine.control :=
  (congrArg (fun t : State => t.engine.control) (State.passTime_setControl s.engine.control s n)).symm

end Sys2Proof.Machine
end

section
/-! SUPPORT. A node's data frame, from its control characters to its end: O57. -/

namespace Sys2Proof.Machine

open Sys2Proof.Safety

/-! ## The end of a window leaves the line as it is (R84, R92) -/

/-- The line as the link engine has it, without the transaction. -/
def LinkEngine.line (e : LinkEngine) : LinkEngine := { e with transaction := none }

theorem State.considerDue_line (i : Sid) (s : State) : (s.considerDue i).1.engine.line = s.engine.line := by
  simp only [State.considerDue]
  (repeat' split) <;> simp [State.grant_eq, LinkEngine.line]

theorem State.considerDemand_line (i : Sid) (s : State) : (s.considerDemand i).1.engine.line = s.engine.line := by
  simp only [State.considerDemand]
  (repeat' split) <;> simp [State.grant_eq, LinkEngine.line]

theorem State.searchDemand_line (k : Nat) (i : Sid) (s : State) :
    (State.searchDemand k i s).engine.line = s.engine.line := by
  induction k generalizing i s with
  | zero => rfl
  | succ k ih =>
    rw [State.searchDemand_succ, ← State.considerDemand_line i s]
    split
    next t ht => rw [ht, State.pointAt_engine]
    next t ht => rw [ht, State.enterStage_engine]
    next t ht => rw [ht, ih, State.mapRecord_engine]

theorem State.serveDue_line (l : List Sid) (s : State) : (State.serveDue l s).engine.line = s.engine.line := by
  induction l generalizing s with
  | nil => exact State.searchDemand_line _ _ _
  | cons i l ih =>
    rw [State.serveDue_cons, ← State.considerDue_line i s]
    split
    next t ht => rw [ht]
    next t ht => rw [ht, ih, State.mapRecord_engine]
    next t ht => rw [ht, ih, State.mapRecord_engine]

theorem State.planContinues_line (s : State) : s.planContinues.engine.line = s.engine.line := by
  unfold State.planContinues
  split
  · rw [State.serveDue_line, State.mapRecord_engine]
  · exact State.searchDemand_line _ _ _
  · rfl

theorem State.silentReply_line (s : State) : s.silentReply.engine.line = s.engine.line := by
  have hend (t : State) : t.endTransaction.engine.line = t.engine.line := by
    unfold State.endTransaction
    split
    · rfl
    · split
      · rfl
      · rw [State.planContinues_line, State.applyOutcome_engine]
        rfl
  simp only [State.silentReply]
  split
  · exact hend _
  · rfl

theorem State.closeWindow_line (s : State) : s.closeWindow.engine.line = s.engine.line := by
  unfold State.closeWindow
  split
  · rfl
  · split
    · exact s.silentReply_line
    · rfl

theorem State.closeWindow_hearing (s : State) : s.closeWindow.engine.hearing = s.engine.hearing := by
  simpa [LinkEngine.line] using congrArg LinkEngine.hearing s.closeWindow_line

theorem State.closeWindow_control (s : State) : s.closeWindow.engine.control = s.engine.control := by
  simpa [LinkEngine.line] using congrArg LinkEngine.control s.closeWindow_line

/-! ## The control characters (R87, R192) -/

/-- The sequence bit and the 9-bit length of two control characters. -/
theorem readControl_eq (c1 c2 : Byte) : readControl c1 c2 = (c1.getLsbD 7, (c1.getLsbD 0).toNat * 256 + c2.toNat) := by
  have hlow : (c1 &&& 1).toNat = (c1.getLsbD 0).toNat := by
    revert c1
    decide
  rw [readControl, hlow]

section
variable {tx : Transaction}

/-- A frame of another kind, or of unknown length, is received to its end. -/
theorem Transaction.readControl_unread {control : Option (Byte × Byte)} (h : tx.direction = .outbound ∨ control = none) :
    tx.readControl control = { tx with phase := .receiving, received := none } := by
  unfold Transaction.readControl
  split
  · rfl
  · rfl
  next c hd => simp [hd] at h

theorem Transaction.readControl_inbound (h : tx.direction = .inbound) (c1 c2 : Byte) {n : Nat}
    (hn : n = (c1.getLsbD 0).toNat * 256 + c2.toNat) : tx.readControl (some (c1, c2)) =
      if tx.size < n then { tx with received := some (c1.getLsbD 7, n), phase := .drain, decided := some .overrun }
      else { tx with received := some (c1.getLsbD 7, n), phase := .receiving } := by
  unfold Transaction.readControl
  split
  next hd => rw [h] at hd; cases hd
  next hc => cases hc
  next c hd hc =>
    cases hc
    rw [readControl_eq, ← hn]

/-! ## The end of the frame (R88 to R90) -/

theorem Transaction.readEnd_outbound (h : tx.direction = .outbound) (control : Option (Byte × Byte)) (rest : List LinkChar) :
    tx.readEnd control rest = tx.decide .form := by
  simp only [Transaction.readEnd, h]

/-- The payload of a complete frame without an error stands when its check does. -/
theorem readPayload_of_bytes {data crc : List Byte} (hcrc : crc.length = 2) (c : Byte × Byte) :
    readPayload c data.length ((data ++ crc).map some) =
      if crc = crcBytes (c.1 :: c.2 :: data) then some data else none := by
  rw [readPayload, heardBytes_map_some]
  simp [hcrc]

/-- A frame with a character error, or of another length, has no payload. -/
theorem readPayload_eq_none {rest : List LinkChar} {n : Nat} (h : none ∈ rest ∨ rest.length < n + 2) (c : Byte × Byte) :
    readPayload c n rest = none := by
  unfold readPayload
  split
  next bs hheard =>
    obtain rfl := eq_map_some_of_heardBytes hheard
    rcases h with herr | hshort
    · simp at herr
    · rw [List.length_map] at hshort
      refine if_neg fun hgood => ?_
      simp only [Bool.and_eq_true, beq_iff_eq] at hgood
      omega
  next => rfl

/-- A complete frame of the length announced: answered when its check is correct, its payload kept when it is new. -/
theorem Transaction.readEnd_complete {c : Byte × Byte} {bit : Bool} {data crc : List Byte} (h : tx.direction = .inbound)
    (hr : tx.received = some (bit, data.length)) (hcrc : crc.length = 2) :
    tx.readEnd (some c) ((data ++ crc).map some) =
      if crc = crcBytes (c.1 :: c.2 :: data) then
        { tx with phase := .answering, payload := if tx.resync = true ∨ bit = tx.bitSent then data else [] }
      else tx.decide .check := by
  have hread : tx.readEnd (some c) ((data ++ crc).map some) =
      (readPayload c data.length ((data ++ crc).map some)).elim (tx.decide .check)
        fun payload => { tx with payload := if tx.isNew then payload else [], phase := .answering } := by
    simp only [Transaction.readEnd, h, hr]
    cases readPayload c data.length ((data ++ crc).map some) <;> rfl
  rw [hread, readPayload_of_bytes hcrc, Transaction.isNew_received h hr]
  by_cases hgood : crc = crcBytes (c.1 :: c.2 :: data)
  · simp only [if_pos hgood, decide_eq_true_eq, Option.elim_some]
  · simp only [if_neg hgood, Option.elim_none]

/-- A frame of unknown length, with a character error or truncated decides CHECK. -/
theorem Transaction.readEnd_bad {control : Option (Byte × Byte)} {rest : List LinkChar} (h : tx.direction = .inbound)
    (hbad : tx.received = none ∨ none ∈ rest ∨ ∃ bit n, tx.received = some (bit, n) ∧ rest.length < n + 2) :
    tx.readEnd control rest = tx.decide .check := by
  cases hr : tx.received with
  | none => simp only [Transaction.readEnd, h, hr]
  | some r =>
    obtain ⟨bit, n⟩ := r
    cases control with
    | none => simp only [Transaction.readEnd, h]
    | some c =>
      have hlost : none ∈ rest ∨ rest.length < n + 2 := by
        rcases hbad with hnone | herr | ⟨bit', n', hr', hshort⟩
        · rw [hr] at hnone; cases hnone
        · exact .inl herr
        · rw [hr] at hr'
          cases hr'
          exact .inr hshort
      simp only [Transaction.readEnd, h, hr, readPayload_eq_none hlost]

theorem Transaction.readCut_eq (tx : Transaction) : tx.readCut =
    tx.decide (if tx.direction = .inbound then .check else .form) := by
  unfold Transaction.readCut
  split
  next hd => rw [if_pos hd]
  next hd => rw [if_neg (by simp [hd])]

end

/-! ## The characters of the frame (R79, R89) -/

/-- The characters of `rest` that belong to the frame that is being heard, and whether they bring it whole. -/
abbrev OwnChars (control : Option (Byte × Byte)) (rest own : List LinkChar) (whole : Bool) : Prop :=
  match control with
  | some (c1, c2) =>
    own = rest.take ((c1.getLsbD 0).toNat * 256 + c2.toNat + 2) ∧
      whole = decide ((c1.getLsbD 0).toNat * 256 + c2.toNat + 2 ≤ rest.length)
  | none => own = rest ∧ whole = false

theorem LinkEngine.own_chars {e : LinkEngine} {rest own : List LinkChar} {whole : Bool}
    (h : OwnChars e.control rest own whole) :
    rest.take (e.dataSpan rest) = own ∧ rest.drop (e.dataSpan rest) = rest.drop own.length ∧ e.arrivedWhole own = whole := by
  unfold OwnChars at h
  rw [LinkEngine.dataSpan, LinkEngine.arrivedWhole]
  split at h
  next c1 c2 hc =>
    obtain ⟨rfl, rfl⟩ := h
    simp only [hc, readControl_eq, Option.any_some]
    refine ⟨List.take_eq_take_min.symm, ?_, decide_eq_decide.mpr ?_⟩
    · rw [List.length_take]
    · rw [List.length_take]
      omega
  next hc =>
    obtain ⟨rfl, rfl⟩ := h
    simp [hc]

/-! ## The rows -/

section
variable {s t : State} {micros : Nat} {rest : List LinkChar}

theorem State.dataEnds_received {tx : Transaction} (hhear : s.engine.hearing = true)
    (ht : t = (s.passBusy micros).endHearing.frameStops (s.engine.arrivedWhole rest))
    (htx : t.atPhase .receiving false = some tx) :
    s.dataEnds micros rest = t.setTransaction (tx.readEnd s.engine.control rest) := by
  subst ht
  simp only [State.dataEnds, hhear, if_true, htx]

theorem State.dataEnds_unheard (hhear : s.engine.hearing = true)
    (ht : t = (s.passBusy micros).endHearing.frameStops (s.engine.arrivedWhole rest))
    (htx : t.atPhase .receiving false = none) : s.dataEnds micros rest = t := by
  subst ht
  simp only [State.dataEnds, hhear, if_true, htx]

/-- A data frame whose control characters never came. -/
theorem State.dataEnds_cut (hhear : s.engine.hearing = false) (hcontrol : s.engine.control = none)
    (ht : t = (s.passBusy micros).passTime (2 * s.master.rate.charMicros)) :
    s.dataEnds micros rest = (t.atPhase .replyWindow false).elim t fun tx => t.setTransaction tx.readCut := by
  have hpassed : (s.passBusy micros).engine.hearing = false ∧ (s.passBusy micros).engine.control = none :=
    ⟨hhear, (State.passTime_control micros (s.setHearing true)).trans hcontrol⟩
  have hend : (s.passBusy micros).endHearing = s.passBusy micros := by
    rw [State.endHearing, ← hpassed.1, ← hpassed.2]
    rfl
  have hwhole : s.engine.arrivedWhole rest = false := by rw [LinkEngine.arrivedWhole, hcontrol]; rfl
  have hstops : (s.passBusy micros).endHearing.frameStops (s.engine.arrivedWhole rest) = t := by
    rw [hend, hwhole, State.frameStops_eq, State.passBusy_rate, ht]
    rfl
  simp only [State.dataEnds, hhear, hstops, Bool.false_eq_true, if_false]
  cases t.atPhase .replyWindow false <;> rfl

end

theorem State.atPhase_of_unheard {ph : Phase} {s : State} (h : Unheard ph s) : s.atPhase ph false = none := by
  unfold State.atPhase
  split
  next hlead =>
    refine Option.filter_eq_none_iff.mpr fun tx htx hpred => ?_
    have hall := (Option.all_eq_true _ _).mp (h hlead) tx htx
    simp_all
  next => rfl

/-- The row of a data frame's end, on the frame that is being heard. -/
theorem exec_inboundDataFrameEnd {after : Nat} {bytes : List Byte} {errs : List Nat} {rest own : List LinkChar} {whole : Bool}
    {s : State} (hrun : s.inReset = false) (hrest : rest = linkChars bytes errs)
    (hown : OwnChars s.engine.control rest own whole) : exec (.inboundDataFrameEnd after bytes errs) s =
      .next (State.hearAll ((rest.drop own.length).map some) (s.closeWindow.dataEnds after own)) := by
  obtain ⟨htake, hdrop, -⟩ := s.engine.own_chars hown
  refine (whenRunning_of_running hrun).trans (congrArg _ ?_)
  rw [← hrest, State.dataFrameEnd, htake, hdrop]

end Sys2Proof.Machine
end

section
/-! SUPPORT. A node's data frame in one of two rows: O57. -/

namespace Sys2Proof.Machine

open Sys2Proof.Safety

/-- The control characters of a frame without an error in them, by the direction. -/
theorem Transaction.readControl_heard (tx : Transaction) (c1 c2 : Byte) {n : Nat}
    (hn : n = (c1.getLsbD 0).toNat * 256 + c2.toNat) : tx.readControl (some (c1, c2)) =
      if tx.direction = .outbound then { tx with phase := .receiving, received := none }
      else if tx.size < n then { tx with received := some (c1.getLsbD 7, n), phase := .drain, decided := some .overrun }
      else { tx with received := some (c1.getLsbD 7, n), phase := .receiving } := by
  by_cases hout : tx.direction = .outbound
  · rw [if_pos hout, Transaction.readControl_unread (.inl hout)]
  · have hin : tx.direction = .inbound := by
      cases hd : tx.direction with
      | outbound => exact absurd hd hout
      | inbound => rfl
    rw [if_neg hout, Transaction.readControl_inbound hin c1 c2 hn]

section
variable {s v w u : State} {after : Nat} {own : List LinkChar} {whole : Bool}

/-- The moment of a data frame's end: at its last character, or 2 idle characters after what came of it. -/
theorem State.frameEnd_moment (hwhole : s.engine.arrivedWhole own = whole) (hv : v = s.passBusy after)
    (hw : w = v.setEngine { v.engine with hearing := false, control := none })
    (hu : u = if whole then w else w.passTime (2 * s.master.rate.charMicros)) :
    u = (s.passBusy after).endHearing.frameStops (s.engine.arrivedWhole own) := by
  have hrate : (s.passBusy after).endHearing.master.rate = s.master.rate := s.passBusy_rate after
  rw [State.frameStops_eq, hrate, hwhole, hu, hw, hv]
  rfl

end

/-- A data frame that the transaction receives is read at its end. -/
theorem exec_inboundDataFrameEnd_received {after : Nat} {bytes : List Byte} {errs : List Nat} {rest own : List LinkChar}
    {whole : Bool} {tx : Transaction} {s u : State} (hrun : s.inReset = false) (hrest : rest = linkChars bytes errs)
    (hhear : s.engine.hearing = true) (hown : OwnChars s.engine.control rest own whole) (hclose : s.closeWindow = s)
    (hu : u = (s.passBusy after).endHearing.frameStops (s.engine.arrivedWhole own))
    (htx : u.atPhase .receiving false = some tx) : exec (.inboundDataFrameEnd after bytes errs) s =
      .next (State.hearAll ((rest.drop own.length).map some) (u.setTransaction (tx.readEnd s.engine.control own))) := by
  rw [exec_inboundDataFrameEnd hrun hrest hown, hclose, State.dataEnds_received hhear hu htx]

/-- Settles O57: the control characters, the end of a frame that is being heard, and the end of one without them. -/
theorem inboundFrameRead : Obligations.InboundFrameRead := by
  refine ⟨?_, ?_, ?_, ?_, ?_, ?_⟩
  · intro after c1 c2 tx s v u hrun hhear hv hlead ht hph hb hopen hline hu ht' hlead'
    have hrate : v.master.rate = s.master.rate := by rw [hv, State.passTime_rate]
    have hclose : v.closeWindow = v := by
      refine State.closeWindow_of_open fun tx' htx' _ => ?_
      obtain rfl := Option.some.inj (htx'.symm.trans ht)
      rw [hrate]
      exact hopen
    have hexec (err : Bool) : exec (.dataLengthRead after c1 c2 err) s = .next (u.setEngine { u.engine with
        hearing := true, control := if err then none else some (c1, c2)
        transaction := some (tx.readControl (if err then none else some (c1, c2))) }) := by
      subst hu
      rw [exec_dataLengthRead hrun hhear, ← hv, hclose,
        State.dataBegins_in_window hline (State.atPhase_of hlead' ht' hph hb)]
    refine ⟨fun n hn => ?_, ?_⟩
    · rw [← tx.readControl_heard c1 c2 hn]
      exact hexec false
    · rw [← Transaction.readControl_unread (.inr rfl)]
      exact hexec true
  · intro micros control tx v u hline hu ht' hlead' hph hb
    subst hu
    have hread := State.dataBegins_in_window (control := control) hline (State.atPhase_of hlead' ht' hph hb)
    refine ⟨fun hkind => ?_, fun hdir c1 c2 n hcontrol hn => ?_⟩
    · rw [hread, Transaction.readControl_unread hkind]
    · rw [hread, ← Transaction.readControl_inbound hdir c1 c2 hn, hcontrol]
  · intro after bytes errs rest own whole tx s v w u hrun hrest hhear hlead ht hph hb hown hv hw hu ht' hlead'
    have hclose : s.closeWindow = s := State.closeWindow_of_none (by simp [State.atPhase, ht, hph])
    obtain ⟨-, -, hwhole⟩ := LinkEngine.own_chars hown
    have hexec := exec_inboundDataFrameEnd_received hrun hrest hhear hown hclose
      (State.frameEnd_moment hwhole hv hw hu) (State.atPhase_of hlead' ht' hph hb)
    rw [hexec]
    refine ⟨fun hdir => ?_, fun hdir c1 c2 bit n data crc hcontrol hr _ hchars hlength hcrc => ?_, fun hdir hbad => ?_⟩
    · rw [Transaction.readEnd_outbound hdir]
      rfl
    · subst hlength
      have hread := Transaction.readEnd_complete (c := (c1, c2)) hdir hr hcrc
      rw [← hcontrol, ← hchars] at hread
      rw [hread]
      rfl
    · rw [Transaction.readEnd_bad hdir hbad]
      rfl
  · intro after bytes errs rest own whole s v w u hrun hrest hhear hown hv hw hu hunheard
    obtain ⟨-, -, hwhole⟩ := LinkEngine.own_chars hown
    rw [LinkEngine.arrivedWhole, ← s.closeWindow_control] at hwhole
    rw [← s.closeWindow_master] at hu
    rw [exec_inboundDataFrameEnd hrun hrest hown, State.dataEnds_unheard (s.closeWindow_hearing.trans hhear)
      (State.frameEnd_moment hwhole hv hw hu) (State.atPhase_of_unheard hunheard)]
  · intro after bytes errs s u hrun hhear hcontrol hu
    have hown : OwnChars s.engine.control (linkChars bytes errs) (linkChars bytes errs) false := by
      rw [hcontrol]
      exact ⟨rfl, rfl⟩
    rw [← s.closeWindow_master] at hu
    rw [exec_inboundDataFrameEnd hrun rfl hown, State.dataEnds_cut (s.closeWindow_hearing.trans hhear)
      (s.closeWindow_control.trans hcontrol) hu, List.drop_length]
    refine ⟨fun hunheard => ?_, fun tx hlead' ht' hph hb => ?_⟩
    · rw [State.atPhase_of_unheard hunheard]
      rfl
    · rw [State.atPhase_of hlead' ht' hph hb]
      exact congrArg (fun cut => Host.Outcome.next (u.setTransaction cut)) tx.readCut_eq
  · intro after c1 c2 err s v u hrun
    refine ⟨fun hhear => ?_, fun hhear hv hu hnobody => ?_⟩
    · exact (whenRunning_of_running hrun).trans (congrArg _ (if_pos hhear))
    · subst hu
      rw [exec_dataLengthRead hrun hhear, ← hv,
        State.dataBegins_unheard (hnobody.imp_right State.atPhase_of_unheard)]

end Sys2Proof.Machine
end

section
/-! SUPPORT. The frames of a row one behind another, the levels between them, and what nobody hears: O60. -/

namespace Sys2Proof.Machine

open Sys2Proof.Safety

/-! ## The frames of a row, one behind another (R79) -/

theorem charSpan_pos {k : Nat} {times : List LinkTime} (hk : 0 < k) (hne : times ≠ []) : 0 < charSpan k times := by
  fun_cases charSpan k times with
  | case1 => omega
  | case2 => exact absurd rfl hne
  | case3 => exact Nat.succ_pos _
  | case4 => exact Nat.succ_pos _

/-- A frame takes at least one character time. -/
theorem rowSpan_pos {row : List LinkTime} (hne : row ≠ []) : 0 < rowSpan row := by
  by_cases hhead : row.head? = some none
  · obtain ⟨ts, rfl⟩ := List.head?_eq_some_iff.mp hhead
    simp [rowSpan]
  · cases hn : frameLength (heardChars row) with
    | none =>
      rw [rowSpan_of_unknown hhead hn]
      exact List.length_pos_iff.mpr hne
    | some n =>
      rw [rowSpan_of_known hhead hn]
      exact charSpan_pos (frameLength_pos hn) hne

/-- Every count that covers the character times yields the same frames. -/
theorem splitFrames_of_le {j k : Nat} {times : List LinkTime} (hj : times.length ≤ j) (hk : times.length ≤ k) :
    splitFrames j times = splitFrames k times := by
  induction j generalizing k times with
  | zero =>
    rw [List.length_eq_zero_iff.mp (Nat.le_zero.mp hj), splitFrames_nil, splitFrames_nil]
  | succ j ih =>
    cases times with
    | nil => rw [splitFrames_nil, splitFrames_nil]
    | cons t ts =>
      have hspan := rowSpan_pos (List.cons_ne_nil t ts)
      have hdrop : ((t :: ts).drop (rowSpan (t :: ts))).length ≤ ts.length := by
        rw [List.length_drop, List.length_cons]
        omega
      rw [List.length_cons] at hj hk
      obtain ⟨k', rfl⟩ := Nat.exists_eq_add_of_lt (Nat.lt_of_lt_of_le (Nat.succ_pos _) hk)
      rw [Nat.zero_add] at hk ⊢
      rw [splitFrames, splitFrames, ih (k := k') (by omega) (by omega)]

theorem framesOf_eq_cons {times : List LinkTime} (hne : times ≠ []) :
    framesOf times = times.take (rowSpan times) :: framesOf (times.drop (rowSpan times)) := by
  obtain ⟨t, ts, rfl⟩ := List.exists_cons_of_ne_nil hne
  have hspan := rowSpan_pos hne
  have hdrop : ((t :: ts).drop (rowSpan (t :: ts))).length ≤ ts.length := by
    rw [List.length_drop, List.length_cons]
    omega
  rw [framesOf, framesOf, List.length_cons, splitFrames, splitFrames_of_le hdrop (Nat.le_refl _)]

/-- The first frame of a row is heard, then the others. -/
theorem State.hearAll_append {f g : List LinkTime} (hne : f ≠ []) (hspan : rowSpan (f ++ g) = f.length) (s : State) :
    State.hearAll (f ++ g) s = State.hearAll g (s.hearFrame f) := by
  rw [State.hearAll, framesOf_eq_cons (List.append_ne_nil_of_left_ne_nil hne g), hspan, List.take_left, List.drop_left]
  rfl

/-- A whole frame takes its own character times, whatever comes behind it. -/
theorem rowSpan_append {f : List LinkTime} (hne : f ≠ []) (hhead : f.head? ≠ some none) (hlast : f.getLast? ≠ some none)
    (hlength : frameLength (heardChars f) = some (heardChars f).length) (g : List LinkTime) :
    rowSpan (f ++ g) = f.length := by
  have hhead' : (f ++ g).head? ≠ some none := by rwa [List.head?_append_of_ne_nil f hne]
  have hlength' : frameLength (heardChars (f ++ g)) = some (heardChars f).length := by
    rw [heardChars_append, frameLength_append hlength]
  rw [rowSpan_of_known hhead' hlength', charSpan_append hlast]

/-- A truncated or unrecognised frame takes all of the row. -/
theorem rowSpan_of_partial {f : List LinkTime} (hhead : f.head? ≠ some none)
    (hfewer : ∀ n, frameLength (heardChars f) = some n → (heardChars f).length < n) : rowSpan f = f.length := by
  cases hn : frameLength (heardChars f) with
  | none => exact rowSpan_of_unknown hhead hn
  | some n => rw [rowSpan_of_known hhead hn, charSpan_of_fewer (hfewer n hn)]

/-- The levels before a frame belong to none. -/
theorem rowSpan_levels_append (n : Nat) {g : List LinkTime} (hhead : g.head? ≠ some none) :
    rowSpan (List.replicate (n + 1) none ++ g) = n + 1 := by
  have hstop : g.takeWhile Option.isNone = [] := by
    cases g with
    | nil => rfl
    | cons t ts =>
      refine List.takeWhile_cons_of_neg fun hnone => hhead ?_
      rw [Option.isNone_iff_eq_none.mp hnone]
      rfl
  have hlevels : ∀ t ∈ List.replicate (n + 1) (none : LinkTime), t.isNone = true := fun t ht => by
    rw [List.eq_of_mem_replicate ht]
    rfl
  calc rowSpan (List.replicate (n + 1) none ++ g)
      = ((List.replicate (n + 1) none ++ g).takeWhile Option.isNone).length := rfl
    _ = n + 1 := by rw [List.takeWhile_append_of_pos hlevels, hstop, List.append_nil, List.length_replicate]

theorem linkTimes_levels (n : Nat) (errs : List Nat) : linkTimes (List.replicate n none) errs = List.replicate n none := by
  refine List.ext_getElem? fun i => ?_
  rw [linkTimes_getElem?, List.getElem?_replicate, List.getElem?_replicate]
  by_cases hi : i < n
  · rw [if_pos hi, if_pos hi]
    rfl
  · rw [if_neg hi, if_neg hi]
    rfl

theorem State.hearFrame_levels (n : Nat) (s : State) :
    s.hearFrame (List.replicate (n + 1) none) = s.holdLevel ((n + 1) * s.master.rate.charMicros) := by
  have hlevel : s.hearFrame (List.replicate (n + 1) none) =
      s.holdLevel (s.chars (List.replicate (n + 1) (none : LinkTime)).length) := if_pos rfl
  rw [hlevel, List.length_replicate]
  rfl

/-! ## What nobody hears (R79, R80) -/

/-- A frame that is no data frame, and no beacon, heard by nobody or by a part that drives the line. -/
theorem State.hearShort_ignored {micros : Nat} {chars : List LinkChar} {v u : State}
    (hu : u = (v.passBusy micros).frameStops (frameWhole chars))
    (h : v.ldrv = true ∨ (readBeacon chars = none ∧ Unheard .replyWindow u)) : v.hearShort micros chars = u := by
  cases hline : v.ldrv with
  | true => rw [State.hearShort_deaf hline, hu]
  | false =>
    obtain ⟨hbeacon, hunheard⟩ := h.resolve_left (by rw [hline]; exact Bool.false_ne_true)
    rw [State.hearShort_taken hline, ← hu, State.takeFrame_by_nobody hbeacon (State.atPhase_of_unheard hunheard)]

/-- The control characters of a frame that has been heard leave nothing behind. -/
theorem State.endHearing_passBusy (micros : Nat) (control : Option (Byte × Byte)) (a : State) :
    ((a.setEngine { a.engine with hearing := true, control := control }).passBusy micros).endHearing =
      (a.passBusy micros).endHearing := by
  have hcontrol : (a.setEngine { a.engine with hearing := true, control := control }).passBusy micros =
      ((a.setHearing true).passBusy micros).setControl control :=
    ((a.setHearing true).passBusy_setControl control micros).symm
  rw [hcontrol]
  rfl

/-- A data frame has come whole when its characters are as many as its length. -/
theorem LinkEngine.arrivedWhole_eq {e : LinkEngine} {c1 c2 : LinkChar} (h : e.control = controlOf c1 c2) (rest : List LinkChar) :
    e.arrivedWhole rest = frameWhole (some dataType :: c1 :: c2 :: rest) := by
  rw [LinkEngine.arrivedWhole, frameWhole, frameLength_data, h, Option.any_map]
  refine congrArg (fun p => (controlOf c1 c2).any p) (funext fun c => decide_eq_decide.mpr ?_)
  simp only [List.length_cons]
  omega

/-! ## The reply window and the levels (R77, R84) -/

/-- A window whose fourth character time has passed is closed SILENT. -/
theorem State.closeWindow_of_passed {tx : Transaction} {s : State} (ht : s.atPhase .replyWindow false = some tx)
    (hpassed : tx.windowFrom + 4 * s.master.rate.charMicros < s.time.clock) : s.closeWindow = s.silentReply := by
  rw [State.closeWindow, ht]
  exact if_pos hpassed

/-- A level in which no window ends only holds the line. -/
theorem State.holdLevel_of_open {m : Nat} {s : State} (h : ∀ tx, s.atPhase .replyWindow false = some tx →
    s.time.clock + m ≤ tx.windowFrom + 4 * s.master.rate.charMicros) : s.holdLevel m = s.passBusy m := by
  unfold State.holdLevel
  split
  next => rfl
  next tx htx => exact if_neg (Nat.not_lt.mpr (h tx htx))

/-- A window that ends within a level is closed at that moment, if it still stands open. -/
theorem State.holdLevel_of_passed {early m : Nat} {tx : Transaction} {s : State} (ht : s.atPhase .replyWindow false = some tx)
    (hpassed : tx.windowFrom + 4 * s.master.rate.charMicros < s.time.clock + m)
    (hearly : early = tx.windowFrom + 4 * s.master.rate.charMicros - s.time.clock) : s.holdLevel m =
      (s.whenPhase .replyWindow false (State.passBusy early) fun _ s => s.silentReply).passBusy (m - early) := by
  subst hearly
  rw [State.holdLevel, ht]
  exact if_pos hpassed

theorem State.atPhase_begun {ph : Phase} {b : Bool} {tx : Transaction} {s : State} (h : s.atPhase ph b = some tx) :
    tx.begun = b := by
  unfold State.atPhase at h
  split at h
  next =>
    obtain ⟨-, hstands⟩ := Option.filter_eq_some_iff.mp h
    rw [Bool.and_eq_true] at hstands
    exact eq_of_beq hstands.2
  next => cases h

theorem State.lineIdle_of_busy {s : State}
    (h : s.engine.hearing = true ∨ s.ldrv = true ∨ s.engine.quiet < 2 * s.master.rate.charMicros) : s.lineIdle = false := by
  refine Bool.eq_false_iff.mpr fun hidle => ?_
  obtain ⟨hhear, hline, hquiet⟩ := State.lineIdle_iff.mp hidle
  rcases h with hheard | hdriven | hbusy
  · rw [hheard] at hhear; cases hhear
  · rw [hdriven] at hline; cases hline
  · omega

/-! ## The idle count behind a level (R77) -/

/-- Active time returns the idle count to 0. -/
theorem State.elapse_quiet_of_hearing {n : Nat} {s : State} (hhear : s.engine.hearing = true) (h : 0 < n ∨ s.engine.quiet = 0) :
    (s.elapse n).engine.quiet = 0 := by
  have hactive : s.activeTime n = n := if_pos hhear
  rw [State.elapse_engine]
  simp only [hactive]
  split <;> omega

/-- A part of an active time, or none of it yet, leaves the rest active. -/
theorem State.elapse_leaves_active {n t : Nat} {s : State} (hhear : s.engine.hearing = true) (h : 0 < n ∨ s.engine.quiet = 0) :
    0 < n - t ∨ (s.elapse t).engine.quiet = 0 := by
  by_cases hzero : t = 0
  · subst hzero
    exact h.imp_right fun hquiet => State.elapse_quiet_of_hearing hhear (.inr hquiet)
  · exact .inr (State.elapse_quiet_of_hearing hhear (.inl (Nat.pos_of_ne_zero hzero)))

/-- However the events fall, the line is active to the last microsecond. -/
theorem State.advance_quiet_of_hearing {k n : Nat} {s : State} (hhear : s.engine.hearing = true)
    (h : 0 < n ∨ s.engine.quiet = 0) : (s.advance k n).engine.quiet = 0 := by
  induction k generalizing n s with
  | zero => exact State.elapse_quiet_of_hearing hhear h
  | succ k ih =>
    have hrest {t : Nat} {s' : State} (heased : (s.elapse t).LineEased s') :
        (State.advance k (n - t) s').engine.quiet = 0 := by
      refine ih (heased.hearing.trans ((s.elapse_hearing t).trans hhear)) ?_
      rw [heased.quiet]
      exact State.elapse_leaves_active hhear h
    cases hstuck : s.stuckWithin n with
    | some t =>
      rw [State.advance_stuck hstuck]
      exact hrest (State.faulted_lineEased _ _)
    | none =>
      by_cases hn : s.untilBoundary ≤ n
      · rw [State.advance_boundary hstuck hn]
        exact hrest (State.cycleBoundary_lineEased _)
      · rw [State.advance_quiet hstuck hn]
        exact State.elapse_quiet_of_hearing hhear h

theorem State.passBusy_quiet {n : Nat} (hn : 0 < n) (s : State) : (s.passBusy n).engine.quiet = 0 :=
  State.advance_quiet_of_hearing (s := s.setHearing true) rfl (.inl hn)

/-- Behind a level the line has just been active, whether or not a window has ended within it. -/
theorem State.holdLevel_quiet {m : Nat} (hm : 0 < m) (s : State) : (s.holdLevel m).engine.quiet = 0 := by
  unfold State.holdLevel
  split
  next => exact State.passBusy_quiet hm _
  next =>
    split
    next hwithin => exact State.passBusy_quiet (by omega) _
    next => exact State.passBusy_quiet hm _

/-! ## The rows -/

theorem exec_ignoredFrame {after : Nat} {times : List (Option Byte)} {errs : List Nat} {s : State} (hrun : s.inReset = false)
    (hhear : s.engine.hearing = false) :
    exec (.ignoredFrame after times errs) s = .next (State.hearAll (linkTimes times errs) (s.passTime after)) := by
  refine (whenRunning_of_running hrun).trans (congrArg _ ?_)
  rw [State.frameHeard, hhear]
  rfl

/-- A short frame that nobody takes, to its end. -/
theorem State.hearFrame_ignored {row : List LinkTime} {chars : List LinkChar} {s v w u : State} (hv : v = s.closeWindow)
    (hhead : row.head? ≠ some none) (hchars : chars = heardChars row)
    (hshort : chars.head? ≠ some (some dataType) ∨ chars.length < 3)
    (hw : w = v.passBusy (row.length * s.master.rate.charMicros))
    (hu : u = if frameWhole chars then w else w.passTime (2 * s.master.rate.charMicros))
    (hnobody : v.ldrv = true ∨ (readBeacon chars = none ∧ Unheard .replyWindow u)) : s.hearFrame row = u := by
  have hrate : v.master.rate = s.master.rate := by rw [hv, State.closeWindow_master]
  have hend : u = (v.passBusy (v.chars row.length)).frameStops (frameWhole chars) := by
    rw [State.frameStops_eq, State.passBusy_rate, State.chars, hrate, ← hw, hu]
  subst hchars
  rw [State.hearFrame_of_char hhead, ← hv, State.hearChars_short hshort, State.hearShort_ignored hend hnobody]

/-- A data frame that nobody takes, to its end. -/
theorem State.hearFrame_data_ignored {f g : List LinkTime} {c1 c2 : LinkChar} {s v a b w u : State} (hv : v = s.closeWindow)
    (hhead : f.head? ≠ some none) (hlast : f.getLast? ≠ some none) (hf : heardChars f = [some dataType, c1, c2])
    (ha : a = v.passBusy (f.length * s.master.rate.charMicros))
    (hb : b = a.passBusy (g.length * s.master.rate.charMicros))
    (hw : w = b.setEngine { b.engine with hearing := false, control := none })
    (hu : u = if frameWhole (heardChars (f ++ g)) then w else w.passTime (2 * s.master.rate.charMicros))
    (hbegin : v.ldrv = true ∨ Unheard .replyWindow a) (hend : Unheard .receiving u) : s.hearFrame (f ++ g) = u := by
  have hne : f ≠ [] := by
    rintro rfl
    cases hf
  have hhead' : (f ++ g).head? ≠ some none := by rwa [List.head?_append_of_ne_nil f hne]
  have hchars : heardChars (f ++ g) = some dataType :: c1 :: c2 :: heardChars g := by
    rw [heardChars_append, hf]
    rfl
  have hspan : charSpan 3 (f ++ g) = f.length := by
    have hspan3 := charSpan_append hlast g
    rwa [hf] at hspan3
  have hrate : v.master.rate = s.master.rate := by rw [hv, State.closeWindow_master]
  have hbegun : v.dataBegins (f.length * s.master.rate.charMicros) (controlOf c1 c2) =
      a.setEngine { a.engine with hearing := true, control := controlOf c1 c2 } := by
    subst ha
    exact State.dataBegins_unheard (hbegin.imp_right State.atPhase_of_unheard)
  have hmoment : u = ((a.setEngine { a.engine with hearing := true, control := controlOf c1 c2 }).passBusy
      (g.length * s.master.rate.charMicros)).endHearing.frameStops
        (LinkEngine.arrivedWhole (heardChars g) { a.engine with hearing := true, control := controlOf c1 c2 }) := by
    have hrateb : b.endHearing.master.rate = s.master.rate := by
      calc b.endHearing.master.rate = b.master.rate := rfl
        _ = s.master.rate := by rw [hb, State.passBusy_rate, ha, State.passBusy_rate, hrate]
    rw [State.endHearing_passBusy, ← hb, LinkEngine.arrivedWhole_eq (c1 := c1) (c2 := c2) rfl, State.frameStops_eq, hrateb,
      ← hchars, hu, hw]
    rfl
  rw [State.hearFrame_of_char hhead', ← hv, State.hearChars_data hchars, hspan, List.length_append, Nat.add_sub_cancel_left,
    State.chars, State.chars, hrate, hbegun]
  exact State.dataEnds_unheard rfl hmoment (State.atPhase_of_unheard hend)

/-- Settles O60: the three rows alike, frame by frame; what nobody hears; the levels and the window that they let pass. -/
theorem frameIgnored : Obligations.FrameIgnored := by
  refine ⟨?_, ?_, fun _ => rfl, ?_, ?_, ?_, ?_, ?_, ?_, ?_, ?_, ?_, ?_⟩
  · intro after times errs s hrun
    refine ⟨fun hhear => exec_ignoredFrame hrun hhear, fun hhear => ?_, rfl, rfl⟩
    exact (whenRunning_of_running hrun).trans (congrArg _ (if_pos hhear))
  · intro times errs
    refine ⟨linkTimes_length times errs, fun i x hx => ?_⟩
    rw [linkTimes_getElem?, hx, Option.map_some]
  · intro f g s hhead hlast hlength
    have hne : f ≠ [] := by
      rintro rfl
      cases hlength
    have hspan := rowSpan_append hne hhead hlast hlength g
    exact ⟨hspan, State.hearAll_append hne hspan s⟩
  · intro f s hne hhead hfewer
    have hspan := rowSpan_of_partial hhead hfewer
    exact ⟨hspan, State.hearAll_single hne hspan s⟩
  · intro n g s hhead
    have hspan := rowSpan_levels_append n hhead
    refine ⟨hspan, ?_⟩
    rw [State.hearAll_append (f := List.replicate (n + 1) none) (List.cons_ne_nil _ _)
      (hspan.trans List.length_replicate.symm), State.hearFrame_levels]
  · intro row chars s v w u hv hhead hchars hshort hw hu hnobody
    exact State.hearFrame_ignored hv hhead hchars hshort hw hu hnobody
  · intro f g c1 c2 s v a b w u hv hhead hlast hf ha hb hw hu hbegin hend
    exact State.hearFrame_data_ignored hv hhead hlast hf ha hb hw hu hbegin hend
  · intro s hopen
    exact State.closeWindow_of_open hopen
  · intro tx s hlead ht hph hb hpassed hhear hquiet hline
    rw [State.closeWindow_of_passed (State.atPhase_of hlead ht hph hb) hpassed,
      State.silentReply_of_idle ht hb (State.lineIdle_iff.mpr ⟨hhear, hline, hquiet⟩)]
  · intro m s hopen
    refine State.holdLevel_of_open fun tx htx => ?_
    obtain ⟨hlead, ht⟩ := State.atPhase_some htx
    exact hopen tx hlead ht (State.atPhase_phase htx) (State.atPhase_begun htx)
  · intro early m tx s u hlead ht hph hb hpassed hearly hu
    have hat := State.atPhase_of hlead ht hph hb
    have hrate : u.master.rate = s.master.rate := by rw [hu, State.passBusy_rate]
    subst hu
    rw [State.holdLevel_of_passed hat hpassed hearly]
    refine ⟨fun hunheard => ?_, fun ht' hlead' => ?_⟩
    · rw [State.whenPhase_left hat (State.atPhase_of_unheard hunheard)]
    · rw [State.whenPhase_acts hat (State.atPhase_of hlead' ht' hph hb)]
      rw [← hrate]
      refine ⟨fun hbusy => ?_, fun hhear hline hquiet => ?_⟩
      · rw [State.silentReply_of_busy ht' hb (State.lineIdle_of_busy hbusy)]
      · rw [State.silentReply_of_idle ht' hb (State.lineIdle_iff.mpr ⟨hhear, hline, hquiet⟩)]
  · intro after n errs s hrun hhear _
    refine ⟨_, exec_ignoredFrame hrun hhear, ?_⟩
    rw [linkTimes_levels, State.hearAll_levels]
    exact State.holdLevel_quiet (Nat.mul_pos (Nat.succ_pos n) (LinkRate.charMicros_pos _)) _

end Sys2Proof.Machine
end

section
/-! SUPPORT. The requests of the capture and mark units: O50, O53. -/

namespace Sys2Proof.Machine

open Sys2Proof.Safety

/-! ## The fields of the requests (9.6) -/

theorem lineOf_eq_some {line : Byte} {k : Line} (h : line.toNat = k.val) : lineOf line = some k := by
  simp [lineOf, h, k.isLt]

theorem lineOf_eq_none {line : Byte} (h : 3 < line.toNat) : lineOf line = none :=
  dif_neg (by omega)

theorem exists_line {line : Byte} (h : line.toNat ≤ 3) : ∃ k : Line, line.toNat = k.val :=
  ⟨⟨line.toNat, by omega⟩, rfl⟩

theorem Edges.ofCode_code (e : Edges) : Edges.ofCode e.code = some e := by
  cases e <;> rfl

theorem Edges.ofCode_eq_none {b : Byte} (h : 3 < b.toNat) : Edges.ofCode b = none := by
  have hne (c : Byte) (hc : c.toNat ≤ 3) : b ≠ c := by
    rintro rfl
    omega
  simp [Edges.ofCode, hne]

theorem Level.ofCode_code (l : Level) : Level.ofCode l.code = some l := by
  cases l <;> rfl

theorem Level.ofCode_eq_none {b : Byte} (h : 1 < b.toNat) : Level.ofCode b = none := by
  have hne (c : Byte) (hc : c.toNat ≤ 1) : b ≠ c := by
    rintro rfl
    omega
  simp [Level.ofCode, hne]

/-! ## SET_CAPTURE and TAKE_CAPTURES (R134, R138) -/

theorem setCaptureRequest_badLine {line : Byte} (h : 3 < line.toNat) (edges holdOff : Byte) (s : State) :
    setCaptureRequest line edges holdOff s = s.reply (badForm 1) := by
  rw [setCaptureRequest, lineOf_eq_none h]

theorem setCaptureRequest_badEdges {line edges : Byte} (hl : line.toNat ≤ 3) (he : 3 < edges.toNat) (holdOff : Byte)
    (s : State) : setCaptureRequest line edges holdOff s = s.reply (badForm 2) := by
  obtain ⟨k, hk⟩ := exists_line hl
  simp only [setCaptureRequest, lineOf_eq_some hk, Edges.ofCode_eq_none he]

theorem setCaptureRequest_eq {line : Byte} {k : Line} (hk : line.toNat = k.val) (e : Edges) (holdOff : Byte) (s : State) :
    setCaptureRequest line e.code holdOff s =
      (s.setCaptureLine k { s.capture.lines[k.val] with edges := e, holdOff := holdOff.toNat }).reply (done []) := by
  simp only [setCaptureRequest, lineOf_eq_some hk, e.ofCode_code]

/-- The 7 bytes of a capture record (9.4.2). -/
theorem captureBytes_eq (r : CaptureRecord) : captureBytes r =
    [BitVec.ofNat 8 r.line.val, if r.rise then 1 else 2, if r.lostBefore then 1 else 0] ++ u16 r.cycle.toNat ++
      u16 r.offset := by
  obtain ⟨line, rise, cycle, offset, lost⟩ := r
  cases rise <;> rfl

theorem takeCapturesRequest_eq (count : Byte) (s : State) : takeCapturesRequest count s =
    (s.setCapture { s.capture with queue := s.capture.queue.drop count.toNat }).reply
      ([0x00, BitVec.ofNat 8 (s.capture.queue.length - count.toNat),
          BitVec.ofNat 8 (min count.toNat s.capture.queue.length)] ++
        (s.capture.queue.take count.toNat).flatMap fun r =>
          [BitVec.ofNat 8 r.line.val, if r.rise then 1 else 2, if r.lostBefore then 1 else 0] ++ u16 r.cycle.toNat ++
            u16 r.offset) := by
  simp only [takeCapturesRequest, List.length_drop, List.length_take, ← captureBytes_eq]
  rfl

/-- Settles O50: each request by the field that it refuses first, or by what it writes. -/
theorem captureRequests : Obligations.CaptureRequests := by
  refine ⟨fun retry tag line edges holdOff s h => ⟨fun hl => ?_, fun hl he => ?_, ?_⟩, fun retry tag count s h => ?_⟩
  · exact entered_replies h (setCaptureRequest_badLine hl edges holdOff s)
  · exact entered_replies h (setCaptureRequest_badEdges hl he holdOff s)
  · rintro k e hk rfl
    exact entered_replies h (setCaptureRequest_eq hk e holdOff s) rfl
  · exact entered_replies h (takeCapturesRequest_eq count s)

/-! ## CANCEL_MARKS and FORCE_MARK (R145, R146) -/

theorem cancelMarksRequest_badLine {line : Byte} (h : 3 < line.toNat) (s : State) :
    cancelMarksRequest line s = s.reply (badForm 1) := by
  rw [cancelMarksRequest, lineOf_eq_none h]

theorem cancelMarksRequest_eq {line : Byte} {k : Line} (hk : line.toNat = k.val) (s : State) :
    cancelMarksRequest line s = (s.setMarkLine k { s.marks[k.val] with schedule := [] }).reply
      (done (u8 (s.marks[k.val]).schedule.length)) := by
  rw [cancelMarksRequest, lineOf_eq_some hk]

theorem forceMarkRequest_badLine {line : Byte} (h : 3 < line.toNat) (level : Byte) (s : State) :
    forceMarkRequest line level s = s.reply (badForm 1) := by
  rw [forceMarkRequest, lineOf_eq_none h]

theorem forceMarkRequest_badLevel {line level : Byte} (hl : line.toNat ≤ 3) (hv : 1 < level.toNat) (s : State) :
    forceMarkRequest line level s = s.reply (badForm 2) := by
  obtain ⟨k, hk⟩ := exists_line hl
  simp only [forceMarkRequest, lineOf_eq_some hk, Level.ofCode_eq_none hv]

theorem forceMarkRequest_eq {line : Byte} {k : Line} (hk : line.toNat = k.val) (l : Level) (s : State) :
    forceMarkRequest line l.code s = (s.setMarkLine k ((s.marks[k.val]).step l)).reply (done [l.code]) := by
  simp only [forceMarkRequest, lineOf_eq_some hk, l.ofCode_code]

/-- Settles O53: each request by the field that it refuses first, or by the mark line that it writes. -/
theorem markRequests : Obligations.MarkRequests := by
  refine ⟨fun retry tag line s h => ⟨fun hl => ?_, fun k hk => ?_⟩,
    fun retry tag line level s h => ⟨fun hl => ?_, fun hl hv => ?_, ?_⟩⟩
  · exact entered_replies h (cancelMarksRequest_badLine hl s)
  · exact entered_replies h (cancelMarksRequest_eq hk s) rfl
  · exact entered_replies h (forceMarkRequest_badLine hl level s)
  · exact entered_replies h (forceMarkRequest_badLevel hl hv s)
  · rintro k l hk rfl
    exact entered_replies h (forceMarkRequest_eq hk l s) rfl

end Sys2Proof.Machine
end

section
/-! SUPPORT. Mark lines as time runs: O54. -/

namespace Sys2Proof.Machine

open Sys2Proof.Safety

/-! ## Where no point is passed, and where one is (R131) -/

theorem not_passed_refl (p q : Point) : ¬ Passed p p q := by
  unfold Passed
  rintro ⟨hbehind, h | ⟨hcycle, hoffset⟩⟩
  · bv_omega
  · rcases hbehind with hne | hlt
    · exact hne hcycle.symm
    · omega

/-- Within one cycle the passed points are those of the cycle between the two offsets. -/
theorem passed_within_iff {c : Cycle} {a b : Nat} {p : Point} :
    Passed ⟨c, a⟩ ⟨c, b⟩ p ↔ p.cycle = c ∧ a < p.offset ∧ p.offset ≤ b := by
  simp only [Passed, BitVec.sub_self, BitVec.toNat_zero, Nat.not_lt_zero, false_or]
  constructor
  · rintro ⟨hbehind, hcycle, hle⟩
    exact ⟨hcycle, hbehind.resolve_left fun hne => hne hcycle.symm, hle⟩
  · rintro ⟨hcycle, hlt, hle⟩
    exact ⟨.inr hlt, hcycle, hle⟩

theorem not_passed_within {c : Cycle} {b : Nat} {p : Point} (h : p.cycle ≠ c ∨ b < p.offset) (a : Nat) :
    ¬ Passed ⟨c, a⟩ ⟨c, b⟩ p := by
  rw [passed_within_iff]
  rintro ⟨hcycle, -, hle⟩
  exact h.elim (· hcycle) (Nat.not_lt.mpr hle)

/-! ## One mark line (R142, R143) -/

section
variable {cycleLength : Nat} {now : Point → Point} {old new : Point} {m : MarkLine} {e : MarkEntry}

theorem MarkLine.pass_refl (p : Point) : m.pass cycleLength now p p = m := by
  rw [MarkLine.pass_of_none fun e _ => not_passed_refl p e.point]
  exact MarkLine.endIfPassed_not_passed fun q _ => not_passed_refl p q

theorem MarkLine.endIfPassed_resting (m : MarkLine) : (m.endIfPassed old new).resting = m.resting := by
  unfold MarkLine.endIfPassed
  (repeat' split) <;> rfl

theorem MarkLine.fire_step (h : e.width = 0) (at0 : Point) (m : MarkLine) : m.fire cycleLength at0 e = m.step e.level :=
  if_pos h

theorem MarkLine.fire_pulse (h : e.width ≠ 0) (at0 : Point) (m : MarkLine) : m.fire cycleLength at0 e =
    { m with current := e.level, pulseEnd := some (at0.plus cycleLength e.width) } := if_neg h

/-- The last of the passed entries fires behind the others, and its pulse ends if that end is passed too. -/
theorem MarkLine.pass_last {l post : List MarkEntry} (hm : m.schedule = (l ++ [e]) ++ post)
    (hpre : ∀ x ∈ l ++ [e], Passed old new x.point) (hpost : ∀ x ∈ post.head?, ¬ Passed old new x.point) :
    ∃ m' : MarkLine, m.pass cycleLength now old new = (m'.fire cycleLength (now e.point) e).endIfPassed old new := by
  refine ⟨l.foldl (fun m e => MarkLine.fire cycleLength (now e.point) e m) { m with schedule := post }, ?_⟩
  rw [MarkLine.pass_eq hm hpre hpost, List.foldl_append]
  rfl

theorem MarkLine.pass_resting {pre post : List MarkEntry} (hm : m.schedule = pre ++ post)
    (hpre : ∀ x ∈ pre, Passed old new x.point) (hpost : ∀ x ∈ post.head?, ¬ Passed old new x.point) :
    (m.pass cycleLength now old new).resting = ((pre.filter fun x => x.width == 0).getLast?.map (·.level)).getD m.resting := by
  rw [MarkLine.pass_eq hm hpre hpost, MarkLine.endIfPassed_resting, MarkLine.fires_resting]

/-- The head alone is passed, and its pulse goes on. -/
theorem MarkLine.pass_head {rest : List MarkEntry} (hm : m.schedule = e :: rest) (he : Passed old new e.point)
    (hrest : ∀ x ∈ rest.head?, ¬ Passed old new x.point)
    (hend : e.width ≠ 0 → ¬ Passed old new ((now e.point).plus cycleLength e.width)) :
    m.pass cycleLength now old new = ({ m with schedule := rest } : MarkLine).fire cycleLength (now e.point) e := by
  rw [MarkLine.pass_eq (pre := [e]) hm (by simpa using he) hrest]
  refine MarkLine.endIfPassed_not_passed fun p hp => ?_
  by_cases hw : e.width = 0
  · rw [List.foldl_cons, List.foldl_nil, MarkLine.fire_step hw] at hp
    cases hp
  · rw [List.foldl_cons, List.foldl_nil, MarkLine.fire_pulse hw] at hp
    cases hp
    exact hend hw

/-- Up to the point of the head in two moves of one cycle: the head fires at the end, whatever pulse ended on the way. -/
theorem MarkLine.pass_to_head {c : Cycle} {a b d : Nat} {rest : List MarkEntry} (hm : m.schedule = e :: rest)
    (hpoint : e.point = ⟨c, d⟩) (had : a < d) (hbd : b ≤ d) (hnow : now e.point = e.point)
    (hrest : ∀ x ∈ rest.head?, x.point.cycle ≠ c ∨ d < x.point.offset)
    (hspan : (d + e.width) / cycleLength < 2048) :
    ∃ m' : MarkLine, m'.resting = m.resting ∧ m'.schedule = rest ∧
      (m.pass cycleLength now ⟨c, a⟩ ⟨c, b⟩).pass cycleLength now ⟨c, b⟩ ⟨c, d⟩ = m'.fire cycleLength e.point e := by
  have hstay (f : Nat) : ∀ x ∈ rest.head?, ¬ Passed ⟨c, f⟩ ⟨c, d⟩ x.point :=
    fun x hx => not_passed_within (hrest x hx) f
  have hfires (f : Nat) (hf : f < d) (m : MarkLine) (hm : m.schedule = e :: rest) :
      m.pass cycleLength now ⟨c, f⟩ ⟨c, d⟩ = ({ m with schedule := rest } : MarkLine).fire cycleLength e.point e := by
    have hpassed : Passed ⟨c, f⟩ ⟨c, d⟩ e.point := by
      rw [hpoint, passed_within_iff]
      exact ⟨rfl, hf, le_rfl⟩
    rw [MarkLine.pass_head hm hpassed (hstay f), hnow]
    rw [hnow, hpoint]
    exact fun hw => not_passed_plus (by simp) (Nat.pos_of_ne_zero hw) hspan
  rcases hbd.eq_or_lt with rfl | hlt
  · exact ⟨{ m with schedule := rest }, rfl, rfl, by rw [MarkLine.pass_refl, hfires a had m hm]⟩
  · have hfirst : m.pass cycleLength now ⟨c, a⟩ ⟨c, b⟩ = m.endIfPassed ⟨c, a⟩ ⟨c, b⟩ := by
      refine MarkLine.pass_of_none fun x hx => ?_
      obtain rfl : e = x := by simpa [hm] using hx
      exact hpoint ▸ not_passed_within (.inr hlt) a
    refine ⟨{ m.endIfPassed ⟨c, a⟩ ⟨c, b⟩ with schedule := rest }, MarkLine.endIfPassed_resting m, rfl, ?_⟩
    rw [hfirst, hfires b hlt]
    rw [MarkLine.endIfPassed_schedule, hm]

/-- Up to the end of the pulse in two moves of one cycle: the pulse ends, and no entry fires. -/
theorem MarkLine.pass_to_pulseEnd {c : Cycle} {a b d : Nat} (hend : m.pulseEnd = some ⟨c, d⟩) (had : a < d) (hbd : b ≤ d)
    (hm : ∀ x ∈ m.schedule.head?, x.point.cycle ≠ c ∨ d < x.point.offset) :
    (m.pass cycleLength now ⟨c, a⟩ ⟨c, b⟩).pass cycleLength now ⟨c, b⟩ ⟨c, d⟩ = m.endPulse := by
  have hmove (f g : Nat) (hg : g ≤ d) : m.pass cycleLength now ⟨c, f⟩ ⟨c, g⟩ = m.endIfPassed ⟨c, f⟩ ⟨c, g⟩ := by
    refine MarkLine.pass_of_none fun x hx => not_passed_within ?_ f
    exact (hm x hx).imp_right hg.trans_lt
  have hends (f : Nat) (hf : f < d) : m.pass cycleLength now ⟨c, f⟩ ⟨c, d⟩ = m.endPulse := by
    rw [hmove f d le_rfl]
    exact MarkLine.endIfPassed_passed hend (passed_within_iff.mpr ⟨rfl, hf, le_rfl⟩)
  rcases hbd.eq_or_lt with rfl | hlt
  · rw [MarkLine.pass_refl, hends a had]
  · have hkeeps : m.pass cycleLength now ⟨c, a⟩ ⟨c, b⟩ = m := by
      rw [hmove a b hbd]
      refine MarkLine.endIfPassed_not_passed fun p hp => ?_
      obtain rfl : (⟨c, d⟩ : Point) = p := Option.some.inj (hend.symm.trans hp)
      exact not_passed_within (.inr hlt) a
    rw [hkeeps, hends b hlt]

end

/-! ## The mark lines while time passes within a cycle (R103, R127) -/

theorem marksRun_getElem (cycleLength : Nat) (old new : Point) (ms : Vector MarkLine 4) (k : Line) :
    (marksRun cycleLength old new ms)[k.val] =
      (ms[k.val]).pass cycleLength (Point.reachedAt cycleLength) old new := by
  simp [marksRun]

theorem marksRun_refl (cycleLength : Nat) (p : Point) (ms : Vector MarkLine 4) : marksRun cycleLength p p ms = ms := by
  ext k hk
  rw [marksRun_getElem cycleLength p p ms ⟨k, hk⟩, MarkLine.pass_refl]

theorem Point.reachedAt_within {cycleLength : Nat} {p : Point} (h : p.offset < cycleLength) : p.reachedAt cycleLength = p :=
  if_pos h

/-- Time that ends before the boundary goes to its end at once, or in two parts with a stuck line between them. -/
theorem State.passTime_within {n : Nat} {s : State} (hn : s.time.offset + n < s.master.cycleLength) :
    s.passTime n = s.elapse n ∨
      ∃ k ≤ n, s.passTime n = ((s.elapse k).faulted .stuckLine).elapse (n - k) := by
  cases hstuck : s.stuckWithin n with
  | none => exact .inl (s.passTime_quiet n (by simp only [State.untilBoundary]; omega) hstuck)
  | some k =>
    obtain ⟨-, hkn, -⟩ := State.stuckWithin_some hstuck
    obtain ⟨m, rfl⟩ := Nat.exists_eq_add_of_le hkn
    refine .inr ⟨k, hkn, ?_⟩
    rw [State.passTime_stuck (by omega) (by omega) hstuck, Nat.add_sub_cancel_left]
    refine State.passTime_quiet _ _ ?_ ?_
    · have hoffset : (s.elapse k).time.offset = s.time.offset + k := rfl
      simp only [State.untilBoundary, State.faulted_time, State.faulted_master, State.elapse_master, hoffset]
      omega
    · refine Option.eq_none_iff_forall_ne_some.mpr fun j hj => ?_
      obtain ⟨hsup, -⟩ := State.stuckWithin_some hj
      rw [State.faulted_master] at hsup
      cases hsup

/-- Whether or not a stuck line comes on the way, time and mark lines run on to the end of the time that passes. -/
theorem State.passTime_marks_within {n : Nat} {s : State} (hn : s.time.offset + n < s.master.cycleLength) :
    (s.passTime n).time = s.time.run n ∧
    ∃ k ≤ n, (s.passTime n).marks =
      marksRun s.master.cycleLength ⟨s.time.cycle, s.time.offset + k⟩ ⟨s.time.cycle, s.time.offset + n⟩
        (marksRun s.master.cycleLength ⟨s.time.cycle, s.time.offset⟩ ⟨s.time.cycle, s.time.offset + k⟩ s.marks) := by
  rcases State.passTime_within hn with hquiet | ⟨k, hk, hstuck⟩
  · rw [hquiet]
    exact ⟨rfl, n, le_rfl, (marksRun_refl _ _ _).symm⟩
  · obtain ⟨m, rfl⟩ := Nat.exists_eq_add_of_le hk
    rw [Nat.add_sub_cancel_left] at hstuck
    have htime : (s.passTime (k + m)).time = ((s.elapse k).faulted .stuckLine).time.run m := by rw [hstuck]; rfl
    rw [State.faulted_time] at htime
    refine ⟨?_, k, hk, ?_⟩
    · rw [htime]
      simp only [State.elapse, TimeUnit.run, Nat.add_assoc]
    · rw [hstuck, State.elapse, State.faulted_time, State.faulted_marks, State.faulted_master]
      simp only [State.elapse, TimeUnit.run, TimeUnit.point, Nat.add_assoc]

/-! ## MARK_FIRES and PULSE_END -/

/-- A wait within the cycle ends at the offset waited for. -/
theorem State.passTime_to_offset {d : Nat} {s : State} (had : s.time.offset < d) (hd : d < s.master.cycleLength) :
    (s.passTime (d - s.time.offset)).time.cycle = s.time.cycle ∧ (s.passTime (d - s.time.offset)).time.offset = d ∧
    ∃ b ≤ d, ∀ k : Line, (s.passTime (d - s.time.offset)).marks[k.val] =
      ((s.marks[k.val]).pass s.master.cycleLength (Point.reachedAt s.master.cycleLength) ⟨s.time.cycle, s.time.offset⟩
        ⟨s.time.cycle, b⟩).pass s.master.cycleLength (Point.reachedAt s.master.cycleLength) ⟨s.time.cycle, b⟩
          ⟨s.time.cycle, d⟩ := by
  have hsum : s.time.offset + (d - s.time.offset) = d := by omega
  obtain ⟨htime, k, hk, hmarks⟩ := State.passTime_marks_within (s := s) (n := d - s.time.offset) (by omega)
  rw [hsum] at hmarks
  refine ⟨by rw [htime]; rfl, by rw [htime]; exact hsum, s.time.offset + k, by omega, fun j => ?_⟩
  rw [hmarks, marksRun_getElem, marksRun_getElem]

theorem exec_markFires {k : Line} {e : MarkEntry} {rest : List MarkEntry} {s : State} (hrun : s.inReset = false)
    (hm : (s.marks[k.val]).schedule = e :: rest) (hcycle : e.point.cycle = s.time.cycle)
    (had : s.time.offset < e.point.offset) (hd : e.point.offset < s.master.cycleLength) :
    exec (.markFires k) s = .next (s.passTime (e.point.offset - s.time.offset)) := by
  refine (whenRunning_of_running hrun).trans (congrArg _ ?_)
  simp only [State.runToMark, hm]
  exact if_pos ⟨hcycle, had, hd⟩

theorem exec_pulseEnd {k : Line} {p : Point} {s : State} (hrun : s.inReset = false)
    (hp : (s.marks[k.val]).pulseEnd = some p) (hcycle : p.cycle = s.time.cycle)
    (had : s.time.offset < p.offset) (hd : p.offset < s.master.cycleLength) :
    exec (.pulseEnd k) s = .next (s.passTime (p.offset - s.time.offset)) := by
  refine (whenRunning_of_running hrun).trans (congrArg _ ?_)
  simp only [State.runToPulseEnd, hp]
  exact if_pos ⟨hcycle, had, hd⟩

/-- Settles O54: the two rows by the moves that lead to their points, and a move by the entries it passes. -/
theorem marksFire : Obligations.MarksFire := by
  refine ⟨fun k e rest s hrun hm hcycle had hd hlen hwidth hrest => ?_, fun k p s hrun hp hcycle had hd hrest => ?_, ?_⟩
  · obtain ⟨hcyc, hoff, b, hbd, hline⟩ := State.passTime_to_offset had hd
    have hspan : (e.point.offset + e.width) / s.master.cycleLength < 2048 := Nat.div_lt_of_lt_mul (by omega)
    obtain ⟨m', hresting, hschedule, hfire⟩ := MarkLine.pass_to_head hm
      (hpoint := show e.point = ⟨s.time.cycle, e.point.offset⟩ by rw [← hcycle]) had hbd
      (Point.reachedAt_within hd) (fun x hx => hrest x (List.mem_of_mem_head? hx)) hspan
    refine ⟨_, exec_markFires hrun hm hcycle had hd, rfl, hcyc, hoff, ?_⟩
    rw [hline k, hfire]
    by_cases hw : e.width = 0
    · rw [MarkLine.fire_step hw]
      exact ⟨hschedule, rfl, fun _ => ⟨rfl, rfl⟩, fun hne => absurd hw hne⟩
    · rw [MarkLine.fire_pulse hw]
      exact ⟨hschedule, rfl, fun hzero => absurd hzero hw, fun _ => ⟨hresting, rfl⟩⟩
  · obtain ⟨hcyc, hoff, b, hbd, hline⟩ := State.passTime_to_offset had hd
    refine ⟨_, exec_pulseEnd hrun hp hcycle had hd, rfl, hcyc, hoff, ?_⟩
    rw [hline k]
    exact MarkLine.pass_to_pulseEnd (by rw [hp, ← hcycle]) had hbd fun x hx => hrest x (List.mem_of_mem_head? hx)
  · rintro k cycleLength old new marks m t pre post rfl rfl hm hpre hpost
    rw [marksRun_getElem]
    refine ⟨MarkLine.pass_schedule hm hpre hpost, ?_, ?_, ?_⟩
    · rintro rfl hnot
      rw [MarkLine.pass_of_none (by rw [hm]; exact hpost)]
      exact MarkLine.endIfPassed_not_passed hnot
    · rintro rfl p hp hpassed
      rw [MarkLine.pass_of_none (by rw [hm]; exact hpost)]
      exact MarkLine.endIfPassed_passed hp hpassed
    · rintro l e rfl
      refine ⟨MarkLine.pass_resting hm hpre hpost, ?_⟩
      obtain ⟨m', hlast⟩ := MarkLine.pass_last (now := Point.reachedAt cycleLength) hm hpre hpost
      rw [hlast]
      refine ⟨fun hw => ?_, ?_⟩
      · rw [MarkLine.fire_step hw, MarkLine.endIfPassed_not_passed (by simp [MarkLine.step])]
        exact ⟨rfl, rfl⟩
      · rintro hw at0 p rfl rfl
        rw [MarkLine.fire_pulse hw]
        refine ⟨fun hpassed => ?_, fun hnot => ?_⟩
        · rw [MarkLine.endIfPassed_passed rfl hpassed]
          exact ⟨rfl, rfl⟩
        · rw [MarkLine.endIfPassed_not_passed (by rintro q ⟨⟩; exact hnot)]
          exact ⟨rfl, rfl⟩

end Sys2Proof.Machine
end

section
/-! SUPPORT. The cycle boundary in every block that counts it: O30. -/

namespace Sys2Proof.Machine

open Sys2Proof.Safety

/-! ## The boundary ends the wait for it (R128) -/

/-- While no stuck line comes, the busy count stays below 600 characters. -/
theorem State.elapse_busy_lt {b : Nat} {s : State} (hquiet : NoStuck b s) (hsup : s.master.state.supervised = true) :
    (s.elapse b).engine.busy < 600 * s.master.rate.charMicros := by
  have hpos := s.master.rate.charMicros_pos
  rw [State.elapse_engine]
  simp only [hsup, if_true]
  split
  next => omega
  next hactive =>
    rcases hquiet hsup with hfar | ⟨hhear, hidle⟩
    · exact hfar
    · have hnearer := State.elapse_untilIdle hhear b
      have hleft : 0 < (s.elapse b).untilIdle := by
        simp only [State.untilIdle, State.chars, Config.idleGap, State.elapse_master]
        split <;> omega
      omega

theorem State.masterBoundary_busy_le (s : State) : s.masterBoundary.engine.busy ≤ s.engine.busy := by
  unfold State.masterBoundary
  split
  next =>
    split
    next => rfl
    next =>
      split
      · rw [State.settleListen_engine, State.changeMastership_busy _ _ _ rfl]
        exact Nat.zero_le _
      · rfl
  next =>
    split
    · rw [State.changeMastership_busy _ _ _ rfl]
      exact Nat.zero_le _
    · rfl
  all_goals rfl

theorem State.cycleBoundary_busy_le (s : State) : s.cycleBoundary.engine.busy ≤ s.engine.busy := by
  rw [State.cycleBoundary]
  refine (State.masterBoundary_busy_le _).trans ?_
  simp

theorem State.supervised_of_cycleBoundary {s : State} (h : s.cycleBoundary.master.state.supervised = true) :
    s.master.state.supervised = true := by
  by_contra hsup
  rw [State.cycleBoundary_unsupervised (Bool.eq_false_iff.mpr hsup)] at h
  exact hsup h

theorem idleLaw_cycleBoundary {s : State} (h : IdleLaw s) : IdleLaw s.cycleBoundary := by
  intro hsup hidle
  rw [s.cycleBoundary_lineEased.quiet, s.cycleBoundary_lineEased.rate] at hidle
  have hzero := h (State.supervised_of_cycleBoundary hsup) hidle
  have hle := s.cycleBoundary_busy_le
  omega

theorem State.elapse_zero_engine {s : State} (h : IdleLaw s) : (s.elapse 0).engine = s.engine := by
  have hactive : s.activeTime 0 = 0 := by simp [State.activeTime]
  have hquiet : (s.elapse 0).engine.quiet = s.engine.quiet := by
    rw [State.elapse_engine]
    exact if_pos hactive
  have hbusy : (s.elapse 0).engine.busy = s.engine.busy := by
    rw [State.elapse_engine, hquiet]
    dsimp only
    split
    next hsup =>
      split
      next hidle => exact (h hsup hidle).symm
      next => rfl
    next => rfl
  calc (s.elapse 0).engine
      = { s.engine with quiet := (s.elapse 0).engine.quiet, busy := (s.elapse 0).engine.busy } := by
        rw [State.elapse_engine]
    _ = s.engine := by rw [hquiet, hbusy]

/-- No time passing is no change, the busy count standing as R103 keeps it. -/
theorem State.elapse_zero {s : State} (h : IdleLaw s) : s.elapse 0 = s := by
  rw [State.mk.injEq]
  exact ⟨rfl, rfl, rfl, rfl, rfl, State.elapse_zero_engine h, rfl, rfl, rfl, marksRun_refl _ _ _, rfl, rfl⟩

/-- Where no stuck line comes first, the wait for the boundary ends with it. -/
theorem State.passTime_toBoundary {b : Nat} {s : State} (hlen : 1 ≤ s.master.cycleLength)
    (hb : s.time.offset + b = s.master.cycleLength) (hquiet : NoStuck b s) :
    s.passTime b = (s.elapse b).cycleBoundary := by
  have hnone : (s.elapse b).cycleBoundary.stuckWithin 0 = none := by
    refine State.stuckWithin_of_noStuck (k := 0) (fun hsup => .inl ?_) (Nat.zero_le _)
    have hbusy := State.elapse_busy_lt hquiet (State.supervised_of_cycleBoundary (s := s.elapse b) hsup)
    have hle := (s.elapse b).cycleBoundary_busy_le
    rw [State.cycleBoundary_rate, State.elapse_master]
    omega
  have hbefore : 0 < (s.elapse b).cycleBoundary.untilBoundary := by
    rw [State.untilBoundary, State.cycleBoundary_cycleLength, State.cycleBoundary_time]
    exact hlen
  have htaken := State.passTime_boundary hlen hb hquiet 0
  rw [Nat.add_zero, State.passTime_quiet _ _ hbefore hnone] at htaken
  exact htaken.trans (State.elapse_zero (idleLaw_cycleBoundary (idleLaw_elapse b s)))

theorem exec_cycleBoundary {b : Nat} {s : State} (hrun : s.inReset = false) (hlen : 1 ≤ s.master.cycleLength)
    (hb : s.time.offset + b = s.master.cycleLength) (hquiet : NoStuck b s) :
    exec .cycleBoundary s = .next (s.elapse b).cycleBoundary := by
  have hwait : s.untilBoundary = b := by simp only [State.untilBoundary]; omega
  rw [← State.passTime_toBoundary hlen hb hquiet, ← hwait]
  exact whenRunning_of_running hrun

/-! ## The mastership unit counts the boundary (R110, R116, R118) -/

/-- The boundary brings no count to its limit. -/
def Mastership.BelowLimits (m : Mastership) : Prop :=
  (m.state = .following → m.silenceCount + 1 < m.silenceLimit) ∧
  (m.state = .listening → ∀ k, m.listenCount = some k → k + 1 ≤ m.timeout)

/-- The mastership record behind a boundary that brings no count to its limit. -/
def Mastership.counted (m : Mastership) : Mastership :=
  match m.state with
  | .listening => { m with listenCount := some (m.listenCount.elim 0 (· + 1)) }
  | .following => { m with silenceCount := m.silenceCount + 1 }
  | .leading => { m with armed := !m.handovers.isEmpty }
  | .offline | .faulted => m

theorem State.masterBoundary_below {s : State} (h : s.master.BelowLimits) : s.masterBoundary = s.setMaster s.master.counted := by
  obtain ⟨hfollow, hlisten⟩ := h
  unfold State.masterBoundary
  split
  next hst =>
    split
    next hk => simp [Mastership.counted, hst, hk]
    next k hk =>
      rw [if_neg (Nat.not_lt.mpr (hlisten hst k hk))]
      simp [Mastership.counted, hst, hk]
  next hst =>
    rw [if_neg (Nat.not_le.mpr (hfollow hst))]
    simp [Mastership.counted, hst]
  next hst => simp [Mastership.counted, hst]
  next hst => rw [Mastership.counted, hst]; rfl
  next hst => rw [Mastership.counted, hst]; rfl

section
variable {m : Mastership}

theorem Mastership.BelowLimits.of_following (hst : m.state = .following) (h : m.silenceCount + 1 < m.silenceLimit) :
    m.BelowLimits := ⟨fun _ => h, fun hl => absurd (hst.symm.trans hl) nofun⟩

theorem Mastership.BelowLimits.of_listening (hst : m.state = .listening)
    (h : ∀ k, m.listenCount = some k → k + 1 ≤ m.timeout) : m.BelowLimits :=
  ⟨fun hf => absurd (hst.symm.trans hf) nofun, fun _ => h⟩

theorem Mastership.BelowLimits.of_other (hf : m.state ≠ .following) (hl : m.state ≠ .listening) : m.BelowLimits :=
  ⟨fun h => absurd h hf, fun h => absurd h hl⟩

end

/-! ## The cycle record closes (R59, R74) -/

/-- The state with a list of missed slots counted in the cycle record and in CYCLE_OVERRUN. -/
def State.countMissed (c : CycleRecord) (missed : List Sid) (s : State) : State :=
  if missed = [] then s
  else { s with
    plan := { s.plan with record := some { c with late := true, skipped := c.skipped + missed.length } }
    reports := s.reports.offerOverrun c.cycle (c.skipped + missed.length) missed.length }

theorem State.closeRecord_eq {c : CycleRecord} {s : State} (hrec : s.plan.record = some c) :
    s.closeRecord = s.countMissed c s.unreached := by
  simp only [State.closeRecord, State.countMissed, List.isEmpty_iff, State.noteLate, State.mapRecord, hrec]
  rfl

theorem State.closeRecord_of_none {s : State} (hrec : s.plan.record = none) : s.closeRecord = s := by
  have hnone : s.unreached = [] := by
    unfold State.unreached
    rw [hrec]
    cases s.plan.stage <;> rfl
  rw [State.closeRecord, hnone]
  rfl

/-- The plan opens the new record whatever the old one came to. -/
theorem State.closeRecord_openRecord_plan (s : State) : s.closeRecord.openRecord.plan = s.openRecord.plan := by
  cases hrec : s.plan.record with
  | none => rw [State.closeRecord_of_none hrec]
  | some c =>
    simp only [State.openRecord, State.setPlan, State.closeRecord_time]
    rw [State.closeRecord_eq hrec, State.countMissed]
    split <;> rfl

/-- Closing the record reads neither the time nor the mark lines. -/
theorem State.closeRecord_timeBoundary (s : State) : s.timeBoundary.closeRecord.reports = s.closeRecord.reports := by
  cases hrec : s.plan.record with
  | none => rw [State.closeRecord_of_none hrec, State.closeRecord_of_none (by exact hrec)]; rfl
  | some c =>
    have hsame : s.timeBoundary.unreached = s.unreached := rfl
    rw [State.closeRecord_eq hrec, State.closeRecord_eq (s := s.timeBoundary) hrec, hsame, State.countMissed, State.countMissed]
    split <;> rfl

theorem State.mem_dueGroup_unique {c : Cycle} {s : State} {i : Sid} {p q : Nat}
    (hp : i ∈ allSids.filter fun i => (s.stream i).bind (StreamRecord.duePeriod c) == some p)
    (hq : i ∈ allSids.filter fun i => (s.stream i).bind (StreamRecord.duePeriod c) == some q) : p = q := by
  have hp' := beq_iff_eq.mp (List.mem_filter.mp hp).2
  have hq' := beq_iff_eq.mp (List.mem_filter.mp hq).2
  exact Option.some.inj (hp'.symm.trans hq')

/-- No stream is due twice in a cycle. -/
theorem State.dueStreams_nodup (c : Cycle) (s : State) : (s.dueStreams c).Nodup := by
  refine List.nodup_flatMap.mpr ⟨fun p _ => ?_, periods_ascend.imp fun {p q} hpq i hi hj => ?_⟩
  · exact List.Nodup.filter _ (by decide)
  · exact hpq.ne (State.mem_dueGroup_unique hi hj)

theorem State.unreached_opening {c : CycleRecord} {s : State} (hstage : s.plan.stage = .opening)
    (hrec : s.plan.record = some c) :
    s.unreached = (s.dueStreams c.cycle).filter fun i => (s.stream i).any fun r => r.state == .running := by
  simp only [State.unreached, hstage, hrec]

theorem State.mem_unreached_opening {c : CycleRecord} {s : State} (hstage : s.plan.stage = .opening)
    (hrec : s.plan.record = some c) (hplace : ∀ i : Sid, (s.stream i).all placeRight = true) (i : Sid) :
    i ∈ s.unreached ↔ ∃ r period phase, s.stream i = some r ∧ r.state = .running ∧
      r.defn.kind = .cyclic period phase ∧ r.holdsLoad = true ∧ c.cycle.toNat % period = phase := by
  rw [State.unreached_opening hstage hrec, List.mem_filter, State.mem_dueStreams_iff hplace]
  constructor
  · rintro ⟨⟨r, period, phase, hr, hkind, hload, hdue⟩, hrun⟩
    exact ⟨r, period, phase, hr, by simpa [hr] using hrun, hkind, hload, hdue⟩
  · rintro ⟨r, period, phase, hr, hrun, hkind, hload, hdue⟩
    exact ⟨⟨r, period, phase, hr, hkind, hload, hdue⟩, by simp [hr, hrun]⟩

theorem State.serviceable_isSome {c : CycleRecord} {s : State} (hrec : s.plan.record = some c) (i : Sid) :
    (s.serviceable i).isSome = (decide (i ∉ c.renewed) && (s.stream i).any fun r => r.state == .running) := by
  rw [State.serviceable, hrec]
  by_cases hi : i ∈ c.renewed
  · simp [hi]
  · cases s.stream i with
    | none => simp [hi]
    | some r => by_cases hrun : r.state = .running <;> simp [hi, hrun]

theorem State.unreached_cyclic {c : CycleRecord} {s : State} (hstage : s.plan.stage = .cyclic)
    (hrec : s.plan.record = some c) :
    s.unreached = (c.dueList.drop (c.duePlace + 1)).filter fun i =>
      decide (i ∉ c.renewed) && (s.stream i).any fun r => r.state == .running := by
  simp only [State.unreached, hstage, hrec, State.serviceable_isSome hrec]

theorem State.closeRecord_other {s : State} (hopening : s.plan.stage ≠ .opening) (hcyclic : s.plan.stage ≠ .cyclic) :
    s.closeRecord = s := by
  have hnone : s.unreached = [] := by
    unfold State.unreached
    split
    next h _ => exact absurd h hopening
    next h _ => exact absurd h hcyclic
    next => rfl
  rw [State.closeRecord, hnone]
  rfl

/-! ## The streams ARMED at the new cycle run (R7) -/

/-- The stream is ARMED at the start of a cycle. -/
def StreamRecord.startsAt (c : Cycle) (r : StreamRecord) : Bool :=
  decide (r.state = .armed ∧ r.trigger = some (.atCycle c))

/-- The one cycle start that a boundary passes is that of the new cycle. -/
theorem StreamRecord.armedAt_next (c : Cycle) :
    StreamRecord.armedAt (fun a => passes ⟨c + 1 - 1, 0⟩ ⟨c + 1, 0⟩ ⟨a, 0⟩) = StreamRecord.startsAt (c + 1) := by
  funext r
  rw [Bool.eq_iff_iff, StreamRecord.armedAt_starts_iff, StreamRecord.startsAt, decide_eq_true_eq]
  refine and_congr_right fun _ => ⟨?_, fun ht => ⟨c + 1, ht, by bv_omega, le_rfl⟩⟩
  rintro ⟨a, ht, hlow, hhigh⟩
  obtain rfl : a = c + 1 := by bv_omega
  exact ht

/-! ## The boundary, block by block (R128) -/

/-- The plan and the streams behind the boundary, before the mastership unit takes it. -/
def State.boundaryTaken (s : State) : State :=
  s.timeBoundary.planBoundary.triggerAll (StreamRecord.startsAt (s.time.cycle + 1))

theorem State.cycleBoundary_eq (s : State) : s.cycleBoundary = s.boundaryTaken.masterBoundary := by
  rw [State.boundaryTaken, ← StreamRecord.armedAt_next]
  rfl

theorem State.boundaryTaken_master (s : State) : s.boundaryTaken.master = s.master := by
  simp [State.boundaryTaken]

theorem State.boundaryTaken_engine (s : State) : s.boundaryTaken.engine = s.engine := by
  simp [State.boundaryTaken]

theorem State.boundaryTaken_port (s : State) : s.boundaryTaken.port = s.port := by
  simp [State.boundaryTaken]

theorem State.cycleBoundary_below {s : State} (h : s.master.BelowLimits) :
    s.cycleBoundary = s.boundaryTaken.setMaster s.master.counted := by
  rw [State.cycleBoundary_eq, State.masterBoundary_below (by rwa [State.boundaryTaken_master]), State.boundaryTaken_master]

theorem State.cycleBoundary_marks (s : State) : s.cycleBoundary.marks =
    marksRun s.master.cycleLength s.time.point s.time.boundary.point s.marks := by
  rw [State.cycleBoundary, State.masterBoundary_marks]
  simp [State.timeBoundary]

theorem State.planBoundary_leading {s : State} (h : s.master.state = .leading) : s.planBoundary = s.closeRecord.openRecord :=
  if_pos h

theorem State.planBoundary_other {s : State} (h : s.master.state ≠ .leading) : s.planBoundary = s := if_neg h

theorem State.boundaryTaken_plan_leading {s : State} (h : s.master.state = .leading) :
    s.boundaryTaken.plan = { s.plan with stage := .opening, record := some (newRecord (s.time.cycle + 1)) } := by
  rw [State.boundaryTaken, State.triggerAll_plan, State.planBoundary_leading (by exact h), State.closeRecord_openRecord_plan]
  rfl

theorem State.boundaryTaken_plan_other {s : State} (h : s.master.state ≠ .leading) : s.boundaryTaken.plan = s.plan := by
  rw [State.boundaryTaken, State.triggerAll_plan, State.planBoundary_other (by exact h), State.timeBoundary_plan]

theorem State.boundaryTaken_stream (i : Sid) (s : State) : s.boundaryTaken.stream i = (s.stream i).map fun r =>
    if r.startsAt (s.time.cycle + 1) then { r with state := .running, trigger := none } else r := by
  rw [State.boundaryTaken, (State.triggerAll_spec _ _).1 i, State.stream, State.planBoundary_streams]
  rfl

theorem State.boundaryTaken_reports (s : State) : s.boundaryTaken.reports =
    startReports (StreamRecord.startsAt (s.time.cycle + 1)) s
      (if s.master.state = .leading then s.closeRecord.reports else s.reports) := by
  have hplan : s.timeBoundary.planBoundary.reports =
      if s.master.state = .leading then s.closeRecord.reports else s.reports := by
    split
    next h => rw [State.planBoundary_leading (by exact h), State.openRecord_reports, State.closeRecord_timeBoundary]
    next h => rw [State.planBoundary_other (by exact h), State.timeBoundary_reports]
  rw [State.boundaryTaken, (State.triggerAll_spec _ _).2, hplan]
  refine startReports_congr (fun i => ?_) _ _
  rw [State.stream, State.planBoundary_streams]
  rfl

/-- Settles O30: the wait for the boundary, the boundary block by block, and the closing of the cycle record. -/
theorem boundaryAdvances : Obligations.BoundaryAdvances := by
  refine ⟨fun s hrun => whenRunning_of_running hrun, ?_, ?_⟩
  · rintro b s v hit hrun hlen hb hquiet rfl rfl
    have hwhole (h : s.master.BelowLimits) :
        (s.elapse b).cycleBoundary = (s.elapse b).boundaryTaken.setMaster s.master.counted :=
      State.cycleBoundary_below (s := s.elapse b) h
    have hmaster {m : Mastership} (h : s.master.BelowLimits) (hm : s.master.counted = m) :
        (s.elapse b).cycleBoundary.master = m := by
      rw [hwhole h, State.setMaster_master, hm]
    refine ⟨_, exec_cycleBoundary hrun hlen hb hquiet, State.cycleBoundary_time _, ?_, State.cycleBoundary_memory _,
      State.cycleBoundary_capture _, fun hst hlow => ?_, fun hst hnone => ?_, fun hst k hk hlow => ?_, fun hst => ?_,
      fun hst => ?_, fun hfollow hlisten => ?_⟩
    · have hpoint : (s.elapse b).time.point = ⟨s.time.cycle, s.master.cycleLength⟩ := congrArg (Point.mk _) hb
      rw [State.cycleBoundary_marks, hpoint]
      rfl
    · exact hmaster (.of_following hst hlow) (by simp [Mastership.counted, hst])
    · exact hmaster (.of_listening hst (by simp [hnone])) (by simp [Mastership.counted, hst, hnone])
    · exact hmaster (.of_listening hst (by simpa [hk] using hlow)) (by simp [Mastership.counted, hst, hk])
    · have hbelow : s.master.BelowLimits := .of_other (by simp [hst]) (by simp [hst])
      refine ⟨hmaster hbelow (by simp [Mastership.counted, hst]), ?_⟩
      rw [hwhole hbelow, State.setMaster_plan, State.boundaryTaken_plan_leading (s := s.elapse b) hst]
      rfl
    · refine hmaster (.of_other ?_ ?_) ?_ <;> rcases hst with hst | hst <;> simp [Mastership.counted, hst]
    · rw [hwhole ⟨hfollow, hlisten⟩]
      refine ⟨fun hne => ?_, ?_, ?_, ?_, fun i => ?_⟩
      · rw [State.setMaster_plan, State.boundaryTaken_plan_other (s := s.elapse b) hne, State.elapse_plan]
      · rw [State.setMaster_engine, State.boundaryTaken_engine]
      · rw [State.setMaster_port, State.boundaryTaken_port, State.elapse_port]
      · rw [State.setMaster_reports, State.boundaryTaken_reports]
        rfl
      · rw [State.setMaster_stream, State.boundaryTaken_stream]
        rfl
  · rintro c s counted hrec rfl
    refine ⟨fun hstage hplace => ⟨s.unreached, ?_, State.closeRecord_eq hrec,
      State.mem_unreached_opening hstage hrec hplace⟩, fun hstage => ?_, State.closeRecord_other⟩
    · rw [State.unreached_opening hstage hrec]
      exact (State.dueStreams_nodup c.cycle s).filter _
    · rw [State.closeRecord_eq hrec, State.unreached_cyclic hstage hrec]
      rfl

end Sys2Proof.Machine
end

section
/-! SUPPORT. The hand-over of replies and the deferred reply of a waiting request: O17. -/

namespace Sys2Proof.Machine

/-! ## READY slots hand their replies over (R160, R165) -/

theorem Port.handOver_replyQueue (p : Port) : p.handOver.replyQueue =
    p.replyQueue ++ (p.window.filterMap (·.reply)).take (8 - p.replyQueue.length) := rfl

theorem Port.handOver_window (p : Port) : p.handOver.window =
    p.window.filter (·.reply.isNone) ++ (p.window.filter (·.reply.isSome)).drop (8 - p.replyQueue.length) := rfl

/-- A WAITING slot hands nothing over. -/
theorem filterMap_reply_ready (l : List Slot) :
    (l.filter (·.reply.isSome)).filterMap (·.reply) = l.filterMap (·.reply) := by
  rw [List.filterMap_filter]
  congr 1
  funext x
  cases h : x.reply <;> simp

theorem filterMap_reply_waiting (l : List Slot) : (l.filter (·.reply.isNone)).filterMap (·.reply) = [] := by
  simp

/-- Of READY slots each hands one reply over, in its place. -/
theorem filterMap_reply_drop {l : List Slot} (h : ∀ x ∈ l, x.reply.isSome = true) (n : Nat) :
    (l.drop n).filterMap (·.reply) = (l.filterMap (·.reply)).drop n := by
  induction l generalizing n with
  | nil => simp
  | cons x l ih =>
    obtain ⟨hx, hl⟩ := List.forall_mem_cons.mp h
    obtain ⟨r, hr⟩ := Option.isSome_iff_exists.mp hx
    cases n with
    | zero => rfl
    | succ n => simp only [List.drop_succ_cons, List.filterMap_cons, hr, ih hl]

theorem Port.handOver_window_replies (p : Port) : p.handOver.window.filterMap (·.reply) =
    (p.window.filterMap (·.reply)).drop (8 - p.replyQueue.length) := by
  rw [Port.handOver_window, List.filterMap_append, filterMap_reply_waiting, List.nil_append,
    filterMap_reply_drop (fun _ hx => (List.mem_filter.mp hx).2), filterMap_reply_ready]

theorem Port.handOver_window_waiting (p : Port) :
    p.handOver.window.filter (·.reply.isNone) = p.window.filter (·.reply.isNone) := by
  have hnone : ((p.window.filter (·.reply.isSome)).drop (8 - p.replyQueue.length)).filter (·.reply.isNone) = [] := by
    refine List.filter_eq_nil_iff.mpr fun x hx => ?_
    have hsome : x.reply.isSome = true := (List.mem_filter.mp (List.mem_of_mem_drop hx)).2
    simp [Option.isSome_iff_ne_none.mp hsome]
  rw [Port.handOver_window, List.filter_append, hnone, List.append_nil, List.filter_filter]
  simp only [Bool.and_self]

theorem Port.handOver_window_ready (p : Port) : p.handOver.window.filter (·.reply.isSome) =
    (p.window.filter (·.reply.isSome)).drop (8 - p.replyQueue.length) := by
  have hnone : (p.window.filter (·.reply.isNone)).filter (·.reply.isSome) = [] := by
    simp +contextual [List.filter_filter, Option.isSome_iff_ne_none]
  have hready : ∀ x ∈ (p.window.filter (·.reply.isSome)).drop (8 - p.replyQueue.length), x.reply.isSome = true :=
    fun _ hx => (List.mem_filter.mp (List.mem_of_mem_drop hx)).2
  rw [Port.handOver_window, List.filter_append, hnone, List.nil_append, List.filter_eq_self.mpr hready]

theorem Port.handOver_queue_length (p : Port) (h : p.replyQueue.length ≤ 8) :
    p.handOver.replyQueue.length = min 8 (p.replyQueue.length + (p.window.filterMap (·.reply)).length) := by
  rw [Port.handOver_replyQueue, List.length_append, List.length_take]
  omega

/-! ## The deferred reply is made (R161, R162) -/

theorem Slot.waitsFor_eq_true {tag : Byte} {x : Slot} : x.waitsFor tag = true ↔ x.tag = tag ∧ x.reply = none := by
  simp [Slot.waitsFor]

theorem Slot.not_waitsFor {tag : Byte} {x : Slot} :
    ¬ x.waitsFor tag = true ↔ (x.tag = tag → x.reply.isSome = true) := by
  rw [Slot.waitsFor_eq_true, not_and, Option.isSome_iff_ne_none]

theorem Port.makeReady_of_none {tag : Byte} {p : Port} (h : ∀ x ∈ p.window, x.tag = tag → x.reply.isSome = true)
    (body : Body) : p.makeReady tag body = p := by
  have hfind : p.window.find? (·.waitsFor tag) = none :=
    List.find?_eq_none.mpr fun x hx => Slot.not_waitsFor.mpr (h x hx)
  simp only [Port.makeReady, hfind]

theorem Port.makeReady_of_waiting {tag : Byte} {pre post : List Slot} {x : Slot} {p : Port} (hw : p.window = pre ++ x :: post)
    (hpre : ∀ y ∈ pre, y.tag = tag → y.reply.isSome = true) (hx : x.tag = tag) (hr : x.reply = none) (body : Body) :
    p.makeReady tag body =
      Port.enterReady (replyOf x.kind tag body) { p with window := pre ++ post } := by
  have hskip : ∀ y ∈ pre, ¬ y.waitsFor tag = true := fun y hy => Slot.not_waitsFor.mpr (hpre y hy)
  have hmeet : x.waitsFor tag = true := Slot.waitsFor_eq_true.mpr ⟨hx, hr⟩
  have hfind : p.window.find? (·.waitsFor tag) = some x := by
    rw [hw, List.find?_append, List.find?_eq_none.mpr hskip, List.find?_cons_of_pos hmeet]
    rfl
  have herase : p.window.eraseP (·.waitsFor tag) = pre ++ post := by
    rw [hw, List.eraseP_append_right _ hskip, List.eraseP_cons_of_pos hmeet]
  simp only [Port.makeReady, hfind, herase, hx]

/-- Settles O17: the hand-over list by list, then the two ways into the window and the two ways of a deferred reply. -/
theorem repliesHandedOver : Obligations.RepliesHandedOver := by
  refine ⟨fun p => ⟨?_, ?_, p.handOver_queue_length, p.handOver_window_waiting, ?_, rfl⟩, fun _ _ => rfl, fun _ _ _ => rfl,
    fun tag body p h => Port.makeReady_of_none h body, fun tag body pre post x p hw hpre hx hr => ?_⟩
  · rw [Port.handOver_window_replies, Port.handOver_replyQueue, List.append_assoc, List.take_append_drop]
  · rw [Port.handOver_replyQueue]
    exact List.prefix_append _ _
  · rw [Port.handOver_window_ready]
    exact List.drop_suffix _ _
  · rw [Port.makeReady_of_waiting hw hpre hx hr]
    rfl

end Sys2Proof.Machine
end

section
/-! SUPPORT. What the rest of the part does to the command port: it makes deferred replies, and nothing else (R161). -/

namespace Sys2Proof.Machine

open Sys2Proof.Safety

/-! ## Deferred replies made one after another -/

/-- The second port comes from the first by the making of deferred replies. -/
def Port.Answers (p q : Port) : Prop :=
  Relation.ReflTransGen (fun p q => ∃ (tag : Byte) (body : Body), q = p.makeReady tag body) p q

/-- From one state to the other, no more has happened to the port than the making of deferred replies. -/
def Answers (o s : State) : Prop := o.port.Answers s.port

theorem Answers.refl (s : State) : Answers s s := Relation.ReflTransGen.refl

section
variable {o s : State} (h : Answers o s)
include h

/-- The frame lemmas of the part: most operations leave the port as it is. -/
theorem Answers.of_port {t : State} (hp : t.port = s.port := by simp) : Answers o t := by
  unfold Answers
  rw [hp]
  exact h

theorem Answers.answer (tag : Byte) (body : Body) : Answers o (s.answer tag body) :=
  Relation.ReflTransGen.tail h ⟨tag, body, rfl⟩

theorem Answers.answerWaiter (w : Waiter) (body : Body) : Answers o (s.answerWaiter w body) := by
  cases w with
  | none => exact h
  | some tag => exact h.answer tag body

theorem Answers.settleListen (body : Body) : Answers o (s.settleListen body) := by
  unfold State.settleListen
  split
  · exact h
  · exact Answers.answerWaiter h.of_port _ _

theorem Answers.settleHandovers (body : Body) : Answers o (s.settleHandovers body) := by
  unfold State.settleHandovers
  exact List.foldlRecOn _ _ h.of_port fun _ ht w _ => ht.answerWaiter w body

/-! ## Outcomes, changes of mastership (R13, R106) -/

theorem Answers.resolveStop (i : Sid) : Answers o (s.resolveStop i) := by
  have answered (t : State) (ht : Answers o t) (tags : List Byte) (body : Body) :
      Answers o (tags.foldl (fun s tag => s.answer tag body) t) :=
    List.foldlRecOn tags _ ht fun _ ht tag _ => ht.answer tag body
  unfold State.resolveStop
  split
  · exact h
  · split
    · dsimp only
      split <;> exact answered _ h.of_port _ _
    · exact h

theorem Answers.applyOutcome (tx : Transaction) (out : Outcome) : Answers o (s.applyOutcome tx out) :=
  Answers.resolveStop h.of_port _

theorem Answers.leaveLeading (new : MastState) : Answers o (s.leaveLeading new) := by
  have hleft : Answers o s.releaseLine := h.of_port
  unfold State.leaveLeading
  split
  · unfold State.settleTransaction
    split
    · exact hleft
    · split
      · exact hleft.applyOutcome _ _
      · split
        · exact hleft.applyOutcome _ _
        · exact hleft.of_port
  · exact h

theorem Answers.loseLink (i : Sid) : Answers o (s.loseLink i) := by
  unfold State.loseLink
  split
  · exact h
  · split
    case h_1 | h_2 | h_3 => exact Answers.resolveStop h.of_port i
    all_goals exact h

theorem Answers.streamsFollow (new : MastState) : Answers o (s.streamsFollow new) := by
  unfold State.streamsFollow
  split
  case h_1 | h_2 => exact List.foldlRecOn allSids _ h fun _ ht i _ => ht.loseLink i
  case h_3 => exact h.of_port
  all_goals exact h

theorem Answers.changeMastership (new : MastState) (cause : Cause) : Answers o (s.changeMastership new cause) := by
  have hleft : Answers o (((s.leaveLeading new).setMaster { s.master with state := new, lastCause := some cause }).offer
      (.mastership new cause s.master.lastPartner)) := (h.leaveLeading new).of_port
  rw [State.changeMastership_eq]
  exact (hleft.streamsFollow new).of_port

/-! ## Boundaries, beacons, the passing of time -/

theorem Answers.masterBoundary : Answers o s.masterBoundary := by
  unfold State.masterBoundary
  split
  · split
    · exact h.of_port
    · split
      · exact (Answers.changeMastership h.of_port _ _).settleListen _
      · exact h.of_port
  · split
    · exact Answers.changeMastership h.of_port _ _
    · exact h.of_port
  all_goals exact h.of_port

theorem Answers.cycleBoundary : Answers o s.cycleBoundary := by
  simp only [State.cycleBoundary]
  exact Answers.masterBoundary h.of_port

theorem Answers.follow (u : UnitId) (c : Cycle) (cause : Cause) : Answers o (s.follow u c cause) :=
  have hm : Answers o (s.setMaster { s.master with
      lastPartner := some u, silenceCount := 0, silenceLimit := s.master.timeout, listenCount := none }) := h.of_port
  (hm.changeMastership .following cause).of_port (State.realign_port _ _)

theorem Answers.faulted (cause : Cause) : Answers o (s.faulted cause) :=
  ((Answers.changeMastership h.of_port .faulted cause).settleListen _).settleHandovers _

theorem Answers.handoverEffect : Answers o s.handoverEffect :=
  (Answers.changeMastership h.of_port .following .handover).settleHandovers _

theorem Answers.passTime (n : Nat) : Answers o (s.passTime n) :=
  State.passTime_preserves (P := Answers o) (fun _ _ h => h.of_port) (fun _ h => h.cycleBoundary)
    (fun _ h => h.faulted _) n s h

theorem Answers.passBusy (n : Nat) : Answers o (s.passBusy n) :=
  Answers.of_port (Answers.passTime (Answers.of_port h (t := s.setHearing true) rfl) n) rfl

theorem Answers.clash (u : UnitId) (c : Cycle) : Answers o (s.clash u c) := by
  simp only [State.clash]
  split
  · split <;> exact h.of_port
  · exact (h.follow _ _ _).settleHandovers _

theorem Answers.beaconHeard (u : UnitId) (c : Cycle) : Answers o (s.beaconHeard u c) := by
  unfold State.beaconHeard
  split
  · split
    case h_1 | h_2 => exact h
    all_goals exact h.faulted _
  · split
    case h_3 => exact (h.follow _ _ _).settleListen _
    case h_4 => exact h.clash _ _
    all_goals exact h.of_port

/-! ## The link engine -/

theorem Answers.setTransaction (tx : Transaction) : Answers o (s.setTransaction tx) := h.of_port rfl

theorem Answers.whenPhase (ph : Phase) (begun : Bool) {wait : State → State} {act : Transaction → State → State}
    (hw : Answers o (wait s)) (ha : ∀ tx t, Answers o t → Answers o (act tx t)) :
    Answers o (s.whenPhase ph begun wait act) := by
  unfold State.whenPhase
  split
  · dsimp only
    split
    · exact ha _ _ hw
    · exact hw
  · exact h

theorem Answers.sendAtPhase (ph : Phase) (chars : Transaction → State → List Byte)
    (note : Transaction → State → Transaction) : Answers o (s.sendAtPhase ph chars note) := by
  unfold State.sendAtPhase
  split
  · exact h
  · exact h.whenPhase _ _ (h.passTime _) fun _ _ ht => Answers.setTransaction ht.of_port _

theorem Answers.sentAtPhase (ph : Phase) {act : Transaction → State → State}
    (ha : ∀ tx t, Answers o t → Answers o (act tx t)) : Answers o (s.sentAtPhase ph act) :=
  h.whenPhase _ _ (h.passTime _) ha

theorem Answers.endTransaction : Answers o s.endTransaction := by
  unfold State.endTransaction
  split
  · exact h
  · split
    · exact h
    · exact (h.applyOutcome _ _).of_port (State.planContinues_port _)

theorem Answers.silentReply : Answers o s.silentReply := by
  have hd : Answers o (s.decideOutcome .silent .closing) := h.of_port
  simp only [State.silentReply]
  split
  · exact hd.endTransaction
  · exact hd

theorem Answers.windowExpiry : Answers o s.windowExpiry := by
  have hwait : Answers o s.waitWindow := by
    unfold State.waitWindow
    split
    · exact h
    · exact h.passTime _
  unfold State.windowExpiry
  split
  · exact h
  · exact h.whenPhase _ _ hwait fun _ _ ht => ht.silentReply

theorem Answers.closeWindow : Answers o s.closeWindow := by
  unfold State.closeWindow
  split
  · exact h
  · split
    · exact h.silentReply
    · exact h

theorem Answers.holdLevel (n : Nat) : Answers o (s.holdLevel n) := by
  unfold State.holdLevel
  split
  · exact h.passBusy n
  · split
    · exact Answers.passBusy (h.whenPhase _ _ (h.passBusy _) fun _ _ ht => ht.silentReply) _
    · exact h.passBusy n

theorem Answers.holdLine : Answers o s.holdLine := by
  unfold State.holdLine
  split
  · exact h.holdLevel _
  · exact h

theorem Answers.transactionEnd : Answers o s.transactionEnd := by
  unfold State.transactionEnd
  split
  · exact Answers.endTransaction (h.passTime _)
  · exact h

/-! ## Heard frames -/

theorem Answers.takeFrame (chars : List LinkChar) : Answers o (s.takeFrame chars) := by
  unfold State.takeFrame
  split
  · exact h.beaconHeard _ _
  · split
    · exact h.setTransaction _
    · exact h

theorem Answers.frameStops (whole : Bool) : Answers o (s.frameStops whole) := by
  unfold State.frameStops
  split
  · exact h
  · exact h.passTime _

theorem Answers.dataBegins (n : Nat) (c : Option (Byte × Byte)) : Answers o (s.dataBegins n c) := by
  have heard : Answers o ((s.passBusy n).setEngine { (s.passBusy n).engine with hearing := true, control := c }) :=
    (h.passBusy n).of_port
  simp only [State.dataBegins]
  split
  · exact heard.setTransaction _
  · exact heard

theorem Answers.dataEnds (n : Nat) (rest : List LinkChar) : Answers o (s.dataEnds n rest) := by
  unfold State.dataEnds
  extract_lets c t
  have hb : Answers o (s.passBusy n).endHearing := (h.passBusy n).of_port
  have ht : Answers o t := hb.frameStops _
  split
  · split
    · exact ht.setTransaction _
    · exact ht
  · split
    · exact ht.setTransaction _
    · exact ht

theorem Answers.hearShort (n : Nat) (chars : List LinkChar) : Answers o (s.hearShort n chars) := by
  have ht := (h.passBusy n).frameStops (frameWhole chars)
  simp only [State.hearShort]
  split
  · exact ht
  · exact ht.takeFrame chars

theorem Answers.hearChars (times : List LinkTime) : Answers o (s.hearChars times) := by
  unfold State.hearChars
  split
  · split
    · exact (h.dataBegins _ _).dataEnds _ _
    · exact h.hearShort _ _
  · exact h.hearShort _ _

theorem Answers.hearFrame (times : List LinkTime) : Answers o (s.hearFrame times) := by
  unfold State.hearFrame
  split
  · exact h.holdLevel _
  · exact h.closeWindow.hearChars _

theorem Answers.hearAll (times : List LinkTime) : Answers o (s.hearAll times) :=
  List.foldlRecOn (framesOf times) _ h fun _ ht f _ => ht.hearFrame f

theorem Answers.frameHeard (n : Nat) (times : List LinkTime) : Answers o (s.frameHeard n times) := by
  unfold State.frameHeard
  split
  · exact h
  · exact (h.passTime n).hearAll times

theorem Answers.lengthRead (n : Nat) (c : Option (Byte × Byte)) : Answers o (s.lengthRead n c) := by
  unfold State.lengthRead
  split
  · exact h
  · exact (h.passTime n).closeWindow.dataBegins _ _

theorem Answers.dataFrameEnd (n : Nat) (rest : List LinkChar) : Answers o (s.dataFrameEnd n rest) :=
  (h.closeWindow.dataEnds _ _).hearAll _

/-! ## Openings of a cycle, captures and marks -/

theorem Answers.beaconGrant : Answers o s.beaconGrant := by
  have opened {t : State} (ht : Answers o t) : Answers o t.openCycle := by
    unfold State.openCycle
    split
    · exact ht
    · split
      · exact ht.handoverEffect
      · refine ht.of_port ?_
        dsimp only
        split <;> simp
  unfold State.beaconGrant
  split
  · exact h
  · split
    · exact h
    · exact opened (h.passTime _)

theorem Answers.cyclicPhaseStart : Answers o s.cyclicPhaseStart := by
  unfold State.cyclicPhaseStart
  split
  · dsimp only
    split
    · exact (h.passTime _).of_port (State.enterCyclic_port _)
    · exact h.passTime _
  · exact h

theorem Answers.sampleAfter (n : Nat) (changed level : BitVec 4) : Answers o (s.sampleAfter n changed level) :=
  Answers.of_port ((h.passTime n).passTime _) (State.sample_port _ _ _)

theorem Answers.runToMark (k : Line) : Answers o (s.runToMark k) := by
  unfold State.runToMark
  split
  · exact h
  · split
    · exact h.passTime _
    · exact h

theorem Answers.runToPulseEnd (k : Line) : Answers o (s.runToPulseEnd k) := by
  unfold State.runToPulseEnd
  split
  · exact h
  · split
    · exact h.passTime _
    · exact h

/-! ## The requests' blocks -/

theorem Answers.linkUp (tag : Byte) : Answers o (linkUp tag s).1 := by
  unfold Machine.linkUp
  split
  · exact Answers.changeMastership h.of_port _ _
  · exact h

theorem Answers.linkDown : Answers o (linkDown s).1 := by
  unfold Machine.linkDown
  split
  · exact h
  · dsimp only [State.reply]
    exact ((Answers.changeMastership h.of_port _ _).settleListen _).settleHandovers _

end

end Sys2Proof.Machine
end

section
/-! SUPPORT. The row of a request and the frame that spells it: O21. -/

namespace Sys2Proof.Machine

open Sys2Proof.Safety

/-! ## Reading back the fields of a request (R187) -/

theorem bytes2_append (w : BitVec 16) : w.extractLsb' 8 8 ++ w.extractLsb' 0 8 = w := by
  rw [BitVec.extractLsb'_append_extractLsb'_eq_extractLsb' (h := by rfl)]
  exact BitVec.extractLsb'_eq_self

theorem bytes4_append (w : BitVec 32) :
    (w.extractLsb' 24 8 ++ w.extractLsb' 16 8) ++ (w.extractLsb' 8 8 ++ w.extractLsb' 0 8) = w := by
  have hhigh : w.extractLsb' 24 8 ++ w.extractLsb' 16 8 = w.extractLsb' 16 16 := by
    rw [BitVec.extractLsb'_append_extractLsb'_eq_extractLsb' (h := by rfl)]
  have hlow : w.extractLsb' 8 8 ++ w.extractLsb' 0 8 = w.extractLsb' 0 16 := by
    rw [BitVec.extractLsb'_append_extractLsb'_eq_extractLsb' (h := by rfl)]
  rw [hhigh, hlow, BitVec.extractLsb'_append_extractLsb'_eq_extractLsb' (h := by rfl)]
  exact BitVec.extractLsb'_eq_self

theorem defineFieldsOf_defineBody (f : DefineFields) : defineFieldsOf (defineBody f) = f := by
  have hlimit : wordAt (defineBody f) 5 = f.limit := bytes2_append f.limit
  have hperiod : wordAt (defineBody f) 7 = f.period := bytes2_append f.period
  unfold defineFieldsOf
  rw [hlimit, hperiod]
  rfl

/-- The body that a command stands for is as long as its fields, and they are the command's operands: a field of one byte is
read back as it is, a longer one from its bytes. -/
theorem exec_request {c : Instr} {q : RequestFrame} (hq : requestOf c = some q) (hk : q.kind ≠ .openSession) (s : State) :
    exec c s = whenRunning (request q.kind q.retry q.tag (requestEffect q.kind q.tag q.body)) s := by
  cases c <;> cases hq
  case openSession => exact absurd rfl hk
  case configureLink retry tag rate cycleLength share timeout =>
    have heffect : requestEffect .configureLink tag ([rate] ++ bytes2 cycleLength ++ [share, timeout]) =
        configureLink rate (cycleLength.extractLsb' 8 8 ++ cycleLength.extractLsb' 0 8) share timeout := rfl
    rw [heffect, bytes2_append]
    rfl
  case define retry tag f =>
    have heffect : requestEffect .define tag (defineBody f) = defineStream (defineFieldsOf (defineBody f)) := rfl
    rw [heffect, defineFieldsOf_defineBody]
    rfl
  case start retry tag sid kind value total =>
    have heffect : requestEffect .start tag ([sid, kind] ++ bytes2 value ++ bytes4 total) =
        startRequest sid kind (value.extractLsb' 8 8 ++ value.extractLsb' 0 8)
          ((total.extractLsb' 24 8 ++ total.extractLsb' 16 8) ++ (total.extractLsb' 8 8 ++ total.extractLsb' 0 8)) := rfl
    rw [heffect, bytes2_append, bytes4_append]
    rfl
  case refill retry tag sid n =>
    have heffect : requestEffect .refill tag (sid :: bytes4 n) = refillRequest sid
        ((n.extractLsb' 24 8 ++ n.extractLsb' 16 8) ++ (n.extractLsb' 8 8 ++ n.extractLsb' 0 8)) := rfl
    rw [heffect, bytes4_append]
    rfl
  case scheduleMark retry tag line cycle offset level width =>
    have heffect : requestEffect .scheduleMark tag ([line] ++ bytes2 cycle ++ bytes2 offset ++ [level] ++ bytes2 width) =
        scheduleMarkRequest line (cycle.extractLsb' 8 8 ++ cycle.extractLsb' 0 8)
          (offset.extractLsb' 8 8 ++ offset.extractLsb' 0 8) level (width.extractLsb' 8 8 ++ width.extractLsb' 0 8) := rfl
    rw [heffect, bytes2_append, bytes2_append, bytes2_append]
    rfl
  all_goals rfl

theorem requestOf_open {c : Instr} {q : RequestFrame} (hq : requestOf c = some q) (hk : q.kind = .openSession) :
    c = .openSession q.retry q.tag q.body := by
  cases c <;> cases hq <;> cases hk
  rfl

/-! ## The disposal of a frame by its KIND (R155) -/

theorem requestRetry_flags (retry : Bool) : requestRetry (if retry then 0x01 else 0x00) = some retry := by
  cases retry <;> rfl

theorem disposeFrame_open (retry : Bool) (tag : Byte) (body : List Byte) (s : State) :
    disposeFrame (if retry then 0x01 else 0x00) ReqKind.openSession.code tag body s = openRequest retry tag body s := by
  rw [disposeFrame, requestRetry_flags, ReqKind.ofCode_code]

theorem disposeFrame_request {k : ReqKind} (hk : k ≠ .openSession) (retry : Bool) (tag : Byte) (body : List Byte)
    (s : State) : disposeFrame (if retry then 0x01 else 0x00) k.code tag body s =
      request k retry tag (requestEffect k tag body) s := by
  unfold disposeFrame
  rw [requestRetry_flags, ReqKind.ofCode_code]
  split
  case h_1 hkind => cases hkind; exact absurd rfl hk
  case h_2 hflags hkind => cases hflags; cases hkind; rfl
  case h_3 hkind => cases hkind
  case h_4 hflags => cases hflags

/-- A frame with improper FLAGS or without a request KIND (R155 test 2). -/
theorem disposeFrame_improper {flags kind : Byte} (h : requestRetry flags = none ∨ ReqKind.ofCode kind = none) (tag : Byte)
    (body : List Byte) (s : State) : disposeFrame flags kind tag body s = s.improper kind tag := by
  unfold disposeFrame
  split
  case h_1 hflags hkind => simp [hflags, hkind] at h
  case h_2 hflags hkind => simp [hflags, hkind] at h
  all_goals rfl

/-- What can become of a checked frame (R155). -/
theorem disposeFrame_cases (flags kind tag : Byte) (body : List Byte) (s : State) :
    (∃ retry, disposeFrame flags kind tag body s = openRequest retry tag body s) ∨
    (∃ k retry, k ≠ .openSession ∧ disposeFrame flags kind tag body s = request k retry tag (requestEffect k tag body) s) ∨
    disposeFrame flags kind tag body s = s.improper kind tag := by
  unfold disposeFrame
  split
  next retry _ _ => exact .inl ⟨retry, rfl⟩
  next retry k hk _ _ => exact .inr (.inl ⟨k, retry, fun h => hk h, rfl⟩)
  next => exact .inr (.inr rfl)
  next => exact .inr (.inr rfl)

/-- Settles O21: OPEN's frame is disposed of by OPEN's own tests, every other one by those of the requests. -/
theorem frameHasRowsEffect : Obligations.FrameHasRowsEffect := by
  intro c q s hq hrun
  by_cases hk : q.kind = .openSession
  · rw [requestOf_open hq hk, hk, disposeFrame_open]
    exact whenRunning_of_running hrun
  · rw [exec_request hq hk, whenRunning_of_running hrun, disposeFrame_request hk]

end Sys2Proof.Machine
end

section
/-! SUPPORT. The bounds of the window, the history and the reply queue: O7. -/

namespace Sys2Proof.Machine

open Sys2Proof.Safety

/-! ## The law of the port, by names -/

/-- The TAGs of the requests in the window. -/
def Port.tags (p : Port) : List Byte := p.window.map (·.tag)

/-- The port law of a port by itself (R160, R162, R163, R165). -/
structure Port.Lawful (p : Port) : Prop where
  window : p.window.length ≤ 4
  windowTags : p.tags.Nodup
  history : p.history.length ≤ 8
  historyTags : (p.history.map (·.tag)).Nodup
  queue : p.replyQueue.length ≤ 8

theorem portLaw_iff {s : State} : PortLaw s ↔ s.port.Lawful :=
  ⟨fun ⟨hw, hwt, hh, hht, hq⟩ => ⟨hw, hwt, hh, hht, hq⟩,
    fun h => ⟨h.window, h.windowTags, h.history, h.historyTags, h.queue⟩⟩

/-- The second port holds no request that the first does not hold, and keeps the history and the bound of the reply queue. -/
structure Port.Eases (p q : Port) : Prop where
  tags : q.tags.Subperm p.tags
  history : q.history = p.history
  queue : p.replyQueue.length ≤ 8 → q.replyQueue.length ≤ 8

theorem Port.Eases.refl (p : Port) : p.Eases p := ⟨List.Subperm.refl _, rfl, id⟩

theorem Port.Eases.trans {p q r : Port} (h : p.Eases q) (h' : q.Eases r) : p.Eases r :=
  ⟨h'.tags.trans h.tags, h'.history.trans h.history, h'.queue ∘ h.queue⟩

theorem Port.Eases.window {p q : Port} (h : p.Eases q) : q.window.length ≤ p.window.length := by
  simpa [Port.tags] using h.tags.length_le

theorem Port.Lawful.eased {p q : Port} (h : p.Lawful) (he : p.Eases q) : q.Lawful where
  window := he.window.trans h.window
  windowTags := by
    obtain ⟨l, hperm, hsub⟩ := he.tags
    exact hperm.nodup_iff.mp (h.windowTags.sublist hsub)
  history := he.history ▸ h.history
  historyTags := he.history ▸ h.historyTags
  queue := he.queue h.queue

/-- Slots leave the window only: the WAITING and the READY ones that stay are some of those that stood there. -/
theorem Port.handOver_eases (p : Port) : p.Eases p.handOver where
  tags := by
    have hsome : (fun x : Slot => x.reply.isSome) = fun x => !x.reply.isNone := by
      funext x
      cases x.reply <;> rfl
    have hstay := (List.Sublist.refl (p.window.filter (·.reply.isNone))).append
      (List.drop_sublist (8 - p.replyQueue.length) (p.window.filter (·.reply.isSome)))
    have hall := List.filter_append_perm (·.reply.isNone) p.window
    rw [Port.tags, Port.handOver_window]
    rw [hsome] at hstay ⊢
    exact (hstay.map _).subperm.trans (hall.map _).subperm
  history := rfl
  queue h := by
    rw [p.handOver_queue_length h]
    exact Nat.min_le_left _ _

theorem Port.enterReady_eases (r : Reply) (p : Port) :
    Port.Eases { p with window := p.window ++ [⟨r.tag, r.kind, some r⟩] } (p.enterReady r) := Port.handOver_eases _

/-- A deferred reply takes its slot out of the window and puts it back behind the others, READY (R160, R161). -/
theorem Port.makeReady_eases (tag : Byte) (body : Body) (p : Port) : p.Eases (p.makeReady tag body) := by
  cases hfind : p.window.find? (·.waitsFor tag) with
  | none =>
    rw [Port.makeReady_of_none fun x hx => Slot.not_waitsFor.mp (List.find?_eq_none.mp hfind x hx)]
    exact .refl p
  | some x =>
    obtain ⟨hwaits, pre, post, hw, hpre⟩ := List.find?_eq_some_iff_append.mp hfind
    obtain ⟨hx, hr⟩ := Slot.waitsFor_eq_true.mp hwaits
    rw [Port.makeReady_of_waiting hw (fun y hy => Slot.not_waitsFor.mp (by simpa using hpre y hy)) hx hr]
    refine Port.Eases.trans ?_ (Port.enterReady_eases _ _)
    refine ⟨?_, rfl, id⟩
    have hperm : (pre.map (·.tag) ++ post.map (·.tag) ++ [tag]).Perm (pre.map (·.tag) ++ tag :: post.map (·.tag)) :=
      (List.perm_append_singleton _ _).trans List.perm_middle.symm
    simpa [Port.tags, hw, hx, replyOf] using hperm.subperm

theorem Port.Answers.eases {p q : Port} (h : p.Answers q) : p.Eases q := by
  induction h with
  | refl => exact .refl p
  | tail _ hstep ih =>
    obtain ⟨tag, body, rfl⟩ := hstep
    exact ih.trans (Port.makeReady_eases tag body _)

/-! ## Requests enter the window (R155, R159, R160) -/

/-- A request whose TAG is not in the window, and for which there is room. -/
structure Port.Admits (tag : Byte) (p : Port) : Prop where
  room : p.window.length < 4
  fresh : tag ∉ p.tags

theorem Port.Admits.eased {tag : Byte} {p q : Port} (h : p.Admits tag) (he : p.Eases q) : q.Admits tag :=
  ⟨he.window.trans_lt h.room, fun hmem => h.fresh (he.tags.subset hmem)⟩

theorem Port.admits_of_enter {kind tag : Byte} {retry : Bool} {p : Port} (h : p.admission kind retry tag = .enter) :
    p.Admits tag := by
  unfold Port.admission at h
  split at h
  next => split at h <;> cases h
  next huse =>
    split at h
    next => cases h
    next =>
      split at h
      next => cases h
      next hroom =>
        refine ⟨Nat.lt_of_not_le hroom, fun hmem => huse ?_⟩
        obtain ⟨x, hx, hxt⟩ := List.mem_map.mp hmem
        simp only [Port.tagInUse, Bool.or_eq_true]
        exact .inl (List.any_eq_true.mpr ⟨x, hx, by simp [hxt]⟩)

/-- A slot joins the window. -/
theorem Port.Lawful.join {p : Port} (h : p.Lawful) {x : Slot} (ha : p.Admits x.tag) :
    Port.Lawful { p with window := p.window ++ [x] } where
  window := by
    have hroom := ha.room
    simp only [List.length_append, List.length_singleton]
    omega
  windowTags := by
    have hfresh := ha.fresh
    simp only [Port.tags, List.map_append, List.map_singleton] at hfresh ⊢
    exact List.nodup_append.mpr ⟨h.windowTags, List.nodup_singleton _, fun a hmem b hb hab => by
      rw [List.mem_singleton] at hb
      exact hfresh (hb ▸ hab ▸ hmem)⟩
  history := h.history
  historyTags := h.historyTags
  queue := h.queue

theorem Port.Lawful.portReply {p : Port} (h : p.Lawful) (kind tag : Byte) (f : List Byte) :
    (p.portReply kind tag f).Lawful := by
  unfold Port.portReply
  split
  next hroom =>
    refine ⟨h.window, h.windowTags, h.history, h.historyTags, ?_⟩
    rw [List.length_append, List.length_singleton]
    exact hroom
  next => exact h

/-- The blocks make deferred replies at most, RESTART apart (R161). -/
theorem bodyEffect_answers {k : ReqKind} (hk : k ≠ .restart) (tag : Byte) (b : List Byte) (s : State) :
    Answers s (bodyEffect k tag b s).1 := by
  cases k with
  | restart => exact absurd rfl hk
  | linkUp => exact (Answers.refl s).linkUp tag
  | linkDown => exact (Answers.refl s).linkDown
  | _ =>
    simp only [bodyEffect]
    exact Answers.of_port (.refl s)

/-- Before its own reply, a request's block takes requests out of the window at most (R161, R169). -/
theorem requestEffect_eases (k : ReqKind) (tag : Byte) (body : List Byte) (s : State) :
    s.port.Eases (requestEffect k tag body s).1.port := by
  unfold requestEffect
  split
  · exact .refl _
  · by_cases hk : k = .restart
    · subst hk
      exact ⟨List.nil_subperm, rfl, id⟩
    · exact Port.Answers.eases (bodyEffect_answers hk tag body s)

theorem Port.Lawful.request {s : State} (h : s.port.Lawful) (k : ReqKind) (retry : Bool) (tag : Byte) (body : List Byte) :
    (request k retry tag (requestEffect k tag body) s).port.Lawful := by
  unfold Machine.request
  split
  · exact h
  · split
    · exact h.portReply _ _ _
    · split
      · exact h
      · exact h.portReply _ _ _
      · exact h.portReply _ _ _
      next hadmit =>
        have he := requestEffect_eases k tag body s
        have hlaw := h.eased he
        have hroom := (Port.admits_of_enter hadmit).eased he
        generalize requestEffect k tag body s = x at hlaw hroom
        obtain ⟨t, reply⟩ := x
        cases reply with
        | none => exact hlaw.join (x := ⟨tag, k.code, none⟩) hroom
        | some reply =>
          have htag : (t.port.replyFor k.code tag reply).tag = tag := by
            unfold Port.replyFor
            split <;> rfl
          exact (hlaw.join (x := ⟨_, _, some (t.port.replyFor k.code tag reply)⟩) (by rwa [htag])).eased
            (Port.enterReady_eases _ _)

theorem Port.Lawful.openRequest {s : State} (h : s.port.Lawful) (retry : Bool) (tag : Byte) (body : List Byte) :
    (openRequest retry tag body s).port.Lawful := by
  unfold Machine.openRequest
  split
  · exact h
  · split
    · exact h
    · split
      · exact h.portReply _ _ _
      · split
        · exact ⟨Nat.zero_le _, List.nodup_nil, Nat.zero_le _, List.nodup_nil, Nat.le_of_ble_eq_true rfl⟩
        · exact h.portReply _ _ _

theorem Port.Lawful.disposeFrame {s : State} (h : s.port.Lawful) (flags kind tag : Byte) (body : List Byte) :
    (disposeFrame flags kind tag body s).port.Lawful := by
  have himproper : (s.improper kind tag).port.Lawful := by
    unfold State.improper
    split
    · exact h
    · exact h.portReply _ _ _
  obtain ⟨retry, heq⟩ | ⟨k, retry, -, heq⟩ | heq := disposeFrame_cases flags kind tag body s <;> rw [heq]
  · exact h.openRequest _ _ _
  · exact h.request _ _ _ _
  · exact himproper

/-! ## The receiver -/

/-- The receiver's own bytes are no part of the law. -/
theorem Port.Lawful.of_same {p q : Port} (h : p.Lawful) (hw : q.window = p.window := by rfl)
    (hh : q.history = p.history := by rfl) (hq : q.replyQueue = p.replyQueue := by rfl) : q.Lawful :=
  h.eased ⟨by rw [Port.tags, hw]; exact List.Subperm.refl _, hh, fun hle => by rw [hq]; exact hle⟩

theorem Port.Lawful.judge {s : State} (h : s.port.Lawful) : s.judge.port.Lawful := by
  unfold State.judge
  split
  · split
    · exact h.of_same
    · split
      · exact h
      · split
        · exact Port.Lawful.disposeFrame (s := s.setPort { s.port with candidate := [] }) h.of_same _ _ _ _
        · exact h.of_same
  · exact h

theorem Port.Lawful.examine {s : State} (h : s.port.Lawful) (b : RxByte) : (s.examine b).port.Lawful := by
  unfold State.examine
  split
  · exact h
  · exact Port.Lawful.judge (s := s.setPort { s.port with candidate := s.port.candidate ++ [b] }) h.of_same

theorem Port.Lawful.examinePending {s : State} (h : s.port.Lawful) (k : Nat) : (State.examinePending k s).port.Lawful := by
  induction k generalizing s with
  | zero => exact h
  | succ k ih =>
    unfold State.examinePending
    split
    next b rest _ =>
      exact ih (Port.Lawful.examine (s := s.setPort { s.port with pendingBytes := rest }) h.of_same b)
    next =>
      split
      · exact ih (s := s.abandonCandidate .gap) h.of_same
      · exact h

/-! ## The transmitter (R163, R165) -/

/-- A reply that is stored replaces the one of its TAG, or the oldest of eight (R163). -/
theorem storeReply_bounds (e : HistoryEntry) {h : List HistoryEntry} (hlen : h.length ≤ 8)
    (htags : (h.map (·.tag)).Nodup) :
    (storeReply e h).length ≤ 8 ∧ ((storeReply e h).map (·.tag)).Nodup := by
  have hsub : (h.filter (·.tag != e.tag)).Sublist h := List.filter_sublist
  have hle := hsub.length_le
  have hother : ∀ x ∈ h.filter (·.tag != e.tag), x.tag ≠ e.tag := fun x hx => by simpa using (List.mem_filter.mp hx).2
  have hkept : ∃ l : List HistoryEntry, storeReply e h = l ++ [e] ∧ l.Sublist (h.filter (·.tag != e.tag)) ∧ l.length < 8 := by
    refine ⟨_, rfl, ?_, ?_⟩
    · split
      · exact List.Sublist.refl _
      · exact List.drop_sublist _ _
    · split
      next hroom => exact hroom
      next =>
        rw [List.length_drop]
        omega
  obtain ⟨l, heq, hl, hroom⟩ := hkept
  rw [heq]
  refine ⟨by simpa using hroom, ?_⟩
  rw [List.map_append]
  refine List.nodup_append.mpr ⟨htags.sublist ((hl.trans hsub).map _), List.nodup_singleton _, fun a ha b hb hab => ?_⟩
  obtain ⟨x, hx, rfl⟩ := List.mem_map.mp ha
  exact hother x (hl.subset hx) (hab.trans (List.mem_singleton.mp hb))

theorem Port.Lawful.beginReply {p : Port} (h : p.Lawful) {r : Reply} {rest : List Reply} (hq : p.replyQueue = r :: rest)
    (clock : Nat) : (p.beginReply clock r rest).Lawful := by
  have hbounds : (historyWith r p.history).length ≤ 8 ∧ ((historyWith r p.history).map (·.tag)).Nodup := by
    unfold historyWith
    split
    · exact ⟨h.history, h.historyTags⟩
    all_goals exact storeReply_bounds _ h.history h.historyTags
  refine Port.Lawful.eased ?_ (Port.handOver_eases _)
  refine ⟨h.window, h.windowTags, hbounds.1, hbounds.2, ?_⟩
  have hlen := h.queue
  rw [hq, List.length_cons] at hlen
  exact Nat.le_of_succ_le hlen

theorem Port.Lawful.chooseFrame {s : State} (h : s.port.Lawful) : s.chooseFrame.port.Lawful := by
  unfold State.chooseFrame
  split
  next hq => exact h.beginReply hq _
  next =>
    split
    · exact h.of_same
    · exact h.of_same

theorem Port.Lawful.afterReset (baud : Baud) (unit : UnitId) (epoch : Byte) (cause : HelloCause) (clock : Nat)
    (pending : List Instr) : (State.afterReset baud unit epoch cause clock pending).port.Lawful :=
  ⟨Nat.zero_le _, List.nodup_nil, Nat.zero_le _, List.nodup_nil, Nat.zero_le _⟩

/-! ## Every command, every step -/

theorem Port.Lawful.answers {s t : State} (h : s.port.Lawful) (ha : Machine.Answers s t) : t.port.Lawful :=
  h.eased (Port.Answers.eases ha)

theorem Port.Lawful.passTime {s : State} (h : s.port.Lawful) (n : Nat) : (s.passTime n).port.Lawful :=
  h.answers (Machine.Answers.passTime (.refl s) n)

theorem Port.Lawful.byteArrives {s : State} (h : s.port.Lawful) (after : Nat) (b : Byte) :
    (s.byteArrives after b).port.Lawful :=
  Port.Lawful.examinePending (Port.Lawful.examine ((h.passTime after).examinePending _) _) _

theorem Port.Lawful.candidateGap {s : State} (h : s.port.Lawful) : s.candidateGap.port.Lawful := by
  unfold State.candidateGap
  split
  · exact h
  · exact Port.Lawful.examinePending (s := State.abandonCandidate .gap _)
      (Port.Lawful.of_same (p := (s.waitUntil _).port) (h.passTime _)) _

theorem Port.Lawful.transmitEnd {s : State} (h : s.port.Lawful) : s.transmitEnd.port.Lawful := by
  unfold State.transmitEnd
  split
  · exact h.chooseFrame
  · split
    · exact .afterReset _ _ _ _ _ _
    · exact Port.Lawful.chooseFrame (h.passTime _)

theorem Port.Lawful.restartEnd {s : State} (h : s.port.Lawful) : s.restartEnd.port.Lawful := by
  unfold State.restartEnd
  split
  · exact h
  · split
    · exact .afterReset _ _ _ _ _ _
    · exact h

theorem Port.Lawful.whenRunning {s t : State} (h : s.port.Lawful) {f : State → State} (hf : (f s).port.Lawful)
    (ht : whenRunning f s = .next t) : t.port.Lawful := by
  simp only [Machine.whenRunning, Host.Outcome.next.injEq] at ht
  subst ht
  split
  · exact h
  · exact hf

/-- A request is its frame, a command of the port is its unit's, and every other command makes deferred replies at most. -/
theorem Port.Lawful.exec {s t : State} (h : s.port.Lawful) {c : Instr} (ht : exec c s = .next t) : t.port.Lawful := by
  have ha : Machine.Answers s s := .refl s
  cases hc : requestOf c with
  | some q =>
    by_cases hk : q.kind = .openSession
    · rw [requestOf_open hc hk] at ht
      exact h.whenRunning (h.openRequest _ _ _) ht
    · rw [exec_request hc hk] at ht
      exact h.whenRunning (h.request _ _ _ _) ht
  | none =>
    cases c with
    | resetNRelease => cases ht; exact .afterReset _ _ _ _ _ _
    | hardReset => exact h.whenRunning (f := State.heldInReset) h.of_same ht
    | commandByteReceived after b => exact h.whenRunning (h.byteArrives after b) ht
    | candidateGap => exact h.whenRunning h.candidateGap ht
    | transmitFrameEnd => exact h.whenRunning h.transmitEnd ht
    | restartReset => exact h.whenRunning h.restartEnd ht
    | cycleBoundary => exact h.whenRunning (h.passTime _) ht
    | listenEnd | takeover =>
      refine h.whenRunning ?_ ht
      split
      · exact h.passTime _
      · exact h
    | markFires k => exact h.whenRunning (h.answers (ha.runToMark k)) ht
    | pulseEnd k => exact h.whenRunning (h.answers (ha.runToPulseEnd k)) ht
    | captureEdge n changed level => exact h.whenRunning (h.answers (ha.sampleAfter n changed level)) ht
    | beaconGrant => exact h.whenRunning (h.answers ha.beaconGrant) ht
    | cyclicPhaseStart => exact h.whenRunning (h.answers ha.cyclicPhaseStart) ht
    | headerSend | dataFrameSend | takenSend => exact h.whenRunning (h.answers (ha.sendAtPhase _ _ _)) ht
    | headerSent | dataFrameSent =>
      exact h.whenRunning (h.answers (ha.sentAtPhase _ fun _ _ ht => ht.setTransaction _)) ht
    | takenSent => exact h.whenRunning (h.answers (ha.sentAtPhase _ fun _ _ ht =>
        ht.of_port (State.decideOutcome_port _ _ _))) ht
    | replyWindowExpiry => exact h.whenRunning (h.answers ha.windowExpiry) ht
    | nodeAnswerReceived | beaconReceived | ignoredFrame => exact h.whenRunning (h.answers (ha.frameHeard _ _)) ht
    | dataLengthRead => exact h.whenRunning (h.answers (ha.lengthRead _ _)) ht
    | inboundDataFrameEnd => exact h.whenRunning (h.answers (ha.dataFrameEnd _ _)) ht
    | transactionEnd => exact h.whenRunning (h.answers ha.transactionEnd) ht
    | stuckLine => exact h.whenRunning (h.answers ha.holdLine.holdLine) ht
    | _ => cases hc

theorem Port.Lawful.step {s t : State} (h : s.port.Lawful) (ht : step s = .next t) : t.port.Lawful := by
  unfold Machine.step at ht
  split at ht
  next _ rest _ => exact Port.Lawful.exec (s := s.setPending rest) h ht
  next =>
    unfold stepIdle at ht
    split at ht
    · exact h.exec ht
    · cases ht
      unfold State.tick
      split
      · exact h
      · exact h.passTime 1

/-- Settles O7: requests enter a window that has room for them and does not hold their TAG; everything else takes slots out. -/
theorem portLawKept : Obligations.PortLawKept :=
  fun _ _ h ht => portLaw_iff.mpr ((portLaw_iff.mp h).step ht)

end Sys2Proof.Machine
end

section
/-! SUPPORT. Admission, OPEN and RESTART: O15, O16, O13, O14. -/

namespace Sys2Proof.Machine

open Sys2Proof.Safety

/-! ## Port replies (R167) -/

/-- A port reply changes nothing but the reply queue, and not even that when it holds 8 replies. -/
theorem setPort_portReply (kind tag : Byte) (f : List Byte) (s : State) :
    s.setPort (s.port.portReply kind tag f) = portReplied kind tag f s := by
  by_cases hroom : s.port.replyQueue.length < 8
  · have hreply : s.port.portReply kind tag f =
        { s.port with replyQueue := s.port.replyQueue ++ [⟨tag, kind, f, .port⟩] } := if_pos hroom
    rw [hreply, portReplied, if_pos hroom]
    rfl
  · have hdropped : s.port.portReply kind tag f = s.port := if_neg hroom
    rw [hdropped, portReplied, if_neg hroom]
    rfl

theorem State.portAnswer_eq (kind tag : Byte) (body : Body) (s : State) :
    s.portAnswer kind tag body = portReplied kind tag (frame 0x40 kind tag body) s :=
  setPort_portReply _ _ _ s

theorem State.sendAgain_eq (e : HistoryEntry) (s : State) : s.sendAgain e = portReplied e.kind e.tag e.frame s :=
  setPort_portReply _ _ _ s

/-! ## Without a session (R155) -/

/-- A command of a request other than OPEN on a running part. -/
theorem exec_request_running {c : Instr} {q : RequestFrame} {s : State} (hq : requestOf c = some q)
    (hk : q.kind ≠ .openSession) (hrun : s.inReset = false) :
    exec c s = .next (request q.kind q.retry q.tag (requestEffect q.kind q.tag q.body) s) := by
  rw [exec_request hq hk, whenRunning_of_running hrun]

theorem requestRetry_eq_none {flags : Byte} (h0 : flags ≠ 0x00) (h1 : flags ≠ 0x01) : requestRetry flags = none :=
  (if_neg h0).trans (if_neg h1)

theorem ReqKind.ofCode_eq_none {kind : Byte} (h : ∀ k : ReqKind, k.code ≠ kind) : ReqKind.ofCode kind = none :=
  List.find?_eq_none.mpr fun k _ => by simpa using h k

/-- Settles O15: the session test of a request, and the two ways a frame is improper. -/
theorem noSessionRefuses : Obligations.NoSessionRefuses := by
  refine ⟨fun c q s hq hk hrun hopen hsession => ?_, fun flags kind tag body s hopen himproper => ?_⟩
  · have hrefused : request q.kind q.retry q.tag (requestEffect q.kind q.tag q.body) s =
        s.portAnswer q.kind.code q.tag [Status.noSession.code] := by
      simp [request, hopen, hsession]
    rw [exec_request_running hq hk hrun, hrefused, State.portAnswer_eq]
    rfl
  · have hnone : requestRetry flags = none ∨ ReqKind.ofCode kind = none :=
      himproper.imp (fun h => requestRetry_eq_none h.1 h.2) ReqKind.ofCode_eq_none
    have hanswer : s.improper kind tag = s.portAnswer kind tag (badForm 0) := by
      simp [State.improper, hopen]
    rw [disposeFrame_improper hnone, hanswer, State.portAnswer_eq]
    rfl

/-! ## The admission tests of an open session (R159, R164) -/

theorem Port.stored_of_find {kind tag : Byte} {e : HistoryEntry} {p : Port}
    (h : p.history.find? (fun e => e.tag == tag && e.kind == kind) = some e) : p.stored kind true tag = some e := h

/-- No history entry answers a request without RETRY, nor one whose TAG and KIND no entry has. -/
theorem Port.stored_eq_none {kind tag : Byte} {retry : Bool} {p : Port}
    (h : retry = true → ∀ e ∈ p.history, ¬(e.tag = tag ∧ e.kind = kind)) : p.stored kind retry tag = none := by
  cases retry with
  | false => rfl
  | true => exact List.find?_eq_none.mpr fun e he => by simpa using h rfl e he

theorem request_in_session {k : ReqKind} {retry : Bool} {tag : Byte} {effect : State → Executed} {s : State}
    (hopen : s.port.restarting = false) (hsession : s.port.sessionOpen = true) :
    request k retry tag effect s =
      match s.port.admission k.code retry tag with
      | .drop => s
      | .answer st => s.portAnswer k.code tag [st.code]
      | .again e => s.sendAgain e
      | .enter => State.enterWindow k.code tag (effect s) := by
  unfold request
  rw [hopen, hsession]
  rfl

/-- Settles O16: the three tests in their order, each on what the ones before it have let through. -/
theorem admissionTests : Obligations.AdmissionTests := by
  intro c q s hq hk hrun hopen hsession
  rw [exec_request_running hq hk hrun, request_in_session hopen hsession]
  refine ⟨fun huse => ?_, fun huse hretry e he => ?_, fun huse hnone hfull => ?_⟩
  · have hadm : s.port.admission q.kind.code q.retry q.tag = if q.retry then .drop else .answer .tagInUse := by
      rw [Port.admission, if_pos huse]
    rw [hadm]
    cases q.retry with
    | true => rfl
    | false => exact congrArg _ (State.portAnswer_eq _ _ _ s)
  · have hadm : s.port.admission q.kind.code q.retry q.tag = .again e := by
      rw [Port.admission, if_neg (by simp [huse]), hretry, Port.stored_of_find he]
    rw [hadm]
    exact congrArg _ (s.sendAgain_eq e)
  · have hadm : s.port.admission q.kind.code q.retry q.tag = .answer .busy := by
      rw [Port.admission, if_neg (by simp [huse]), Port.stored_eq_none hnone]
      exact if_pos hfull
    rw [hadm]
    exact congrArg _ (State.portAnswer_eq _ _ _ s)

/-! ## OPEN (R157) -/

theorem exec_openSession {s : State} (hrun : s.inReset = false) (hopen : s.port.restarting = false) (retry : Bool)
    (tag : Byte) (body : List Byte) : exec (.openSession retry tag body) s = .next
      (if retry && s.port.tagInUse tag then s
      else
        match s.port.stored 0x01 retry tag with
        | some e => s.sendAgain e
        | none => if body.isEmpty then s.executeOpen tag else s.portAnswer 0x01 tag (badForm 1)) := by
  have hexec : exec (.openSession retry tag body) s = .next (openRequest retry tag body s) := whenRunning_of_running hrun
  rw [hexec, openRequest, if_neg (by simp [hopen])]
  rfl

/-- What OPEN leaves, block by block (R157, R184). -/
theorem State.executeOpen_eq (tag : Byte) (s : State) : s.executeOpen tag = { s with
    port := { s.port with
      window := [], history := [], epoch := s.port.epoch + 1, sessionOpen := true
      replyQueue := [{
        tag := tag, kind := 0x01, role := .ordinary
        frame := frame 0x40 0x01 tag [0x00, s.port.epoch + 1, 0x4B, 1, s.master.unit.code, s.master.state.code,
          BitVec.ofNat 8 s.reports.entries.length] }] }
    reports := { s.reports with
      entries := s.reports.entries.map fun e => { e with number := none }
      nextNumber := 0, resendMark := none }
    streams := s.streams.map fun r => r.map fun r => { r with stopTags := [] }
    master := { s.master with
      listenRequest := s.master.listenRequest.map fun _ => none
      handovers := s.master.handovers.map fun _ => none } } := by
  have hdone : s.opened.openDone = [0x00, s.port.epoch + 1, 0x4B, 1, s.master.unit.code, s.master.state.code,
      BitVec.ofNat 8 s.reports.entries.length] := by
    have hcount : s.opened.reports.entries.length = s.reports.entries.length := List.length_map _
    rw [State.openDone, hcount]
    rfl
  rw [State.executeOpen, hdone]
  rfl

/-- Settles O13: OPEN passes its tests and is executed, or is dropped, answered from the history, or refused for its body. -/
theorem openOpensSession : Obligations.OpenOpensSession := by
  intro retry tag s hrun hopen
  have hpassed (body : List Byte)
      (h : retry = true → s.port.tagInUse tag = false ∧ ∀ e ∈ s.port.history, ¬(e.tag = tag ∧ e.kind = 0x01)) :
      exec (.openSession retry tag body) s =
        .next (if body.isEmpty then s.executeOpen tag else s.portAnswer 0x01 tag (badForm 1)) := by
    have huse : ¬(retry && s.port.tagInUse tag) = true := by
      rw [Bool.and_eq_true]
      exact fun ⟨hr, ht⟩ => Bool.eq_false_iff.mp (h hr).1 ht
    rw [exec_openSession hrun hopen, if_neg huse, Port.stored_eq_none fun hr => (h hr).2]
  refine ⟨fun h => ?_, fun body => ⟨fun hretry huse => ?_, fun hretry huse e he => ?_, fun h hbody => ?_⟩⟩
  · rw [hpassed [] h, ← State.executeOpen_eq]
    rfl
  · rw [exec_openSession hrun hopen, if_pos (by simp [hretry, huse])]
  · rw [exec_openSession hrun hopen, if_neg (by simp [huse]), hretry, Port.stored_of_find he, ← State.sendAgain_eq]
  · rw [hpassed body h, if_neg (by simpa using hbody), State.portAnswer_eq]
    rfl

/-! ## RESTART (R169) -/

theorem request_restarting {s : State} (h : s.port.restarting = true) (k : ReqKind) (retry : Bool) (tag : Byte)
    (effect : State → Executed) : request k retry tag effect s = s := if_pos h

theorem openRequest_restarting {s : State} (h : s.port.restarting = true) (retry : Bool) (tag : Byte) (body : List Byte) :
    openRequest retry tag body s = s := if_pos h

/-- Settles O14: RESTART enters the window that it has emptied; every test of a frame begins with RESTARTING. -/
theorem restartConfirms : Obligations.RestartConfirms := by
  refine ⟨fun retry tag s h => ?_, fun flags kind tag body s h => ?_⟩
  · have hexec : exec (.restart retry tag) s = .next (request .restart retry tag restartRequest s) :=
      whenRunning_of_running h.1
    rw [hexec, request_entered h]
    rfl
  · obtain ⟨retry, heq⟩ | ⟨k, retry, -, heq⟩ | heq := disposeFrame_cases flags kind tag body s <;> rw [heq]
    · exact openRequest_restarting h _ _ _
    · exact request_restarting h _ _ _ _
    · exact if_pos h

end Sys2Proof.Machine
end

section
/-! SUPPORT. The empty queue, the resets, the transmitter: O2, O12, O18. -/

namespace Sys2Proof.Machine

open Sys2Proof.Safety

/-! ## The empty queue (log entry 3) -/

/-- Settles O2, by whether RESET_N is low and whether a row is due. -/
theorem emptyQueueStep : Obligations.EmptyQueueStep := by
  intro s hempty
  have hstep : step s = stepIdle s := by rw [step, hempty]
  rw [hstep, stepIdle, State.tick]
  cases s.inReset with
  | true => rfl
  | false => cases s.dueCommand <;> rfl

/-! ## The resets (R170, R171) -/

theorem State.afterReset_eq (baud : Baud) (unit : UnitId) (epoch : Byte) (cause : HelloCause) (clock : Nat)
    (pending : List Instr) :
    State.afterReset baud unit epoch cause clock pending = resetValues baud unit epoch cause clock pending := rfl

theorem whenRunning_of_reset {s : State} (h : s.inReset = true) (f : State → State) : whenRunning f s = .next s := by
  rw [whenRunning, if_pos h]

/-- RESET_N_RELEASE alone acts while RESET_N is low (log entry 16). -/
theorem exec_of_reset {c : Instr} {s : State} (h : s.inReset = true) (hc : ∀ b1 b0 u, c ≠ .resetNRelease b1 b0 u) :
    exec c s = .next s := by
  cases c with
  | resetNRelease b1 b0 u => exact absurd rfl (hc b1 b0 u)
  | _ => exact whenRunning_of_reset h _

/-- The making of deferred replies writes the window and the reply queue (R160, R161). -/
theorem Port.Answers.rest {p q : Port} (h : p.Answers q) :
    q = { p with window := q.window, replyQueue := q.replyQueue } := by
  have hready (tag : Byte) (body : Body) (p : Port) : p.makeReady tag body =
      { p with window := (p.makeReady tag body).window, replyQueue := (p.makeReady tag body).replyQueue } := by
    unfold Port.makeReady
    split <;> rfl
  induction h with
  | refl => rfl
  | tail _ hstep ih =>
    obtain ⟨tag, body, rfl⟩ := hstep
    rw [hready, ih]

/-- The passing of time leaves to the port all but its requests and replies. -/
theorem State.passTime_port (n : Nat) (s : State) : (s.passTime n).port =
    { s.port with window := (s.passTime n).port.window, replyQueue := (s.passTime n).port.replyQueue } :=
  Port.Answers.rest ((Answers.refl s).passTime n)

theorem State.masterBoundary_unit (s : State) : s.masterBoundary.master.unit = s.master.unit := by
  unfold State.masterBoundary
  split
  next =>
    split
    next => rfl
    next =>
      split
      · rw [State.settleListen_master, State.changeMastership_master]; rfl
      · rfl
  next =>
    split
    · rw [State.changeMastership_master]; rfl
    · rfl
  all_goals rfl

theorem State.cycleBoundary_unit (s : State) : s.cycleBoundary.master.unit = s.master.unit := by
  have hplan (t : State) : t.planBoundary.master = t.master := by
    unfold State.planBoundary
    split <;> simp
  simp only [State.cycleBoundary, State.masterBoundary_unit, State.passCycleStarts, State.triggerAll_master, hplan]
  rfl

theorem State.passTime_unit (n : Nat) (s : State) : (s.passTime n).master.unit = s.master.unit :=
  State.passTime_keeps (·.master.unit) (fun _ _ => rfl) State.cycleBoundary_unit
    (fun s => by rw [State.faulted_master]) n s

/-- The end of the RESTART reply (R170). -/
theorem State.waitUntil_restartTaken (m : Nat) (s : State) : (s.waitUntil m).restartTaken =
    resetValues s.port.baud s.master.unit (s.port.epoch + 1) .restart (s.time.clock + (m - s.time.clock)) s.pending := by
  have hport := s.passTime_port (m - s.time.clock)
  have hbaud : (s.passTime (m - s.time.clock)).port.baud = s.port.baud := by rw [hport]
  have hepoch : (s.passTime (m - s.time.clock)).port.epoch = s.port.epoch := by rw [hport]
  rw [State.restartTaken, State.afterReset_eq, State.waitUntil, hbaud, hepoch, State.passTime_unit, State.passTime_clock,
    State.passTime_pending]

theorem exec_restartReset {f : Sending} {s : State} (hrun : s.inReset = false) (hf : s.port.htxd = some f)
    (hr : f.restartReply = true) : exec .restartReset s = .next ((s.waitUntil f.endsAt).restartTaken) := by
  have hexec : exec .restartReset s = .next s.restartEnd := whenRunning_of_running hrun
  rw [hexec, State.restartEnd, hf]
  exact congrArg _ (if_pos hr)

/-- Settles O12: the three resets, each with the state it leaves, and the part that is held in reset. -/
theorem resetsTaken : Obligations.ResetsTaken := by
  refine ⟨fun s hrun => whenRunning_of_running hrun, fun c s h hc => exec_of_reset h hc, fun b1 b0 u s => ?_,
    fun f s hrun hf hr => ?_⟩
  · cases b1 <;> cases b0 <;> rfl
  · rw [exec_restartReset hrun hf hr, State.waitUntil_restartTaken]

/-! ## The transmitter (R165, R179) -/

section
variable {s : State} (hrun : s.inReset = false)
include hrun

theorem exec_transmit_idle (hidle : s.port.htxd = none) : exec .transmitFrameEnd s = .next s.chooseFrame := by
  have hexec : exec .transmitFrameEnd s = .next s.transmitEnd := whenRunning_of_running hrun
  rw [hexec, State.transmitEnd, hidle]

theorem exec_transmit_sending {f : Sending} (hf : s.port.htxd = some f) : exec .transmitFrameEnd s = .next
    (if f.restartReply then (s.waitUntil f.endsAt).restartTaken else (s.waitUntil f.endsAt).chooseFrame) := by
  have hexec : exec .transmitFrameEnd s = .next s.transmitEnd := whenRunning_of_running hrun
  rw [hexec, State.transmitEnd, hf]

end

/-- The choice of a frame does not read the frame that has ended. -/
theorem State.chooseFrame_htxd (f : Option Sending) (s : State) :
    (s.setPort { s.port with htxd := f }).chooseFrame = s.chooseFrame := by
  unfold State.chooseFrame
  rw [State.setPort_port]
  cases s.port.replyQueue with
  | cons r rest => rfl
  | nil =>
    dsimp only
    rw [State.setPort_reports]
    generalize (if s.port.sessionOpen = true then s.reports.nextFrame else none) = x
    cases x <;> rfl

theorem State.chooseFrame_reply {r : Reply} {rest : List Reply} {s : State} (hq : s.port.replyQueue = r :: rest) :
    s.chooseFrame = s.setPort (s.port.beginReply s.time.clock r rest) := by
  rw [State.chooseFrame, hq]

theorem State.chooseFrame_none {s : State} (hidle : s.port.htxd = none) (hq : s.port.replyQueue = [])
    (hnone : s.port.sessionOpen = false ∨ s.reports.nextFrame = none) : s.chooseFrame = s := by
  have hframe : (if s.port.sessionOpen then s.reports.nextFrame else none) = none := by
    rcases hnone with hnone | hnone <;> simp [hnone]
  have hport : { s.port with htxd := none } = s.port := by rw [← hidle]
  rw [State.chooseFrame, hq, hframe, hport]
  rfl

theorem State.chooseFrame_report {f : List Byte} {q : ReportQueue} {s : State} (hq : s.port.replyQueue = [])
    (hsession : s.port.sessionOpen = true) (hframe : s.reports.nextFrame = some (f, q)) :
    s.chooseFrame =
      (s.setReports q).setPort { s.port with htxd := some (sendingFrom s.time.clock s.port.baud f false) } := by
  rw [State.chooseFrame, hq, hsession, if_pos rfl, hframe]

/-- A port reply is not stored (R163). -/
theorem historyWith_eq (r : Reply) (h : List HistoryEntry) : historyWith r h =
    if r.role = .port then h
    else
      (if (h.filter (·.tag != r.tag)).length < 8 then h.filter (·.tag != r.tag)
        else (h.filter (·.tag != r.tag)).drop 1) ++ [⟨r.tag, r.kind, r.frame⟩] := by
  obtain ⟨tag, kind, frame, role⟩ := r
  cases role <;> rfl

/-! ## The oldest unsent report (R177 to R179) -/

theorem ReportQueue.nextFrame_unmarked {q : ReportQueue} (h : q.resendMark = none) : q.nextFrame = q.sendFirst := by
  rw [ReportQueue.nextFrame, h]

theorem ReportQueue.sendFirst_none {q : ReportQueue}
    (h : 8 ≤ q.sentCount ∨ ∀ e ∈ q.entries, e.number.isSome = true) : q.sendFirst = none := by
  unfold ReportQueue.sendFirst
  split
  next hroom =>
    have hall : ∀ e ∈ q.entries, e.number.isSome = true := h.resolve_left (Nat.not_le_of_lt hroom)
    have hfind : q.entries.findIdx? (fun e => !e.sent) = none :=
      List.findIdx?_eq_none_iff.mpr fun e he => by simp [ReportEntry.sent, hall e he]
    rw [hfind]
  next => rfl

theorem ReportQueue.sendFirst_oldest {q : ReportQueue} {pre post : List ReportEntry} {e : ReportEntry}
    (he : q.entries = pre ++ e :: post) (hpre : ∀ x ∈ pre, x.number.isSome = true) (hnew : e.number = none)
    (hroom : q.sentCount < 8) (hbody : e.report.isLost = false ∨ e.fixed = true) :
    q.sendFirst = some (reportFrame e.report q.nextNumber, { q with
      entries := pre ++ ⟨e.report, true, some q.nextNumber⟩ :: post
      nextNumber := q.nextNumber + 1 }) := by
  have hfind : q.entries.findIdx? (fun e => !e.sent) = some pre.length := by
    have hskip : pre.findIdx? (fun e => !e.sent) = none :=
      List.findIdx?_eq_none_iff.mpr fun x hx => by simp [ReportEntry.sent, hpre x hx]
    rw [he, List.findIdx?_append, hskip, List.findIdx?_cons, if_pos (by simp [ReportEntry.sent, hnew])]
    simp
  have hget : q.entries[pre.length]? = some e := by simp [he]
  have hlost : (e.report.isLost && !e.fixed) = false := by rcases hbody with h | h <;> simp [h]
  have hset : q.entries.set pre.length ⟨e.report, true, some q.nextNumber⟩ =
      pre ++ ⟨e.report, true, some q.nextNumber⟩ :: post := by simp [he]
  have hbodied : e.bodied q.lostCount = e.report := by rw [ReportEntry.bodied, hlost]; rfl
  have hroom' : q.sentCount < Config.reportWindow := hroom
  rw [ReportQueue.sendFirst, if_pos hroom', hfind]
  simp only [hget, Option.map_some, hlost, ReportEntry.begun, hbodied, hset]
  rfl

theorem frame_length (flags kind tag : Byte) (body : List Byte) : (frame flags kind tag body).length = body.length + 7 := by
  simp [frame, frameInner, crcBytes, u16]

/-- Settles O18: the idle transmitter by what it finds, a frame being sent by what it is. -/
theorem transmitterChooses : Obligations.TransmitterChooses := by
  refine ⟨fun r rest s hrun hidle hq => ?_, fun pre post e s hrun hidle hq hsession hmark he hpre hnew hroom hbody => ?_,
    fun s hrun hidle hq hnone => ?_, fun f s u hrun hf hr hu => ?_, fun f s hrun hf hr => ?_⟩
  · rw [exec_transmit_idle hrun hidle, State.chooseFrame_reply hq, ← historyWith_eq]
    rfl
  · have hframe := (ReportQueue.nextFrame_unmarked hmark).trans (ReportQueue.sendFirst_oldest he hpre hnew hroom hbody)
    rw [exec_transmit_idle hrun hidle, State.chooseFrame_report hq hsession hframe,
      ← frame_length 0x80 e.report.kindCode s.reports.nextNumber]
    rfl
  · rw [exec_transmit_idle hrun hidle, State.chooseFrame_none hidle hq]
    exact hnone.imp_right fun h => (ReportQueue.nextFrame_unmarked h.1).trans (ReportQueue.sendFirst_none h.2)
  · have hu' : s.waitUntil f.endsAt = u := hu.symm
    have hrun' : (u.setPort { u.port with htxd := none }).inReset = false := by
      rw [State.setPort_inReset, hu, State.passTime_inReset, hrun]
    rw [exec_transmit_sending hrun hf, hr, hu', exec_transmit_idle hrun' rfl, State.chooseFrame_htxd]
    rfl
  · rw [exec_transmit_sending hrun hf, exec_restartReset hrun hf hr, if_pos hr]

end Sys2Proof.Machine
end

section
/-! SUPPORT. The receiver's examination of a byte and the bytes of a frame: O20. -/

namespace Sys2Proof.Machine

/-! ## A byte is examined (R151, R152) -/

theorem State.examine_hunting_other {b : RxByte} {s : State} (hc : s.port.candidate = []) (hb : b.byte ≠ 0xC3) :
    s.examine b = s := by
  have hother : (s.port.candidate.isEmpty && b.byte != sof) = true := by simpa [hc, sof] using hb
  rw [State.examine, if_pos hother]

theorem State.examine_joins {b : RxByte} {s : State} (h : s.port.candidate ≠ [] ∨ b.byte = 0xC3) :
    s.examine b = (s.setPort { s.port with candidate := s.port.candidate ++ [b] }).judge := by
  have hjoins : ¬(s.port.candidate.isEmpty && b.byte != sof) = true := by
    simp only [Bool.and_eq_true, List.isEmpty_iff, bne_iff_ne, not_and, not_not]
    exact fun hc => h.resolve_left (not_not.mpr hc)
  rw [State.examine, if_neg hjoins]

theorem lenInRange_eq_true {len : Byte} : lenInRange len = true ↔ 3 ≤ len.toNat ∧ len.toNat ≤ 251 := decide_eq_true_iff

theorem State.judge_single {sof : RxByte} {s : State} (hc : s.port.candidate = [sof]) : s.judge = s := by
  rw [State.judge, hc]

section
variable {sof len : RxByte} {c : List RxByte} {s : State} (hc : s.port.candidate = sof :: len :: c)
include hc

theorem State.judge_badLength (hlen : ¬(3 ≤ len.byte.toNat ∧ len.byte.toNat ≤ 251)) :
    s.judge = s.abandonCandidate .length := by
  have hbad : (!lenInRange len.byte) = true := by rw [lenInRange, decide_eq_false hlen]; rfl
  simp only [State.judge, hc, hbad, if_true]

theorem State.judge_incomplete (hlen : 3 ≤ len.byte.toNat ∧ len.byte.toNat ≤ 251)
    (hmore : c.length + 2 < len.byte.toNat + 4) : s.judge = s := by
  have hgood : lenInRange len.byte = true := lenInRange_eq_true.mpr hlen
  simp only [State.judge, hc, hgood, List.length_cons, if_pos hmore]
  rfl

/-- A complete candidate whose CRC is right is a frame (R149, R151). -/
theorem State.judge_frame {bytes : List Byte} (hlen : 3 ≤ len.byte.toNat ∧ len.byte.toNat ≤ 251)
    (hwhole : len.byte.toNat + 4 ≤ c.length + 2) (hbytes : (sof :: len :: c).map (·.byte) = bytes)
    (hcheck : frameChecks bytes = true) : s.judge = s.deliver bytes := by
  have hgood : lenInRange len.byte = true := lenInRange_eq_true.mpr hlen
  simp only [State.judge, hc, hgood, List.length_cons, if_neg (Nat.not_lt.mpr hwhole), hbytes, hcheck]
  rfl

theorem State.judge_badCheck (hlen : 3 ≤ len.byte.toNat ∧ len.byte.toNat ≤ 251)
    (hwhole : len.byte.toNat + 4 ≤ c.length + 2) (hcheck : frameChecks ((sof :: len :: c).map (·.byte)) = false) :
    s.judge = s.abandonCandidate .check := by
  have hgood : lenInRange len.byte = true := lenInRange_eq_true.mpr hlen
  simp only [State.judge, hc, hgood, List.length_cons, if_neg (Nat.not_lt.mpr hwhole), hcheck]
  rfl

end

/-! ## The CRC test (R149) -/

theorem crcBytes_length (bs : List Byte) : (crcBytes bs).length = 2 := rfl

/-- The last two bytes of a complete candidate are tested against those between SOF and them. -/
theorem frameChecks_eq (sof : Byte) (inner : List Byte) {check : List Byte} (h : check.length = 2) :
    frameChecks (sof :: (inner ++ check)) = (check == crcBytes inner) := by
  have hinner : (inner ++ check).length - 2 = inner.length := by
    rw [List.length_append, h, Nat.add_sub_cancel]
  rw [frameChecks, hinner, List.drop_left, List.take_left]

theorem frameChecks_frame (flags kind tag : Byte) (body : List Byte) : frameChecks (frame flags kind tag body) = true := by
  rw [frame, frameChecks_eq _ _ (crcBytes_length _)]
  exact beq_self_eq_true _

/-! ## The bytes of a frame (R151, R155) -/

/-- The fields of the frame that is handed over. -/
theorem State.deliver_frame (flags kind tag : Byte) (body : List Byte) (s : State) :
    s.deliver (frame flags kind tag body) = disposeFrame flags kind tag body (s.setPort { s.port with candidate := [] }) := by
  have hbody : ((frame flags kind tag body).drop 5).take ((frame flags kind tag body).length - 7) = body := by
    rw [frame_length, Nat.add_sub_cancel]
    exact List.take_left
  rw [State.deliver, hbody]
  rfl

/-- Bytes that do not complete the candidate join it one after another. -/
theorem State.gather {sof len : RxByte} (hlen : 3 ≤ len.byte.toNat ∧ len.byte.toNat ≤ 251) (rest : List RxByte)
    (c : List RxByte) (s : State) (hmore : c.length + rest.length + 2 < len.byte.toNat + 4) :
    rest.foldl (fun s b => s.examine b) (s.setPort { s.port with candidate := sof :: len :: c }) =
      s.setPort { s.port with candidate := sof :: len :: (c ++ rest) } := by
  induction rest generalizing c with
  | nil => rw [List.append_nil]; rfl
  | cons b rest ih =>
    rw [List.length_cons] at hmore
    have hjoin : (s.setPort { s.port with candidate := sof :: len :: c }).examine b =
        s.setPort { s.port with candidate := sof :: len :: (c ++ [b]) } := by
      rw [State.examine_joins (.inl (by simp))]
      refine State.judge_incomplete (c := c ++ [b]) rfl hlen ?_
      rw [List.length_append, List.length_singleton]
      omega
    rw [List.foldl_cons, hjoin, ih _ (by rw [List.length_append, List.length_singleton]; omega), List.append_assoc]
    rfl

/-- Settles O20: SOF and LEN begin the candidate, the bytes behind them join it, and the last one completes the frame. -/
theorem frameIsFound : Obligations.FrameIsFound := by
  intro flags kind tag body bytes s hbody hhunt hbytes
  have hcount : bytes.length = body.length + 7 := by rw [← frame_length flags kind tag body, ← hbytes, List.length_map]
  obtain ⟨sof, len, rest, rfl⟩ : ∃ sof len rest, bytes = sof :: len :: rest := by
    match bytes, hcount with
    | sof :: len :: rest, _ => exact ⟨sof, len, rest, rfl⟩
  obtain ⟨init, last, rfl⟩ : ∃ init last, rest = init ++ [last] :=
    ⟨_, _, (List.dropLast_append_getLast (by rintro rfl; simp at hcount)).symm⟩
  have hsof : sof.byte = 0xC3 := (List.cons.inj hbytes).1
  have hlenByte : len.byte = BitVec.ofNat 8 (body.length + 3) := (List.cons.inj (List.cons.inj hbytes).2).1
  have hlen : len.byte.toNat = body.length + 3 := by
    rw [hlenByte, BitVec.toNat_ofNat]
    omega
  have hrange : 3 ≤ len.byte.toNat ∧ len.byte.toNat ≤ 251 := by omega
  have hinit : init.length = body.length + 4 := by simpa using hcount
  have hstart : (s.examine sof).examine len = s.setPort { s.port with candidate := [sof, len] } := by
    rw [State.examine_joins (.inr hsof), hhunt, State.judge_single (sof := sof) rfl, State.examine_joins (.inl (by simp))]
    exact State.judge_incomplete (c := []) rfl hrange (by simp)
  have hgathered := State.gather (sof := sof) hrange init [] s (by rw [List.length_nil]; omega)
  have hwhole : (s.setPort { s.port with candidate := sof :: len :: init }).examine last =
      (s.setPort { s.port with candidate := sof :: len :: (init ++ [last]) }).deliver (frame flags kind tag body) := by
    rw [State.examine_joins (.inl (by simp))]
    refine State.judge_frame (c := init ++ [last]) rfl hrange ?_ hbytes (frameChecks_frame _ _ _ _)
    rw [List.length_append, List.length_singleton]
    omega
  have hhunting : { s.port with candidate := [] } = s.port := by rw [← hhunt]
  rw [List.foldl_cons, List.foldl_cons, List.foldl_append, hstart, hgathered, List.nil_append, List.foldl_cons,
    List.foldl_nil, hwhole, State.deliver_frame]
  exact congrArg (disposeFrame flags kind tag body) (congrArg (State.setPort · s) hhunting)

end Sys2Proof.Machine
end

section
/-! SUPPORT. The receiver examines all that is pending: O22. -/

namespace Sys2Proof.Machine

open Sys2Proof.Safety

/-! ## The receiver's bytes are its own (R155) -/

/-- The bytes of the receiver: its candidate and what is pending. -/
def Port.received (p : Port) : List RxByte × List RxByte := (p.candidate, p.pendingBytes)

theorem Port.Answers.received {p q : Port} (h : p.Answers q) : q.received = p.received := by
  rw [h.rest]
  rfl

theorem Port.portReply_received (kind tag : Byte) (f : List Byte) (p : Port) :
    (p.portReply kind tag f).received = p.received := by
  unfold Port.portReply
  split <;> rfl

theorem requestEffect_received (k : ReqKind) (tag : Byte) (body : List Byte) (s : State) :
    (requestEffect k tag body s).1.port.received = s.port.received := by
  unfold requestEffect
  split
  · rfl
  · by_cases hk : k = .restart
    · subst hk
      rfl
    · exact Port.Answers.received (bodyEffect_answers hk tag body s)

theorem State.enterWindow_received (kind tag : Byte) (x : Executed) :
    (State.enterWindow kind tag x).port.received = x.1.port.received := by
  obtain ⟨s, body⟩ := x
  cases body <;> rfl

theorem request_received (k : ReqKind) (retry : Bool) (tag : Byte) (body : List Byte) (s : State) :
    (request k retry tag (requestEffect k tag body) s).port.received = s.port.received := by
  unfold request
  split
  · rfl
  · split
    · exact Port.portReply_received _ _ _ _
    · split
      · rfl
      · exact Port.portReply_received _ _ _ _
      · exact Port.portReply_received _ _ _ _
      · exact (State.enterWindow_received _ _ _).trans (requestEffect_received k tag body s)

theorem openRequest_received (retry : Bool) (tag : Byte) (body : List Byte) (s : State) :
    (openRequest retry tag body s).port.received = s.port.received := by
  unfold openRequest
  split
  · rfl
  · split
    · rfl
    · split
      · exact Port.portReply_received _ _ _ _
      · split
        · rfl
        · exact Port.portReply_received _ _ _ _

/-- The disposal of a frame leaves the receiver as it is. -/
theorem disposeFrame_received (flags kind tag : Byte) (body : List Byte) (s : State) :
    (disposeFrame flags kind tag body s).port.received = s.port.received := by
  obtain ⟨retry, heq⟩ | ⟨k, retry, -, heq⟩ | heq := disposeFrame_cases flags kind tag body s <;> rw [heq]
  · exact openRequest_received _ _ _ _
  · exact request_received _ _ _ _ _
  · unfold State.improper
    split
    · rfl
    · exact Port.portReply_received _ _ _ _

/-! ## The work that is left (R152) -/

/-- Bytes at hand. -/
def Port.atHand (p : Port) : Nat := p.candidate.length + p.pendingBytes.length

/-- What is left to do: an examined byte joins the candidate, or the bytes at hand become fewer. -/
def Port.left (p : Port) : Nat := p.atHand * (p.atHand + 1) + p.pendingBytes.length

theorem Port.left_lt_of_fewer {p q : Port} (h : q.atHand < p.atHand) : q.left < p.left := by
  have hle : (q.atHand + 1) * (q.atHand + 2) ≤ p.atHand * (p.atHand + 1) := Nat.mul_le_mul h (Nat.succ_le_succ h)
  have hexpand : (q.atHand + 1) * (q.atHand + 2) = q.atHand * (q.atHand + 1) + 2 * q.atHand + 2 := by ring
  have hpending : q.pendingBytes.length ≤ q.atHand := Nat.le_add_left _ _
  simp only [Port.left]
  omega

theorem Port.left_le_work (p : Port) : p.left ≤ p.work := by
  have hexpand : (p.atHand + 1) * (p.atHand + 2) = p.atHand * (p.atHand + 1) + 2 * p.atHand + 2 := by ring
  have hwork : p.work = (p.atHand + 1) * (p.atHand + 2) := rfl
  have hpending : p.pendingBytes.length ≤ p.atHand := Nat.le_add_left _ _
  rw [hwork, hexpand, Port.left]
  omega

/-- An examined byte joins the candidate, or is not at hand any longer when it is done with. -/
theorem State.examine_atHand (b : RxByte) (s : State) :
    ((s.examine b).port.candidate.length = s.port.candidate.length + 1 ∧
      (s.examine b).port.pendingBytes = s.port.pendingBytes) ∨ (s.examine b).port.atHand ≤ s.port.atHand := by
  have judged (t : State) (ht : 1 ≤ t.port.candidate.length) :
      t.judge = t ∨ t.judge.port.atHand + 1 ≤ t.port.atHand := by
    have habandon (k : PortErrorKind) : (t.abandonCandidate k).port.atHand + 1 ≤ t.port.atHand := by
      simp only [State.abandonCandidate, State.offer_port, State.setPort_port, Port.atHand, List.length_nil,
        List.length_append, List.length_tail]
      omega
    have hdeliver (bytes : List Byte) : (t.deliver bytes).port.atHand + 1 ≤ t.port.atHand := by
      have hrec : (t.deliver bytes).port.received = ([], t.port.pendingBytes) := disposeFrame_received _ _ _ _ _
      obtain ⟨hcand, hpend⟩ := Prod.mk.inj hrec
      simp only [Port.atHand, hcand, hpend, List.length_nil]
      omega
    unfold State.judge
    split
    · split
      · exact .inr (habandon _)
      · split
        · exact .inl rfl
        · split
          · exact .inr (hdeliver _)
          · exact .inr (habandon _)
    · exact .inl rfl
  by_cases hjoin : s.port.candidate ≠ [] ∨ b.byte = 0xC3
  · rw [State.examine_joins hjoin]
    obtain heq | hless := judged (s.setPort { s.port with candidate := s.port.candidate ++ [b] }) (by simp)
    · rw [heq]
      exact .inl ⟨List.length_append, rfl⟩
    · refine .inr ?_
      simp only [State.setPort_port, Port.atHand, List.length_append, List.length_singleton] at hless ⊢
      omega
  · obtain ⟨hc, hb⟩ := not_or.mp hjoin
    rw [State.examine_hunting_other (not_not.mp hc) hb]
    exact .inr le_rfl

theorem State.examine_left {b : RxByte} {rest : List RxByte} {s : State} (hp : s.port.pendingBytes = b :: rest) :
    ((s.setPort { s.port with pendingBytes := rest }).examine b).port.left < s.port.left := by
  have hlen : s.port.pendingBytes.length = rest.length + 1 := by rw [hp, List.length_cons]
  obtain ⟨hcand, hpend⟩ | hless := (s.setPort { s.port with pendingBytes := rest }).examine_atHand b
  · have hcand' : ((s.setPort { s.port with pendingBytes := rest }).examine b).port.candidate.length =
        s.port.candidate.length + 1 := hcand
    have hhand : ((s.setPort { s.port with pendingBytes := rest }).examine b).port.atHand = s.port.atHand := by
      rw [Port.atHand, Port.atHand, hcand', hpend, hlen]
      exact Nat.add_right_comm _ _ _
    rw [Port.left, Port.left, hhand, hpend, hlen]
    exact Nat.lt_succ_self _
  · refine Port.left_lt_of_fewer (hless.trans_lt ?_)
    have hhand : s.port.atHand = s.port.candidate.length + rest.length + 1 := by rw [Port.atHand, hlen, Nat.add_assoc]
    rw [hhand]
    exact Nat.lt_succ_self _

/-! ## Examining to the end (R152, R153) -/

theorem State.gapPassed_iff {s : State} : s.gapPassed = true ↔
    ∃ c last, s.port.candidate = c ++ [last] ∧ last.arrival + Baud.charsMicros 64 s.port.baud < s.time.clock := by
  have hgap : s.gapPassed = true ↔ ∃ last, s.port.candidate.getLast? = some last ∧
      last.arrival + Baud.charsMicros 64 s.port.baud < s.time.clock := by
    simp [State.gapPassed, Port.gapEnd, Config.gapCharacters, Option.any_eq_true]
  rw [hgap]
  constructor
  · rintro ⟨last, hlast, hclock⟩
    obtain ⟨c, hc⟩ := List.getLast?_eq_some_iff.mp hlast
    exact ⟨c, last, hc, hclock⟩
  · rintro ⟨c, last, hc, hclock⟩
    exact ⟨last, by simp [hc], hclock⟩

theorem State.abandon_left {s : State} (hgap : s.gapPassed = true) (k : PortErrorKind) :
    (s.abandonCandidate k).port.left < s.port.left := by
  obtain ⟨c, last, hc, -⟩ := State.gapPassed_iff.mp hgap
  refine Port.left_lt_of_fewer ?_
  simp only [State.abandonCandidate, State.offer_port, State.setPort_port, Port.atHand, List.length_nil,
    List.length_append, List.length_tail, hc, List.length_singleton]
  omega

theorem State.examinePending_byte {b : RxByte} {rest : List RxByte} {s : State} (hp : s.port.pendingBytes = b :: rest)
    (k : Nat) : State.examinePending (k + 1) s =
      State.examinePending k ((s.setPort { s.port with pendingBytes := rest }).examine b) := by
  rw [State.examinePending, hp]

theorem State.examinePending_gap {s : State} (hp : s.port.pendingBytes = []) (hgap : s.gapPassed = true) (k : Nat) :
    State.examinePending (k + 1) s = State.examinePending k (s.abandonCandidate .gap) := by
  rw [State.examinePending, hp]
  exact if_pos hgap

theorem State.examinePending_idle {s : State} (hp : s.port.pendingBytes = []) (hgap : s.gapPassed = false) (k : Nat) :
    State.examinePending k s = s := by
  cases k with
  | zero => rfl
  | succ k =>
    rw [State.examinePending, hp]
    exact if_neg (Bool.eq_false_iff.mp hgap)

/-- Any bound that covers what is left leads to the same end. -/
theorem State.examinePending_enough {j k : Nat} {s : State} (hj : s.port.left ≤ j) (hk : s.port.left ≤ k) :
    State.examinePending j s = State.examinePending k s := by
  induction j generalizing k s with
  | zero =>
    obtain ⟨⟨hcand, hpend⟩, -⟩ : (s.port.candidate = [] ∧ s.port.pendingBytes = []) ∧ s.port.pendingBytes = [] := by
      simpa [Port.left, Port.atHand] using hj
    have hgap : s.gapPassed = false := by
      rw [State.gapPassed, Port.gapEnd, hcand]
      rfl
    rw [State.examinePending_idle hpend hgap, State.examinePending_idle hpend hgap]
  | succ j ih =>
    cases hp : s.port.pendingBytes with
    | cons b rest =>
      have hless := State.examine_left hp
      obtain ⟨k, rfl⟩ : ∃ k', k = k' + 1 := Nat.exists_eq_add_one.mpr (by omega)
      rw [State.examinePending_byte hp, State.examinePending_byte hp]
      exact ih (by omega) (by omega)
    | nil =>
      cases hgap : s.gapPassed with
      | true =>
        have hless := State.abandon_left hgap .gap
        obtain ⟨k, rfl⟩ : ∃ k', k = k' + 1 := Nat.exists_eq_add_one.mpr (by omega)
        rw [State.examinePending_gap hp hgap, State.examinePending_gap hp hgap]
        exact ih (by omega) (by omega)
      | false => rw [State.examinePending_idle hp hgap, State.examinePending_idle hp hgap]

/-- One thing done, and the rest is left. -/
theorem State.settleReceiver_of_step {s t : State} (hstep : ∀ k, State.examinePending (k + 1) s = State.examinePending k t)
    (hleft : t.port.left < s.port.left) : s.settleReceiver = t.settleReceiver := by
  have hs : s.settleReceiver = State.examinePending (s.port.left + 1) s :=
    State.examinePending_enough s.port.left_le_work (Nat.le_succ _)
  rw [hs, hstep]
  exact State.examinePending_enough hleft.le t.port.left_le_work

/-- Settles O22: the two rows, the byte by the state of the candidate, and the receiver by what is left to do. -/
theorem receiverHunts : Obligations.ReceiverHunts := by
  refine ⟨fun after b s u hrun hu => ?_, fun c last s u hrun hc hu => ?_, fun b s hc => ?_, fun sof b s hc => ?_,
    fun sof len b c s hc hlow hhigh => ⟨fun hmore => ?_, fun inner k1 k2 hwhole hsplit hcrc => ?_⟩, fun b rest s hp => ?_,
    fun s hp hwait => ?_, fun c last s hp hc hgap => ?_⟩
  · have hexec : exec (.commandByteReceived after b) s = .next (s.byteArrives after b) := whenRunning_of_running hrun
    rw [hexec, State.byteArrives, ← hu]
  · have hexec : exec .candidateGap s = .next s.candidateGap := whenRunning_of_running hrun
    have hend : s.port.gapEnd = some (last.arrival + Baud.charsMicros 64 s.port.baud) := by
      simp [Port.gapEnd, hc, Config.gapCharacters]
    have hcand : u.port.candidate = c ++ [last] := by
      rw [hu, State.passTime_port, ← hc]
    rw [hexec, State.candidateGap, hend]
    dsimp only
    rw [State.waitUntil, ← hu, State.abandonCandidate, hcand]
  · by_cases hb : b.byte = 0xC3
    · rw [if_pos hb, State.examine_joins (.inr hb), hc]
      exact State.judge_single (sof := b) rfl
    · rw [if_neg hb, State.examine_hunting_other hc hb]
  · rw [State.examine_joins (.inl (by simp [hc])), hc]
    by_cases hlen : 3 ≤ b.byte.toNat ∧ b.byte.toNat ≤ 251
    · rw [if_pos hlen]
      exact State.judge_incomplete (c := []) rfl hlen (by simp)
    · rw [if_neg hlen]
      exact State.judge_badLength (c := []) rfl hlen
  · rw [State.examine_joins (.inl (by simp [hc])), hc]
    refine State.judge_incomplete (c := c ++ [b]) rfl ⟨hlow, hhigh⟩ ?_
    rw [List.length_append, List.length_singleton]
    omega
  · have hbad : frameChecks ((sof :: len :: (c ++ [b])).map (·.byte)) = false := by
      rw [hsplit, List.map_cons, List.map_append, frameChecks_eq _ _ (by simp)]
      exact beq_eq_false_iff_ne.mpr hcrc
    rw [State.examine_joins (.inl (by simp [hc])), hc]
    refine State.judge_badCheck (c := c ++ [b]) rfl ⟨hlow, hhigh⟩ ?_ hbad
    rw [List.length_append, List.length_singleton]
    omega
  · exact State.settleReceiver_of_step (State.examinePending_byte hp) (State.examine_left hp)
  · refine State.examinePending_idle hp (Bool.eq_false_iff.mpr fun hgap => ?_) _
    obtain ⟨c, last, hc, hclock⟩ := State.gapPassed_iff.mp hgap
    exact absurd (hwait last (by simp [hc])) (Nat.not_le.mpr hclock)
  · have hpassed : s.gapPassed = true := State.gapPassed_iff.mpr ⟨c, last, hc, hgap⟩
    rw [State.settleReceiver_of_step (State.examinePending_gap hp hpassed) (State.abandon_left hpassed .gap),
      State.abandonCandidate, hc, hp, List.append_nil]

end Sys2Proof.Machine
end

section
/-! SUPPORT. The law of the report queue, and what keeps it: the acts of the queue itself. O8. -/

namespace Sys2Proof.Machine

open Sys2Proof.Safety

/-! ## The numbers of the sent entries (R178) -/

/-- The consecutive numbers of `k` sent entries, the last of them one below the next number. -/
def numberRun (next : Byte) : Nat → List (Option Byte)
  | 0 => []
  | k + 1 => some (next - BitVec.ofNat 8 (k + 1)) :: numberRun next k

theorem length_numberRun (next : Byte) (k : Nat) : (numberRun next k).length = k := by
  induction k with
  | zero => rfl
  | succ k ih => rw [numberRun, List.length_cons, ih]

theorem isSome_of_mem_numberRun {next : Byte} {k : Nat} {x : Option Byte} (h : x ∈ numberRun next k) : x.isSome = true := by
  induction k with
  | zero => cases h
  | succ k ih =>
    obtain rfl | h := List.mem_cons.mp h
    · rfl
    · exact ih h

/-- The oldest entries leave. -/
theorem drop_numberRun (next : Byte) (i k : Nat) : (numberRun next k).drop i = numberRun next (k - i) := by
  induction k generalizing i with
  | zero => simp [numberRun]
  | succ k ih =>
    cases i with
    | zero => rfl
    | succ i => rw [numberRun, List.drop_succ_cons, ih, Nat.add_sub_add_right]

/-- The next entry is sent. -/
theorem numberRun_snoc (next : Byte) (k : Nat) : numberRun next k ++ [some next] = numberRun (next + 1) (k + 1) := by
  induction k with
  | zero => simp [numberRun]
  | succ k ih =>
    have hhead : next - BitVec.ofNat 8 (k + 1) = next + 1 - BitVec.ofNat 8 (k + 1 + 1) := by
      rw [BitVec.ofNat_add (x := k + 1) (y := 1)]
      exact (add_sub_add_right_eq_sub _ _ _).symm
    rw [numberRun, List.cons_append, ih, hhead]
    rfl

/-- The numbers of the law, place by place. -/
theorem map_numberAt (q : ReportQueue) (m : Nat) : (List.range (q.sentCount + m)).map (numberAt q) =
    numberRun q.nextNumber q.sentCount ++ List.replicate m none := by
  have hsent (k : Nat) : (List.range k).map (fun j => some (q.nextNumber - BitVec.ofNat 8 k + BitVec.ofNat 8 j)) =
      numberRun q.nextNumber k := by
    induction k with
    | zero => rfl
    | succ k ih =>
      have hrest (j : Nat) : q.nextNumber - BitVec.ofNat 8 (k + 1) + BitVec.ofNat 8 (j + 1) =
          q.nextNumber - BitVec.ofNat 8 k + BitVec.ofNat 8 j := by
        rw [BitVec.ofNat_add, BitVec.ofNat_add]
        ring
      rw [List.range_succ_eq_map, List.map_cons, List.map_map, numberRun, ← ih]
      simp only [Function.comp_def, hrest]
      simp
  have hin : (List.range q.sentCount).map (numberAt q) = numberRun q.nextNumber q.sentCount := by
    rw [← hsent]
    exact List.map_congr_left fun j hj => if_pos (List.mem_range.mp hj)
  have hbeyond : (List.range m).map (numberAt q ∘ (q.sentCount + ·)) = List.replicate m none := by
    rw [List.eq_replicate_iff]
    simp [numberAt]
  rw [List.range_add, List.map_append, List.map_map, hin, hbeyond]

/-- The sent entries are the oldest ones, at most eight, with consecutive numbers up to the next (R176, R178). -/
def ReportQueue.Numbered (q : ReportQueue) : Prop :=
  ∃ k m : Nat, k ≤ 8 ∧ q.entries.map (·.number) = numberRun q.nextNumber k ++ List.replicate m none

theorem ReportQueue.sentCount_eq (q : ReportQueue) : q.sentCount = ((q.entries.map (·.number)).filter Option.isSome).length := by
  rw [List.filter_map, List.length_map]
  rfl

theorem ReportQueue.sentCount_of_numbers {q : ReportQueue} {next : Byte} {k m : Nat}
    (h : q.entries.map (·.number) = numberRun next k ++ List.replicate m none) : q.sentCount = k := by
  have hrun : (numberRun next k).filter Option.isSome = numberRun next k :=
    List.filter_eq_self.mpr fun x hx => isSome_of_mem_numberRun hx
  rw [q.sentCount_eq, h, List.filter_append, hrun]
  simp [length_numberRun]

theorem ReportQueue.numbered_iff {q : ReportQueue} : q.Numbered ↔
    q.sentCount ≤ 8 ∧ q.entries.map (·.number) = (List.range q.entries.length).map (numberAt q) := by
  constructor
  · rintro ⟨k, m, hk, h⟩
    have hcount := ReportQueue.sentCount_of_numbers h
    have hlen : q.entries.length = k + m := by simpa [length_numberRun] using congrArg List.length h
    subst hcount
    exact ⟨hk, by rw [h, hlen, map_numberAt]⟩
  · rintro ⟨hk, h⟩
    have hle : q.sentCount ≤ q.entries.length := List.length_filter_le _ _
    refine ⟨q.sentCount, q.entries.length - q.sentCount, hk, ?_⟩
    rw [h, ← map_numberAt, Nat.add_sub_cancel' hle]

/-! ## The law, by names -/

/-- What coalescing and the two limits see of a report: whether it is REPORTS_LOST, and its kind and subject (R174). -/
def Report.face (r : Report) : Bool × Option (Byte × Byte) := (r.isLost, r.coalesceKey)

def ReportQueue.faces (q : ReportQueue) : List (Bool × Option (Byte × Byte)) := q.entries.map (·.report.face)

/-- The two limits, and one entry for each coalescing kind and subject (R173, R174, R176). -/
structure Bounded (l : List (Bool × Option (Byte × Byte))) : Prop where
  ordinary : (l.filter (!·.1)).length ≤ 47
  lost : (l.filter (·.1)).length ≤ 1
  keys : (l.filterMap (·.2)).Nodup

/-- The report law of a queue by itself (R173, R174, R176, R178). -/
structure ReportQueue.Lawful (q : ReportQueue) : Prop where
  bounded : Bounded q.faces
  counted : 0 < q.lostCount → q.faces.any (·.1) = true
  numbered : q.Numbered

theorem ReportQueue.ordinary_eq (q : ReportQueue) : q.ordinary = (q.faces.filter (!·.1)).length := by
  rw [ReportQueue.faces, List.filter_map, List.length_map]
  rfl

theorem ReportQueue.any_isLost (q : ReportQueue) : q.entries.any (·.report.isLost) = q.faces.any (·.1) := by
  rw [ReportQueue.faces, List.any_map]
  rfl

theorem reportLaw_iff {s : State} : ReportLaw s ↔ s.reports.Lawful := by
  have hlost : (s.reports.entries.filter (·.report.isLost)).length = (s.reports.faces.filter (·.1)).length := by
    rw [ReportQueue.faces, List.filter_map, List.length_map]
    rfl
  have hkeys : s.reports.entries.filterMap (·.report.coalesceKey) = s.reports.faces.filterMap (·.2) := by
    rw [ReportQueue.faces, List.filterMap_map]
    rfl
  unfold ReportLaw
  rw [hlost, hkeys, ReportQueue.any_isLost, ReportQueue.ordinary_eq]
  constructor
  · rintro ⟨hordinary, hlost, hsent, hkeys, hcounted, hnumbers⟩
    exact ⟨⟨hordinary, hlost, hkeys⟩, hcounted, ReportQueue.numbered_iff.mpr ⟨hsent, hnumbers⟩⟩
  · rintro ⟨⟨hordinary, hlost, hkeys⟩, hcounted, hnumbered⟩
    obtain ⟨hsent, hnumbers⟩ := ReportQueue.numbered_iff.mp hnumbered
    exact ⟨hordinary, hlost, hsent, hkeys, hcounted, hnumbers⟩

theorem Bounded.sublist {l l' : List (Bool × Option (Byte × Byte))} (h : Bounded l) (hs : l'.Sublist l) : Bounded l' where
  ordinary := (hs.filter _).length_le.trans h.ordinary
  lost := (hs.filter _).length_le.trans h.lost
  keys := h.keys.sublist (hs.filterMap _)

/-- A change of the queue that leaves what the limits see, and the numbers. -/
theorem ReportQueue.Lawful.of_same {q q' : ReportQueue} (h : q.Lawful) (hf : q'.faces = q.faces := by rfl)
    (hn : q'.entries.map (·.number) = q.entries.map (·.number) := by rfl) (hnext : q'.nextNumber = q.nextNumber := by rfl)
    (hc : q'.lostCount = q.lostCount := by rfl) : q'.Lawful where
  bounded := hf ▸ h.bounded
  counted := by rw [hf, hc]; exact h.counted
  numbered := by
    unfold ReportQueue.Numbered
    rw [hn, hnext]
    exact h.numbered

/-! ## A report joins the tail (R173, R176) -/

theorem ReportQueue.Numbered.append {q : ReportQueue} (h : q.Numbered) (r : Report) : (q.append r).Numbered := by
  obtain ⟨k, m, hk, hn⟩ := h
  refine ⟨k, m + 1, hk, ?_⟩
  rw [ReportQueue.append, List.map_append, hn, List.append_assoc, List.replicate_succ']
  rfl

theorem ReportQueue.faces_append (q : ReportQueue) (r : Report) : (q.append r).faces = q.faces ++ [r.face] := by
  simp [ReportQueue.faces, ReportQueue.append]

/-- A count above 0 leaves a REPORTS_LOST standing, and never a second one (R176). -/
theorem ReportQueue.ensureLost_lawful {q : ReportQueue} (hb : Bounded q.faces) (hn : q.Numbered) : q.ensureLost.Lawful := by
  unfold ReportQueue.ensureLost
  rw [q.any_isLost]
  split
  next hc =>
    simp only [Bool.and_eq_true, Bool.not_eq_true', List.any_eq_false] at hc
    obtain ⟨-, hnone⟩ := hc
    have hlost : q.faces.filter (·.1) = [] := List.filter_eq_nil_iff.mpr hnone
    refine ⟨⟨?_, ?_, ?_⟩, fun _ => ?_, hn.append _⟩ <;> rw [ReportQueue.faces_append]
    · simpa [Report.face, Report.isLost] using hb.ordinary
    · simp [hlost, Report.face, Report.isLost]
    · simpa [Report.face, Report.coalesceKey] using hb.keys
    · simp [Report.face, Report.isLost]
  next hc =>
    refine ⟨hb, fun hcount => ?_, hn⟩
    simpa [hcount] using hc

/-- An ordinary report of a kind and subject that no entry holds joins while there is room, else it is counted. -/
theorem ReportQueue.Lawful.admitOrdinary {q : ReportQueue} (h : q.Lawful) {r : Report} (hr : r.isLost = false)
    (hfresh : ∀ k, r.coalesceKey = some k → ∀ e ∈ q.entries, e.report.coalesceKey ≠ some k) : (q.admitOrdinary r).Lawful := by
  unfold ReportQueue.admitOrdinary
  split
  next => exact ReportQueue.ensureLost_lawful h.bounded h.numbered
  next hroom =>
    have hroom : (q.faces.filter (!·.1)).length < 47 := by
      rw [← q.ordinary_eq]
      exact Nat.lt_of_not_le hroom
    have hb := h.bounded
    refine ⟨⟨?_, ?_, ?_⟩, fun hcount => ?_, h.numbered.append r⟩ <;> rw [ReportQueue.faces_append]
    · simp only [List.filter_append, List.length_append, Report.face, hr]
      exact hroom
    · simpa [Report.face, hr] using hb.lost
    · rw [List.filterMap_append]
      refine List.nodup_append.mpr ⟨hb.keys, ?_, fun a ha b hb' hab => ?_⟩
      · cases hk : r.coalesceKey <;> simp [Report.face, hk]
      · obtain ⟨f, hf, hfa⟩ := List.mem_filterMap.mp ha
        obtain ⟨e, he, rfl⟩ := List.mem_map.mp hf
        have hrb : r.coalesceKey = some b := by simpa [Report.face, eq_comm] using hb'
        exact hfresh b hrb e he (hab ▸ hfa)
    · rw [List.any_append, h.counted hcount]
      rfl

theorem ReportQueue.Lawful.offer {q : ReportQueue} (h : q.Lawful) {r : Report} (hr : r.isLost = false) :
    (q.offer r).Lawful := by
  unfold ReportQueue.offer
  split
  next => exact h
  next habsorbs =>
    exact h.admitOrdinary hr fun k hk e he hek => habsorbs ((q.absorbs_iff r).mpr ⟨k, hk, e, he, hek⟩)

/-- Counting skips leaves the entry's kind, subject and number. -/
theorem ReportEntry.addSkips_face (n : Nat) (e : ReportEntry) :
    (e.addSkips n).report.face = e.report.face ∧ (e.addSkips n).number = e.number := by
  obtain ⟨r, fixed, number⟩ := e
  cases r with
  | cycleOverrun => cases fixed <;> exact ⟨rfl, rfl⟩
  | _ => exact ⟨rfl, rfl⟩

/-- Only CYCLE_OVERRUN has its KIND. -/
theorem Report.isOverrun_of_key {r : Report} (h : r.coalesceKey = some (0x8A, 0)) : r.isOverrun = true := by
  cases r <;> simp [Report.coalesceKey] at h
  rfl

theorem ReportQueue.Lawful.offerOverrun {q : ReportQueue} (h : q.Lawful) (cycle : Cycle) (soFar more : Nat) :
    (q.offerOverrun cycle soFar more).Lawful := by
  unfold ReportQueue.offerOverrun
  split
  next =>
    refine h.of_same ?_ ?_
    · simp [ReportQueue.faces, Function.comp_def, (ReportEntry.addSkips_face more _).1]
    · simp [Function.comp_def, (ReportEntry.addSkips_face more _).2]
  next hnone =>
    refine h.admitOrdinary rfl fun k hk e he hek => hnone (List.any_eq_true.mpr ⟨e, he, Report.isOverrun_of_key ?_⟩)
    rw [hek, ← hk]
    rfl

/-! ## Acknowledgement, first frames, a new session -/

/-- The entries up to a sent one are all sent, so an acknowledgement drops them (R180). -/
theorem ReportQueue.Lawful.acknowledge {q : ReportQueue} (h : q.Lawful) {n : Byte} {i : Nat} (hi : q.placeOf n = some i) :
    (q.acknowledge i).Lawful := by
  obtain ⟨k, m, hk, hn⟩ := h.numbered
  obtain ⟨hlt, hnum, -⟩ := List.findIdx?_eq_some_iff_getElem.mp hi
  have hget : (numberRun q.nextNumber k ++ List.replicate m none)[i]? = some (some n) := by
    rw [← hn, List.getElem?_map, List.getElem?_eq_getElem hlt]
    simpa using hnum
  have hik : i < k := by
    by_contra hge
    rw [List.getElem?_append_right (by rw [length_numberRun]; omega), List.getElem?_replicate] at hget
    split at hget <;> cases hget
  have htake : (q.entries.take (i + 1)).filter (fun e => !e.sent) = [] := by
    refine List.filter_eq_nil_iff.mpr fun e he => ?_
    have hmem : e.number ∈ (numberRun q.nextNumber k).take (i + 1) := by
      have htake := congrArg (List.take (i + 1)) hn
      rw [List.take_append_of_le_length (by rw [length_numberRun]; omega), ← List.map_take] at htake
      exact htake ▸ List.mem_map_of_mem he
    simp [ReportEntry.sent, isSome_of_mem_numberRun (List.mem_of_mem_take hmem)]
  have hleft : q.leftAfter i = q.entries.drop (i + 1) := by rw [ReportQueue.leftAfter, htake, List.nil_append]
  refine ReportQueue.ensureLost_lawful (h.bounded.sublist ?_) ⟨k - (i + 1), m, by omega, ?_⟩
  · rw [ReportQueue.faces, hleft]
    exact (List.drop_sublist _ _).map _
  · rw [hleft, List.map_drop, hn, List.drop_append_of_le_length (by rw [length_numberRun]; omega), drop_numberRun]

theorem Report.face_of_lost {r : Report} (h : r.isLost = true) : r.face = (true, none) := by
  cases r with
  | reportsLost => rfl
  | _ => cases h

/-- The body that a REPORTS_LOST takes leaves it a REPORTS_LOST (R177). -/
theorem ReportEntry.bodied_face (lostCount : Nat) (e : ReportEntry) : (e.bodied lostCount).face = e.report.face := by
  unfold ReportEntry.bodied
  split
  next hlost => rw [Report.face_of_lost (Bool.and_eq_true_iff.mp hlost).1, Report.face_of_lost rfl]
  next => rfl

/-- The oldest unsent entry is sent: it takes the next number, and a REPORTS_LOST its body (R177, R178). -/
theorem ReportQueue.sendFirst_of_unsent {q : ReportQueue} {pre post : List ReportEntry} {e : ReportEntry}
    (he : q.entries = pre ++ e :: post) (hpre : ∀ x ∈ pre, x.number.isSome = true) (hnew : e.number = none)
    (hroom : q.sentCount < 8) :
    q.sendFirst = some (reportFrame (e.bodied q.lostCount) q.nextNumber, { q with
      entries := pre ++ e.begun q.nextNumber q.lostCount :: post
      nextNumber := q.nextNumber + 1
      lostCount := if e.report.isLost && !e.fixed then 0 else q.lostCount }) := by
  have hfind : q.entries.findIdx? (fun e => !e.sent) = some pre.length := by
    have hskip : pre.findIdx? (fun e => !e.sent) = none :=
      List.findIdx?_eq_none_iff.mpr fun x hx => by simp [ReportEntry.sent, hpre x hx]
    rw [he, List.findIdx?_append, hskip, List.findIdx?_cons]
    simp [ReportEntry.sent, hnew]
  have hget : q.entries[pre.length]? = some e := by simp [he]
  have hset (x : ReportEntry) : q.entries.set pre.length x = pre ++ x :: post := by simp [he]
  rw [ReportQueue.sendFirst, if_pos (show q.sentCount < Config.reportWindow from hroom), hfind]
  simp only [hget, hset, Option.map_some]

/-- What is sent by a queue that sends: its oldest unsent entry. -/
theorem ReportQueue.unsent_of_sendFirst {q : ReportQueue} (h : q.sendFirst.isSome = true) : q.sentCount < 8 ∧
    ∃ (pre post : List ReportEntry) (e : ReportEntry),
      q.entries = pre ++ e :: post ∧ (∀ x ∈ pre, x.number.isSome = true) ∧ e.number = none := by
  have hnot : ¬(8 ≤ q.sentCount ∨ ∀ e ∈ q.entries, e.number.isSome = true) := fun hnone => by
    rw [ReportQueue.sendFirst_none hnone] at h
    cases h
  obtain ⟨hroom, hunsent⟩ := not_or.mp hnot
  refine ⟨Nat.lt_of_not_le hroom, ?_⟩
  obtain ⟨e, hfind⟩ : ∃ e, q.entries.find? (fun e => !e.number.isSome) = some e := by
    simpa [← Option.isSome_iff_exists] using hunsent
  obtain ⟨hnew, pre, post, hq, hpre⟩ := List.find?_eq_some_iff_append.mp hfind
  exact ⟨pre, post, e, hq, fun x hx => by simpa using hpre x hx, by simpa using hnew⟩

/-- The first entry without a number stands right behind those that have one. -/
theorem numberRun_split {next : Byte} {k m : Nat} {a b : List (Option Byte)}
    (h : a ++ none :: b = numberRun next k ++ List.replicate m none) (ha : ∀ x ∈ a, x.isSome = true) :
    a = numberRun next k ∧ b = List.replicate (m - 1) none := by
  have hrun : a = numberRun next k := by
    have hwhile := congrArg (List.takeWhile Option.isSome) h
    rw [List.takeWhile_append_of_pos ha, List.takeWhile_append_of_pos fun x hx => isSome_of_mem_numberRun hx] at hwhile
    simpa [List.takeWhile_replicate] using hwhile
  subst hrun
  refine ⟨rfl, ?_⟩
  simpa using congrArg List.tail (List.append_cancel_left h)

/-- The first unsent entry is sent: it takes the next number (R178, R179). -/
theorem ReportQueue.Lawful.sendFirst {q q' : ReportQueue} {f : List Byte} (h : q.Lawful)
    (hsend : q.sendFirst = some (f, q')) : q'.Lawful := by
  obtain ⟨hroom, pre, post, e, hq, hpre, hnew⟩ := ReportQueue.unsent_of_sendFirst (by rw [hsend]; rfl)
  rw [ReportQueue.sendFirst_of_unsent hq hpre hnew hroom] at hsend
  cases hsend
  have hfaces : (pre ++ e.begun q.nextNumber q.lostCount :: post).map (·.report.face) = q.faces := by
    simp [ReportQueue.faces, hq, ReportEntry.begun, ReportEntry.bodied_face]
  refine ⟨?_, fun hcount => ?_, ?_⟩
  · rw [ReportQueue.faces, hfaces]
    exact h.bounded
  · rw [ReportQueue.faces, hfaces]
    dsimp only at hcount
    split at hcount
    · cases hcount
    · exact h.counted hcount
  · obtain ⟨k, m, hk, hn⟩ := h.numbered
    have hcount := ReportQueue.sentCount_of_numbers hn
    rw [hq, List.map_append, List.map_cons, hnew] at hn
    obtain ⟨hrun, hrest⟩ := numberRun_split hn (by simpa using hpre)
    refine ⟨k + 1, m - 1, by omega, ?_⟩
    rw [← numberRun_snoc, List.map_append, List.map_cons, hrun, hrest, List.append_assoc]
    rfl

/-- A new session numbers from 0 (R184). -/
theorem ReportQueue.Lawful.forget {q : ReportQueue} (h : q.Lawful) : q.forget.Lawful := by
  have hfaces : q.forget.faces = q.faces := by simp [ReportQueue.faces, ReportQueue.forget]
  refine ⟨hfaces ▸ h.bounded, hfaces ▸ h.counted, 0, q.entries.length, Nat.zero_le _, ?_⟩
  simp [ReportQueue.forget, numberRun, Function.comp_def]

theorem ReportQueue.reset_lawful (cause : HelloCause) : (ReportQueue.reset cause).Lawful where
  bounded := ⟨show 1 ≤ 47 by decide, Nat.zero_le 1, List.nodup_nil⟩
  counted := nofun
  numbered := ⟨0, 1, Nat.zero_le _, rfl⟩

end Sys2Proof.Machine
end

section
/-! SUPPORT. The first frame of a REPORTS_LOST, retransmission, ACK_REPORTS and RESEND_REPORTS: O19, O24. -/

namespace Sys2Proof.Machine

open Sys2Proof.Safety

/-! ## Entries by their numbers -/

theorem ReportQueue.placeOf_of_split {q : ReportQueue} {pre post : List ReportEntry} {e : ReportEntry} {n : Byte}
    (he : q.entries = pre ++ e :: post) (hpre : ∀ x ∈ pre, x.number ≠ some n) (hn : e.number = some n) :
    q.placeOf n = some pre.length := by
  have hskip : pre.findIdx? (·.number == some n) = none :=
    List.findIdx?_eq_none_iff.mpr fun x hx => by simpa using hpre x hx
  rw [ReportQueue.placeOf, he, List.findIdx?_append, hskip, List.findIdx?_cons, hn]
  simp

theorem ReportQueue.placeOf_none {q : ReportQueue} {n : Byte} (h : ∀ x ∈ q.entries, x.number ≠ some n) :
    q.placeOf n = none :=
  List.findIdx?_eq_none_iff.mpr fun x hx => by simpa using h x hx

/-! ## The next frame (R177, R179, R181) -/

/-- The marked entry is sent again as it was, and the mark moves to the next sent entry (R179, R181). -/
theorem ReportQueue.nextFrame_marked {q : ReportQueue} {pre post : List ReportEntry} {e : ReportEntry} {n : Byte}
    (hmark : q.resendMark = some n) (he : q.entries = pre ++ e :: post) (hpre : ∀ x ∈ pre, x.number ≠ some n)
    (hn : e.number = some n) :
    q.nextFrame = some (reportFrame e.report n, { q with
      resendMark := (post.find? fun x => x.number.isSome).bind (·.number) }) := by
  have hget : q.entries[pre.length]? = some e := by simp [he]
  have hdrop : q.entries.drop (pre.length + 1) = post := by simp [he]
  simp only [ReportQueue.nextFrame, hmark, ReportQueue.placeOf_of_split he hpre hn, ReportQueue.resendAt, hget, hdrop,
    Option.map_some]
  rfl

/-- The frame that the queue offers to an idle transmitter goes out on HTXD (R165). -/
theorem exec_transmit_report {f : List Byte} {q : ReportQueue} {s : State} (hrun : s.inReset = false)
    (hidle : s.port.htxd = none) (hq : s.port.replyQueue = []) (hsession : s.port.sessionOpen = true)
    (hframe : s.reports.nextFrame = some (f, q)) :
    exec .transmitFrameEnd s = .next { s with
      reports := q
      port := { s.port with htxd := some {
        frame := f
        endsAt := s.time.clock + Baud.charsMicros f.length s.port.baud
        restartReply := false } } } := by
  rw [exec_transmit_idle hrun hidle, State.chooseFrame_report hq hsession hframe]
  rfl

/-- Settles O19: the oldest unsent entry is a REPORTS_LOST without a body, or a mark stands on a sent entry. -/
theorem reportFramesFixed : Obligations.ReportFramesFixed := by
  refine ⟨fun pre post e s hrun hidle hq hsession hmark he hpre hnew hroom hlost hfixed => ?_,
    fun pre post e n s hrun hidle hq hsession hmark he hpre hn => ?_⟩
  · have hbody : (e.report.isLost && !e.fixed) = true := by rw [hlost, hfixed]; rfl
    have hframe := (ReportQueue.nextFrame_unmarked hmark).trans (ReportQueue.sendFirst_of_unsent he hpre hnew hroom)
    rw [ReportEntry.begun, ReportEntry.bodied, hbody] at hframe
    rw [exec_transmit_report hrun hidle hq hsession hframe]
    rfl
  · rw [exec_transmit_report hrun hidle hq hsession (ReportQueue.nextFrame_marked hmark he hpre hn), reportFrame, frame_length]
    rfl

/-! ## ACK_REPORTS and RESEND_REPORTS (R180 to R182) -/

/-- The sent entries up to the acknowledged one leave (R180). -/
theorem ReportQueue.leftAfter_of_split {q : ReportQueue} {pre post : List ReportEntry} {e : ReportEntry} {n : Byte}
    (he : q.entries = pre ++ e :: post) (hpre : ∀ x ∈ pre, x.number.isSome = true) (hn : e.number = some n) :
    q.leftAfter pre.length = post := by
  have htake : q.entries.take (pre.length + 1) = pre ++ [e] := by simp [he, List.take_append]
  have hdrop : q.entries.drop (pre.length + 1) = post := by simp [he]
  have hgone : (pre ++ [e]).filter (fun x => !x.sent) = [] := List.filter_eq_nil_iff.mpr fun x hx => by
    obtain hx | hx := List.mem_append.mp hx
    · simp [ReportEntry.sent, hpre x hx]
    · simp [ReportEntry.sent, List.mem_singleton.mp hx, hn]
  rw [ReportQueue.leftAfter, htake, hdrop, hgone, List.nil_append]

/-- The mark stays with its entry, or moves to the oldest sent entry left (R180). -/
theorem markAfter_eq (left : List ReportEntry) (mark : Option Byte) : markAfter left mark =
    if mark.any (fun m => left.any (·.number == some m)) then mark
    else if mark.isSome then (left.find? fun x => x.number.isSome).bind (·.number)
    else none := by
  cases mark <;> rfl

theorem ReportQueue.ensureLost_eq (q : ReportQueue) : q.ensureLost = { q with
    entries :=
      if 0 < q.lostCount ∧ ∀ x ∈ q.entries, x.report.isLost = false then q.entries ++ [⟨.reportsLost none, false, none⟩]
      else q.entries } := by
  have hcond : (decide (0 < q.lostCount) && !q.entries.any (·.report.isLost)) = true ↔
      0 < q.lostCount ∧ ∀ x ∈ q.entries, x.report.isLost = false := by
    simp
  rw [ReportQueue.ensureLost]
  simp only [hcond]
  split <;> rfl

/-- Settles O24: the entry named stands at the end of a run of others, or nowhere. -/
theorem reportRequests : Obligations.ReportRequests := by
  refine ⟨fun retry tag n pre post e s hent he hn hpre left hleft => ?_, fun retry tag n pre post e s hent he hn hpre => ?_,
    fun retry tag n s hnone => ⟨fun hent => ?_, fun hent => ?_⟩⟩
  · have hplace := ReportQueue.placeOf_of_split he (fun x hx => (hpre x hx).2) hn
    have hpost := ReportQueue.leftAfter_of_split he (fun x hx => (hpre x hx).1) hn
    have hcount : s.reports.entries.length - post.length = pre.length + 1 := by
      rw [he, List.length_append, List.length_cons]
      omega
    refine entered_replies hent ?_ rfl
    simp only [ackReportsRequest, hplace, hpost, hcount, ReportQueue.acknowledge, ReportQueue.ensureLost_eq, markAfter_eq, ← hleft]
    rfl
  · refine entered_replies hent ?_ rfl
    have hdrop : s.reports.entries.drop pre.length = e :: post := by simp [he]
    simp only [resendReportsRequest, ReportQueue.placeOf_of_split he hpre hn, hdrop]
    rfl
  · refine entered_replies hent ?_ rfl
    rw [ackReportsRequest, ReportQueue.placeOf_none hnone]
    rfl
  · refine entered_replies hent ?_ rfl
    rw [resendReportsRequest, ReportQueue.placeOf_none hnone]
    rfl

end Sys2Proof.Machine
end

section
/-! SUPPORT. The rows of time, captures, marks, the cycle plan and the link, for every property of the part that does not read
the link engine: what such a property owes to the operations behind these rows. -/

set_option Elab.async false

namespace Sys2Proof.Machine

open Sys2Proof.Safety

/-! ## Properties that do not read the link engine -/

/-- A property that every write of the link engine keeps, and every operation of the other blocks that the rows of time and of
the link call. -/
structure LineFree (P : State → Prop) : Prop where
  engine : ∀ {s : State} (e : LinkEngine), P s → P (s.setEngine e)
  passTime : ∀ {s : State} (n : Nat), P s → P (s.passTime n)
  sample : ∀ {s : State} (changed level : BitVec 4), P s → P (s.sample changed level)
  openCycle : ∀ {s : State}, P s → P s.openCycle
  enterCyclic : ∀ {s : State}, P s → P s.enterCyclic
  planContinues : ∀ {s : State}, P s → P s.planContinues
  applyOutcome : ∀ {s : State} (tx : Transaction) (o : Outcome), P s → P (s.applyOutcome tx o)
  beaconHeard : ∀ {s : State} (u : UnitId) (c : Cycle), P s → P (s.beaconHeard u c)

/-- A transaction in its phase waits and acts: both keep the property. -/
theorem State.whenPhase_of_parts {P : State → Prop} {s : State} (h : P s) (ph : Phase) (begun : Bool)
    {wait : State → State} {act : Transaction → State → State} (hw : P (wait s))
    (ha : ∀ tx t, P t → P (act tx t)) : P (s.whenPhase ph begun wait act) := by
  unfold State.whenPhase
  split
  · dsimp only
    split
    · exact ha _ _ hw
    · exact hw
  · exact h

section
variable {P : State → Prop} (hP : LineFree P) {s : State} (h : P s)
include hP h

theorem LineFree.passBusy (n : Nat) : P (s.passBusy n) := hP.engine _ (hP.passTime n (hP.engine _ h))

/-! ## The transaction in flight -/

theorem LineFree.sendAtPhase (ph : Phase) (chars : Transaction → State → List Byte)
    (note : Transaction → State → Transaction) : P (s.sendAtPhase ph chars note) := by
  unfold State.sendAtPhase
  split
  · exact h
  · exact State.whenPhase_of_parts h _ _ (hP.passTime _ h) fun _ _ ht => hP.engine _ (hP.engine _ ht)

/-- The end of the part's frame writes the transaction alone. -/
theorem LineFree.sentAtPhase (ph : Phase) {act : Transaction → State → State}
    (ha : ∀ tx t, ∃ e, act tx t = t.setEngine e) : P (s.sentAtPhase ph act) :=
  State.whenPhase_of_parts h _ _ (hP.passTime _ h) fun tx t ht => by
    obtain ⟨e, he⟩ := ha tx t
    rw [he]
    exact hP.engine e ht

theorem LineFree.endTransaction : P s.endTransaction := by
  unfold State.endTransaction
  split
  · exact h
  · split
    · exact h
    · exact hP.planContinues (hP.applyOutcome _ _ h)

theorem LineFree.silentReply : P s.silentReply := by
  have hd : P (s.decideOutcome .silent .closing) := hP.engine _ h
  simp only [State.silentReply]
  split
  · exact hP.endTransaction hd
  · exact hd

theorem LineFree.windowExpiry : P s.windowExpiry := by
  have hwait : P s.waitWindow := by
    unfold State.waitWindow
    split
    · exact h
    · exact hP.passTime _ h
  unfold State.windowExpiry
  split
  · exact h
  · exact State.whenPhase_of_parts h _ _ hwait fun _ _ ht => hP.silentReply ht

theorem LineFree.closeWindow : P s.closeWindow := by
  unfold State.closeWindow
  split
  · exact h
  · split
    · exact hP.silentReply h
    · exact h

theorem LineFree.holdLevel (n : Nat) : P (s.holdLevel n) := by
  unfold State.holdLevel
  split
  · exact hP.passBusy h n
  · split
    · exact hP.passBusy (State.whenPhase_of_parts h _ _ (hP.passBusy h _) fun _ _ ht => hP.silentReply ht) _
    · exact hP.passBusy h n

theorem LineFree.holdLine : P s.holdLine := by
  unfold State.holdLine
  split
  · exact hP.holdLevel h _
  · exact h

theorem LineFree.stuckLine : P s.stuckLine := hP.holdLine (hP.holdLine h)

theorem LineFree.transactionEnd : P s.transactionEnd := by
  unfold State.transactionEnd
  split
  · exact hP.endTransaction (hP.passTime _ h)
  · exact h

/-! ## Heard frames -/

theorem LineFree.takeFrame (chars : List LinkChar) : P (s.takeFrame chars) := by
  unfold State.takeFrame
  split
  · exact hP.beaconHeard _ _ h
  · split
    · exact hP.engine _ h
    · exact h

theorem LineFree.frameStops (whole : Bool) : P (s.frameStops whole) := by
  unfold State.frameStops
  split
  · exact h
  · exact hP.passTime _ h

theorem LineFree.dataBegins (n : Nat) (c : Option (Byte × Byte)) : P (s.dataBegins n c) := by
  have heard : P ((s.passBusy n).setEngine { (s.passBusy n).engine with hearing := true, control := c }) :=
    hP.engine _ (hP.passBusy h n)
  simp only [State.dataBegins]
  split
  · exact hP.engine _ heard
  · exact heard

theorem LineFree.dataEnds (n : Nat) (rest : List LinkChar) : P (s.dataEnds n rest) := by
  have ended (whole : Bool) : P ((s.passBusy n).endHearing.frameStops whole) :=
    hP.frameStops (hP.engine _ (hP.passBusy h n)) whole
  unfold State.dataEnds
  dsimp only
  split
  all_goals
    split
    · exact hP.engine _ (ended _)
    · exact ended _

theorem LineFree.hearShort (n : Nat) (chars : List LinkChar) : P (s.hearShort n chars) := by
  have ht := hP.frameStops (hP.passBusy h n) (frameWhole chars)
  simp only [State.hearShort]
  split
  · exact ht
  · exact hP.takeFrame ht chars

theorem LineFree.hearChars (times : List LinkTime) : P (s.hearChars times) := by
  unfold State.hearChars
  split
  · split
    · exact hP.dataEnds (hP.dataBegins h _ _) _ _
    · exact hP.hearShort h _ _
  · exact hP.hearShort h _ _

theorem LineFree.hearFrame (times : List LinkTime) : P (s.hearFrame times) := by
  unfold State.hearFrame
  split
  · exact hP.holdLevel h _
  · exact hP.hearChars (hP.closeWindow h) _

theorem LineFree.hearAll (times : List LinkTime) : P (s.hearAll times) :=
  List.foldlRecOn (framesOf times) _ h fun _ ht f _ => hP.hearFrame ht f

theorem LineFree.frameHeard (n : Nat) (times : List LinkTime) : P (s.frameHeard n times) := by
  unfold State.frameHeard
  split
  · exact h
  · exact hP.hearAll (hP.passTime n h) times

theorem LineFree.lengthRead (n : Nat) (c : Option (Byte × Byte)) : P (s.lengthRead n c) := by
  unfold State.lengthRead
  split
  · exact h
  · exact hP.dataBegins (hP.closeWindow (hP.passTime n h)) _ _

/-! ## Openings of a cycle, captures and marks -/

theorem LineFree.beaconGrant : P s.beaconGrant := by
  unfold State.beaconGrant
  split
  · exact h
  · split
    · exact h
    · exact hP.openCycle (hP.passTime _ h)

theorem LineFree.cyclicPhaseStart : P s.cyclicPhaseStart := by
  unfold State.cyclicPhaseStart
  split
  · dsimp only
    split
    · exact hP.enterCyclic (hP.passTime _ h)
    · exact hP.passTime _ h
  · exact h

theorem LineFree.sampleAfter (n : Nat) (changed level : BitVec 4) : P (s.sampleAfter n changed level) :=
  hP.sample changed level (hP.passTime _ (hP.passTime n h))

theorem LineFree.runToMark (k : Line) : P (s.runToMark k) := by
  unfold State.runToMark
  split
  · exact h
  · split
    · exact hP.passTime _ h
    · exact h

theorem LineFree.runToPulseEnd (k : Line) : P (s.runToPulseEnd k) := by
  unfold State.runToPulseEnd
  split
  · exact h
  · split
    · exact hP.passTime _ h
    · exact h

end

/-! ## The rows -/

/-- The rows of time, captures, marks, the cycle plan and the link: no resets, and nothing of the command port. -/
def rowOfLine : Instr → Bool
  | .cycleBoundary | .listenEnd | .takeover | .markFires _ | .pulseEnd _ | .captureEdge _ _ _ | .beaconGrant
  | .cyclicPhaseStart | .headerSend | .headerSent | .dataFrameSend | .dataFrameSent | .replyWindowExpiry
  | .nodeAnswerReceived _ _ _ | .dataLengthRead _ _ _ _ | .inboundDataFrameEnd _ _ _ | .takenSend | .takenSent
  | .transactionEnd | .beaconReceived _ _ _ | .ignoredFrame _ _ _ | .stuckLine => true
  | _ => false

/-- A command that has an effect only while the part runs. -/
theorem whenRunning_keeps {P : State → Prop} {f : State → State} {s t : State} (h : P s) (hf : P (f s))
    (ht : whenRunning f s = .next t) : P t := by
  simp only [whenRunning, Host.Outcome.next.injEq] at ht
  subst ht
  split
  · exact h
  · exact hf

theorem LineFree.exec {P : State → Prop} (hP : LineFree P) {s t : State} (h : P s) {c : Instr} (hc : rowOfLine c = true)
    (ht : exec c s = .next t) : P t := by
  cases c with
  | cycleBoundary => exact whenRunning_keeps h (hP.passTime _ h) ht
  | listenEnd | takeover =>
    refine whenRunning_keeps h ?_ ht
    split
    · exact hP.passTime _ h
    · exact h
  | markFires k => exact whenRunning_keeps h (hP.runToMark h k) ht
  | pulseEnd k => exact whenRunning_keeps h (hP.runToPulseEnd h k) ht
  | captureEdge n changed level => exact whenRunning_keeps h (hP.sampleAfter h n changed level) ht
  | beaconGrant => exact whenRunning_keeps h (hP.beaconGrant h) ht
  | cyclicPhaseStart => exact whenRunning_keeps h (hP.cyclicPhaseStart h) ht
  | headerSend | dataFrameSend | takenSend => exact whenRunning_keeps h (hP.sendAtPhase h _ _ _) ht
  | headerSent | dataFrameSent | takenSent => exact whenRunning_keeps h (hP.sentAtPhase h _ fun _ _ => ⟨_, rfl⟩) ht
  | replyWindowExpiry => exact whenRunning_keeps h (hP.windowExpiry h) ht
  | nodeAnswerReceived | beaconReceived | ignoredFrame => exact whenRunning_keeps h (hP.frameHeard h _ _) ht
  | dataLengthRead => exact whenRunning_keeps h (hP.lengthRead h _ _) ht
  | inboundDataFrameEnd => exact whenRunning_keeps h (hP.hearAll (hP.dataEnds (hP.closeWindow h) _ _) _) ht
  | transactionEnd => exact whenRunning_keeps h (hP.transactionEnd h) ht
  | stuckLine => exact whenRunning_keeps h (hP.stuckLine h) ht
  | _ => cases hc

end Sys2Proof.Machine
end

section
/-! SUPPORT. What every command does to the report queue: acts of the queue, each of which keeps its law. O8. -/

set_option Elab.async false

namespace Sys2Proof.Machine

open Sys2Proof.Safety

/-! ## The acts of the report queue -/

/-- What can happen to the report queue in one act. -/
inductive ReportQueue.Act : ReportQueue → ReportQueue → Prop
  /-- An ordinary report is offered (R173). -/
  | offer {r : Report} (hr : r.isLost = false) (q : ReportQueue) : Act q (q.offer r)
  /-- CYCLE_OVERRUN is queued or updated (R175). -/
  | overrun (cycle : Cycle) (soFar more : Nat) (q : ReportQueue) : Act q (q.offerOverrun cycle soFar more)
  /-- A sent entry is acknowledged (R180). -/
  | acknowledge {n : Byte} {k : Nat} {q : ReportQueue} (hk : q.placeOf n = some k) : Act q (q.acknowledge k)
  /-- The mark is set, or moves as its entry is sent again (R179, R181). -/
  | mark (m : Option Byte) (q : ReportQueue) : Act q { q with resendMark := m }
  /-- The oldest unsent entry is sent (R178, R179). -/
  | sendFirst {f : List Byte} {q q' : ReportQueue} (hsend : q.sendFirst = some (f, q')) : Act q q'
  /-- A session opens (R184). -/
  | forget (q : ReportQueue) : Act q q.forget
  /-- A reset (R185). -/
  | reset (cause : HelloCause) (q : ReportQueue) : Act q (ReportQueue.reset cause)

theorem ReportQueue.Lawful.act {q q' : ReportQueue} (h : q.Lawful) (ha : q.Act q') : q'.Lawful := by
  cases ha with
  | offer hr => exact h.offer hr
  | overrun cycle soFar more => exact h.offerOverrun cycle soFar more
  | acknowledge hk => exact h.acknowledge hk
  | mark m => exact h.of_same
  | sendFirst hsend => exact h.sendFirst hsend
  | forget => exact h.forget
  | reset cause => exact ReportQueue.reset_lawful cause

/-- From one state to the other, no more has happened to the report queue than acts of its own. -/
def ReportActs (o s : State) : Prop := Relation.ReflTransGen ReportQueue.Act o.reports s.reports

theorem ReportActs.refl (s : State) : ReportActs s s := Relation.ReflTransGen.refl

theorem ReportQueue.Lawful.acts {o s : State} (h : o.reports.Lawful) (ha : ReportActs o s) : s.reports.Lawful := by
  unfold ReportActs at ha
  generalize s.reports = q at ha
  induction ha with
  | refl => exact h
  | tail _ hact ih => exact ih.act hact

section
variable {o s : State} (h : ReportActs o s)
include h

/-- The frame lemmas of the part: most operations leave the report queue as it is. -/
theorem ReportActs.of_reports {t : State} (hr : t.reports = s.reports := by simp) : ReportActs o t := by
  unfold ReportActs
  rw [hr]
  exact h

theorem ReportActs.act {t : State} (ha : s.reports.Act t.reports) : ReportActs o t := Relation.ReflTransGen.tail h ha

theorem ReportActs.offer (r : Report) (hr : r.isLost = false := by rfl) : ReportActs o (s.offer r) := h.act (.offer hr _)

/-! ## Streams start and end -/

theorem ReportActs.offerRefill (i : Sid) (r : StreamRecord) : ReportActs o (s.offerRefill i r) := by
  unfold State.offerRefill
  split
  · exact h.offer _
  · exact h

theorem ReportActs.trigger (i : Sid) : ReportActs o (s.trigger i) := by
  unfold State.trigger
  split
  · exact h
  next r _ =>
    have hset : ReportActs o (s.setStream i (some { r with state := .running, trigger := none })) := h.of_reports
    exact (hset.offer _).offerRefill i r

theorem ReportActs.triggerAll (test : StreamRecord → Bool) : ReportActs o (s.triggerAll test) := by
  refine List.foldlRecOn allSids _ h fun t ht i _ => ?_
  split
  · exact ht.trigger i
  · exact ht

theorem ReportActs.passCycleStarts (a b : Cycle) : ReportActs o (s.passCycleStarts a b) := h.triggerAll _

theorem ReportActs.halt (i : Sid) (r : StreamRecord) (c : Condition) : ReportActs o (s.halt i r c) := by
  have hset : ReportActs o (s.setStream i (some { r with state := .halted, condition := some c })) := h.of_reports
  exact hset.offer _

theorem ReportActs.resolveStop (i : Sid) : ReportActs o (s.resolveStop i) := by
  have answered (t : State) (ht : ReportActs o t) (tags : List Byte) (body : Body) :
      ReportActs o (tags.foldl (fun s tag => s.answer tag body) t) :=
    List.foldlRecOn tags _ ht fun _ ht _ _ => ht.of_reports
  unfold State.resolveStop
  split
  · exact h
  · split
    · dsimp only
      split
      case h_1 | h_2 => exact answered _ h.of_reports _ _
      all_goals exact answered _ (h.halt _ _ _) _ _
    · exact h

/-! ## Outcomes (R92) -/

theorem ReportActs.applyToMemory (tx : Transaction) (out : Outcome) : ReportActs o (s.applyToMemory tx out) := by
  unfold State.applyToMemory
  split
  · exact h.of_reports
  · unfold State.segmentStored
    split
    · exact h.of_reports
    · split
      · exact h
      next rv _ =>
        dsimp only
        split
        · exact ReportActs.offer h.of_reports _
        · exact h.of_reports
  · exact h
  · exact h.of_reports

theorem ReportActs.finish (i : Sid) (r : StreamRecord) (c : Condition) : ReportActs o (s.finish i r c) :=
  ReportActs.offer h.of_reports _

theorem ReportActs.goOn (i : Sid) (r : StreamRecord) (marked : Bool) : ReportActs o (s.goOn i r marked) := by
  unfold State.goOn
  split
  · exact (ReportActs.offer (s := s.setStream i (some { r with state := .paused })) h.of_reports _).offerRefill i r
  · exact ReportActs.offerRefill (s := s.setStream i (some r)) h.of_reports i r

theorem ReportActs.applyAccepted (tx : Transaction) (r : StreamRecord) : ReportActs o (s.applyAccepted tx r) := by
  have concluded {t : State} (ht : ReportActs o t) (r : StreamRecord) (marked : Bool) (e : EndCheck) :
      ReportActs o (t.conclude tx.stream r marked e) := by
    cases e with
    | closed | complete | short => exact ht.finish _ _ _
    | closeEmpty | stays => exact ht.goOn _ _ _
  rw [State.applyAccepted_eq]
  split
  · exact concluded (h.offer _) _ _ _
  · exact concluded h _ _ _

theorem ReportActs.applyFailure (i : Sid) (k : FailureKind) (r : StreamRecord) : ReportActs o (s.applyFailure i k r) := by
  simp only [State.applyFailure]
  split
  · exact h.halt _ _ _
  · exact h.of_reports

theorem ReportActs.applyToStream (tx : Transaction) (out : Outcome) : ReportActs o (s.applyToStream tx out) := by
  unfold State.applyToStream
  split
  · exact h
  next r _ =>
    cases out with
    | accepted => exact h.applyAccepted tx r
    | reject | overrun => exact h.halt _ r _
    | silent | check | form => exact h.applyFailure _ _ r
    | duplicate | wait | yielded => exact h.of_reports

theorem ReportActs.applyOutcome (tx : Transaction) (out : Outcome) : ReportActs o (s.applyOutcome tx out) := by
  have hfree : ReportActs o (s.setEngine { s.engine with transaction := none }) := h.of_reports
  exact ReportActs.resolveStop (ReportActs.of_reports ((hfree.applyToMemory tx out).applyToStream tx out)) _

/-! ## The cycle plan -/

theorem ReportActs.noteLate (n : Nat) : ReportActs o (s.noteLate n) := by
  unfold State.noteLate
  split
  · exact h
  · exact h.act (.overrun _ _ _ _)

theorem ReportActs.openRecord : ReportActs o s.openRecord := h.of_reports

theorem ReportActs.planBoundary : ReportActs o s.planBoundary := by
  unfold State.planBoundary State.closeRecord
  split
  · split
    · exact h.openRecord
    · exact (h.noteLate _).openRecord
  · exact h

theorem ReportActs.grantWithRoom (i : Sid) (r : StreamRecord) (n : Nat) : ReportActs o (s.grantWithRoom i r n).1 := by
  unfold State.grantWithRoom
  split
  · exact h.of_reports
  · split
    · exact h.of_reports
    · exact h.offer _

theorem ReportActs.considerDue (i : Sid) : ReportActs o (s.considerDue i).1 := by
  cases hs : s.serviceable i with
  | none =>
    rw [State.considerDue, hs]
    exact h
  | some r =>
    by_cases hfit : s.fits r.defn.cost = true
    · rw [State.considerDue_fits hs hfit]
      split
      · exact h
      · exact h.offer _
      · exact h.grantWithRoom i r _
    · simp only [State.considerDue, hs]
      rw [if_pos (by simpa using hfit)]
      exact h.noteLate 1

theorem ReportActs.considerDemand (i : Sid) : ReportActs o (s.considerDemand i).1 := by
  unfold State.considerDemand
  split
  · exact h
  · split
    · exact h
    · split
      · exact h
      · exact h
      next n _ =>
        split
        · exact h
        next r _ _ _ _ _ =>
          have hg := h.grantWithRoom i r n
          rw [State.grantWithRoom_eq] at hg
          exact hg

theorem ReportActs.searchDemand (k : Nat) (i : Sid) : ReportActs o (State.searchDemand k i s) := by
  induction k generalizing i s with
  | zero => exact h.of_reports (t := s.enterStage .closed)
  | succ k ih =>
    have hc := h.considerDemand i
    rw [State.searchDemand_succ]
    split
    next ht => rw [ht] at hc; exact hc.of_reports
    next ht => rw [ht] at hc; exact hc.of_reports
    next ht => rw [ht] at hc; exact ih hc.of_reports _

theorem ReportActs.serveDue (l : List Sid) : ReportActs o (State.serveDue l s) := by
  induction l generalizing s with
  | nil =>
    have hd : ReportActs o ((s.enterStage .demand).mapRecord fun c => { c with round := 0 }) := h.of_reports
    exact hd.searchDemand _ _
  | cons i l ih =>
    have hc := h.considerDue i
    unfold State.serveDue
    split
    next ht => rw [ht] at hc; exact hc
    next ht => rw [ht] at hc; exact ih hc.of_reports
    next ht => rw [ht] at hc; exact ih hc.of_reports

theorem ReportActs.enterCyclic : ReportActs o s.enterCyclic := by
  unfold State.enterCyclic
  split
  · exact h
  · exact ReportActs.serveDue h.of_reports _

theorem ReportActs.planContinues : ReportActs o s.planContinues := by
  unfold State.planContinues
  split
  · exact ReportActs.serveDue h.of_reports _
  · exact h.searchDemand _ _
  · exact h

/-! ## Changes of mastership (R106), boundaries, beacons -/

theorem ReportActs.leaveLeading (new : MastState) : ReportActs o (s.leaveLeading new) := by
  have hleft : ReportActs o s.releaseLine := h.of_reports
  unfold State.leaveLeading State.settleTransaction
  split
  · split
    · exact hleft
    · split
      · exact hleft.applyOutcome _ _
      · split
        · exact hleft.applyOutcome _ _
        · exact hleft.of_reports
  · exact h

theorem ReportActs.loseLink (i : Sid) : ReportActs o (s.loseLink i) := by
  unfold State.loseLink
  split
  · exact h
  · split
    case h_1 | h_2 | h_3 => exact (h.halt _ _ _).resolveStop i
    all_goals exact h

theorem ReportActs.streamsFollow (new : MastState) : ReportActs o (s.streamsFollow new) := by
  unfold State.streamsFollow
  split
  case h_1 | h_2 => exact List.foldlRecOn allSids _ h fun _ ht i _ => ht.loseLink i
  case h_3 => exact h.of_reports
  all_goals exact h

theorem ReportActs.planFollows (new : MastState) : ReportActs o (s.planFollows new) := h.of_reports

theorem ReportActs.settleListen (body : Body) : ReportActs o (s.settleListen body) := h.of_reports

theorem ReportActs.settleHandovers (body : Body) : ReportActs o (s.settleHandovers body) := h.of_reports

theorem ReportActs.setMaster (m : Mastership) : ReportActs o (s.setMaster m) := h.of_reports

theorem ReportActs.changeMastership (new : MastState) (cause : Cause) : ReportActs o (s.changeMastership new cause) := by
  have hleft : ReportActs o ((s.leaveLeading new).setMaster { s.master with state := new, lastCause := some cause }) :=
    (h.leaveLeading new).of_reports
  rw [State.changeMastership_eq]
  exact ((hleft.offer (.mastership new cause s.master.lastPartner)).streamsFollow new).planFollows new

theorem ReportActs.masterBoundary : ReportActs o s.masterBoundary := by
  unfold State.masterBoundary
  split
  · split
    · exact h.of_reports
    · split
      · exact ((h.setMaster _).changeMastership _ _).settleListen _
      · exact h.of_reports
  · split
    · exact (h.setMaster _).changeMastership _ _
    · exact h.of_reports
  all_goals exact h.of_reports

theorem ReportActs.cycleBoundary : ReportActs o s.cycleBoundary := by
  simp only [State.cycleBoundary]
  exact ((ReportActs.planBoundary h.of_reports).passCycleStarts _ _).masterBoundary

theorem ReportActs.realign (c : Cycle) : ReportActs o (s.realign c) := by
  simp only [State.realign]
  split
  · exact ReportActs.passCycleStarts h.of_reports _ _
  · exact h.of_reports

theorem ReportActs.follow (u : UnitId) (c : Cycle) (cause : Cause) : ReportActs o (s.follow u c cause) :=
  ((h.setMaster _).changeMastership .following cause).realign c

theorem ReportActs.faulted (cause : Cause) : ReportActs o (s.faulted cause) :=
  (((h.setMaster _).changeMastership .faulted cause).settleListen _).settleHandovers _

theorem ReportActs.handoverEffect : ReportActs o s.handoverEffect :=
  ((h.setMaster _).changeMastership .following .handover).settleHandovers _

theorem ReportActs.clash (u : UnitId) (c : Cycle) : ReportActs o (s.clash u c) := by
  have heard : ReportActs o ((s.setMaster { s.master with lastPartner := some u }).offer (.clash c)) :=
    (h.setMaster _).offer _
  simp only [State.clash]
  split
  · split
    · exact heard.of_reports
    · exact heard
  · exact (h.follow _ _ _).settleHandovers _

theorem ReportActs.beaconHeard (u : UnitId) (c : Cycle) : ReportActs o (s.beaconHeard u c) := by
  unfold State.beaconHeard
  split
  · split
    case h_1 | h_2 => exact h
    all_goals exact h.faulted _
  · split
    case h_3 => exact (h.follow _ _ _).settleListen _
    case h_4 => exact h.clash _ _
    case h_5 => exact (h.setMaster _).realign c
    all_goals exact h.of_reports

theorem ReportActs.openCycle : ReportActs o s.openCycle := by
  unfold State.openCycle
  split
  · exact h
  · split
    · exact h.handoverEffect
    · extract_lets at0 t t'
      have ht : ReportActs o t := h.of_reports rfl
      have ht' : ReportActs o t' := by
        simp only [t']
        split
        · exact ht.noteLate 0
        · exact ht
      exact ht'.of_reports rfl

/-! ## Captures -/

theorem ReportActs.edge (k : Line) (rise : Bool) : ReportActs o (s.edge k rise) := by
  have recorded : ReportActs o (s.recordEdge k rise) := by
    unfold State.recordEdge
    dsimp only
    split
    · split
      · exact ReportActs.offer h.of_reports _
      · exact h.of_reports
    · exact h.of_reports
  unfold State.edge
  split
  · exact recorded.triggerAll _
  · exact h

theorem ReportActs.sample (changed level : BitVec 4) : ReportActs o (s.sample changed level) := by
  refine List.foldlRecOn allLines _ (ReportActs.of_reports h) fun t ht k _ => ?_
  split
  · exact ht.edge k _
  · exact ht

end

/-- Acts of the report queue are no matter of the link engine. -/
theorem lineFree_reportActs (o : State) : LineFree (ReportActs o) where
  engine _ h := h.of_reports
  passTime n h := State.passTime_preserves (fun _ _ h => h.of_reports) (fun _ h => h.cycleBoundary)
    (fun _ h => h.faulted _) n _ h
  sample changed level h := h.sample changed level
  openCycle h := h.openCycle
  enterCyclic h := h.enterCyclic
  planContinues h := h.planContinues
  applyOutcome tx out h := h.applyOutcome tx out
  beaconHeard u c h := h.beaconHeard u c

end Sys2Proof.Machine
end

section
/-! SUPPORT. The requests, the command port and every command, in acts of the report queue: O8. -/

set_option Elab.async false

namespace Sys2Proof.Machine

open Sys2Proof.Safety

/-- The queue's next frame: the marked entry again, or the oldest unsent one (R179). -/
theorem ReportQueue.act_of_nextFrame {q q' : ReportQueue} {f : List Byte} (hframe : q.nextFrame = some (f, q')) :
    q.Act q' := by
  unfold ReportQueue.nextFrame at hframe
  split at hframe
  · exact .sendFirst hframe
  · split at hframe
    · obtain ⟨e, -, heq⟩ := Option.map_eq_some_iff.mp hframe
      cases heq
      exact .mark _ _
    · exact .sendFirst hframe

section
variable {o s : State} (h : ReportActs o s)
include h

/-! ## The requests -/

theorem ReportActs.ackReports (n : Byte) : ReportActs o (ackReportsRequest n s).1 := by
  unfold ackReportsRequest
  split
  · exact h
  next hk => exact h.act (.acknowledge hk)

theorem ReportActs.resendReports (n : Byte) : ReportActs o (resendReportsRequest n s).1 := by
  unfold resendReportsRequest
  split
  · exact h
  · exact h.act (.mark _ _)

theorem ReportActs.withStream (sid : Byte) {k : Sid → StreamRecord → State → Executed}
    (hk : ∀ i r, ReportActs o (k i r s).1) : ReportActs o (withStream sid k s).1 := by
  unfold Machine.withStream
  split
  · exact h
  · split
    · exact h
    · exact hk _ _

theorem ReportActs.startRequest (sid kind : Byte) (value : BitVec 16) (total : BitVec 32) :
    ReportActs o (startRequest sid kind value total s).1 := by
  have started (i : Sid) (r : StreamRecord) (t : StartTrigger) (total : Nat) : ReportActs o (s.startStream i r t total) := by
    have hrun : ReportActs o
        ((((s.admitLoad r.defn).setStream i (some (r.started t total))).clearHeld i).renew i) := h.of_reports
    unfold State.startStream
    cases t with
    | now => exact hrun.offerRefill i _
    | arm _ => exact hrun
  refine h.withStream sid fun i r => ?_
  split
  case h_1 | h_2 =>
    split
    · exact h
    · split
      · exact h
      · split
        · exact h
        · split
          · exact h
          · exact started _ _ _ _
  all_goals exact h

theorem ReportActs.stopRequest (tag sid : Byte) : ReportActs o (stopRequest tag sid s).1 := by
  refine h.withStream sid fun i r => ?_
  split
  case h_2 => exact h.of_reports (t := (s.setStream i (some { r with state := .idle, trigger := none })).releaseLoad i)
  case h_3 | h_4 =>
    split
    · exact h
    · exact h.halt i r .stopped
  all_goals exact h

theorem ReportActs.resumeRequest (sid : Byte) : ReportActs o (resumeRequest sid s).1 := by
  refine h.withStream sid fun i r => ?_
  split
  case h_1 => exact ReportActs.offerRefill (s := s.setStream i _) h i _
  all_goals exact h

theorem ReportActs.linkUp (tag : Byte) : ReportActs o (linkUp tag s).1 := by
  unfold Machine.linkUp
  split
  · exact (h.setMaster _).changeMastership _ _
  · exact h

theorem ReportActs.linkDown : ReportActs o (linkDown s).1 := by
  unfold Machine.linkDown
  split
  · exact h
  · dsimp only [State.reply]
    exact (((h.setMaster _).changeMastership _ _).settleListen _).settleHandovers _

/-- Every request's block. -/
theorem ReportActs.bodyEffect (k : ReqKind) (tag : Byte) (b : List Byte) : ReportActs o (bodyEffect k tag b s).1 := by
  cases k with
  | ackReports => exact h.ackReports _
  | resendReports => exact h.resendReports _
  | linkUp => exact h.linkUp tag
  | linkDown => exact h.linkDown
  | start => exact h.startRequest _ _ _ _
  | stop => exact h.stopRequest tag _
  | resume => exact h.resumeRequest _
  | _ =>
    simp only [Machine.bodyEffect]
    exact h.of_reports

theorem ReportActs.request (k : ReqKind) (retry : Bool) (tag : Byte) (body : List Byte) :
    ReportActs o (request k retry tag (requestEffect k tag body) s) := by
  have executed : ReportActs o (requestEffect k tag body s).1 := by
    unfold requestEffect
    split
    · exact h
    · exact h.bodyEffect _ _ _
  unfold Machine.request
  split
  · exact h
  · split
    · exact h.of_reports
    · split
      · exact h
      · exact h.of_reports
      · exact h.of_reports
      · generalize requestEffect k tag body s = x at executed
        obtain ⟨t, reply⟩ := x
        cases reply <;> exact executed

/-- An executed OPEN forgets the numbers (R184). -/
theorem ReportActs.openRequest (retry : Bool) (tag : Byte) (body : List Byte) :
    ReportActs o (openRequest retry tag body s) := by
  unfold Machine.openRequest
  split
  · exact h
  · split
    · exact h
    · split
      · exact h.of_reports
      · split
        · exact h.act (.forget _)
        · exact h.of_reports

/-! ## The receiver -/

theorem ReportActs.disposeFrame (flags kind tag : Byte) (body : List Byte) :
    ReportActs o (disposeFrame flags kind tag body s) := by
  obtain ⟨retry, heq⟩ | ⟨k, retry, -, heq⟩ | heq := disposeFrame_cases flags kind tag body s <;> rw [heq]
  · exact h.openRequest _ _ _
  · exact h.request _ _ _ _
  · exact h.of_reports

theorem ReportActs.setPort (p : Port) : ReportActs o (s.setPort p) := h.of_reports

theorem ReportActs.abandonCandidate (k : PortErrorKind) : ReportActs o (s.abandonCandidate k) := (h.setPort _).offer _

theorem ReportActs.judge : ReportActs o s.judge := by
  unfold State.judge
  split
  · split
    · exact h.abandonCandidate _
    · split
      · exact h
      · split
        · exact (h.setPort _).disposeFrame _ _ _ _
        · exact h.abandonCandidate _
  · exact h

theorem ReportActs.examine (b : RxByte) : ReportActs o (s.examine b) := by
  unfold State.examine
  split
  · exact h
  · exact (h.setPort _).judge

theorem ReportActs.examinePending (k : Nat) : ReportActs o (State.examinePending k s) := by
  induction k generalizing s with
  | zero => exact h
  | succ k ih =>
    unfold State.examinePending
    split
    · exact ih ((h.setPort _).examine _)
    · split
      · exact ih (h.abandonCandidate _)
      · exact h

theorem ReportActs.passTime (n : Nat) : ReportActs o (s.passTime n) := (lineFree_reportActs o).passTime n h

theorem ReportActs.byteArrives (after : Nat) (b : Byte) : ReportActs o (s.byteArrives after b) :=
  ReportActs.examinePending (ReportActs.examine ((h.passTime after).examinePending _) _) _

theorem ReportActs.candidateGap : ReportActs o s.candidateGap := by
  unfold State.candidateGap
  split
  · exact h
  · exact ReportActs.examinePending (ReportActs.abandonCandidate (h.passTime _) _) _

/-! ## The transmitter and the resets -/

theorem ReportActs.chooseFrame : ReportActs o s.chooseFrame := by
  unfold State.chooseFrame
  split
  · exact h.setPort _
  · split
    next hframe =>
      split at hframe
      · exact h.act (ReportQueue.act_of_nextFrame hframe)
      · cases hframe
    · exact h.setPort _

theorem ReportActs.afterReset (baud : Baud) (unit : UnitId) (epoch : Byte) (cause : HelloCause) (clock : Nat)
    (pending : List Instr) : ReportActs o (State.afterReset baud unit epoch cause clock pending) := h.act (.reset _ _)

theorem ReportActs.transmitEnd : ReportActs o s.transmitEnd := by
  unfold State.transmitEnd
  split
  · exact h.chooseFrame
  · split
    · exact h.afterReset _ _ _ _ _ _
    · exact ReportActs.chooseFrame (h.passTime _)

theorem ReportActs.restartEnd : ReportActs o s.restartEnd := by
  unfold State.restartEnd
  split
  · exact h
  · split
    · exact h.afterReset _ _ _ _ _ _
    · exact h

/-! ## Every command, every step -/

/-- A request is its frame, a row of the line leaves the queue to the blocks behind it, and the rest is the port's. -/
theorem ReportActs.exec {t : State} {c : Instr} (ht : exec c s = .next t) : ReportActs o t := by
  cases hq : requestOf c with
  | some q =>
    by_cases hk : q.kind = .openSession
    · rw [requestOf_open hq hk] at ht
      exact whenRunning_keeps h (h.openRequest _ _ _) ht
    · rw [exec_request hq hk] at ht
      exact whenRunning_keeps h (h.request _ _ _ _) ht
  | none =>
    by_cases hline : rowOfLine c = true
    · exact (lineFree_reportActs o).exec h hline ht
    · cases c with
      | resetNRelease => cases ht; exact h.afterReset _ _ _ _ _ _
      | hardReset => exact whenRunning_keeps (f := State.heldInReset) h h ht
      | commandByteReceived after b => exact whenRunning_keeps h (h.byteArrives after b) ht
      | candidateGap => exact whenRunning_keeps h h.candidateGap ht
      | transmitFrameEnd => exact whenRunning_keeps h h.transmitEnd ht
      | restartReset => exact whenRunning_keeps h h.restartEnd ht
      | _ => simp [requestOf, rowOfLine] at hq hline

end

/-- Every step is made of acts of the report queue, as far as the queue is concerned. -/
theorem reportActs_of_step {s t : State} (ht : step s = .next t) : ReportActs s t := by
  have h := ReportActs.refl s
  unfold Machine.step at ht
  split at ht
  next _ rest _ => exact ReportActs.exec (s := s.setPending rest) h ht
  next =>
    unfold stepIdle at ht
    split at ht
    · exact h.exec ht
    · cases ht
      unfold State.tick
      split
      · exact h
      · exact h.passTime 1

/-- Settles O8: a step is made of acts of the queue, and every act keeps its law. -/
theorem reportLawKept : Obligations.ReportLawKept :=
  fun _ _ h ht => reportLaw_iff.mpr ((reportLaw_iff.mp h).acts (reportActs_of_step ht))

end Sys2Proof.Machine
end

section
/-! SUPPORT. The queue of commands: O1, O3. -/

namespace Sys2Proof.Machine

/-- Settles O1, by the front of the queue. -/
theorem stepRunsFront : Obligations.StepRunsFront := by
  intro c rest s hfront
  rw [step, hfront]

/-! ## The requests leave the queue as it is -/

@[simp] theorem State.enterWindow_pending (kind tag : Byte) (e : Executed) :
    (State.enterWindow kind tag e).pending = e.1.pending := by
  obtain ⟨t, _ | body⟩ := e <;> rfl

theorem request_pending (k : ReqKind) (retry : Bool) (tag : Byte) {effect : State → Executed} (s : State)
    (heffect : (effect s).1.pending = s.pending) : (request k retry tag effect s).pending = s.pending := by
  unfold request
  split
  · rfl
  · split
    · exact State.portAnswer_pending _ _ _ s
    · split
      · rfl
      · exact State.portAnswer_pending _ _ _ s
      · exact State.sendAgain_pending _ s
      · exact (State.enterWindow_pending _ _ _).trans heffect

@[simp] theorem openRequest_pending (retry : Bool) (tag : Byte) (body : List Byte) (s : State) :
    (openRequest retry tag body s).pending = s.pending := by
  unfold openRequest
  split
  · rfl
  · split
    · rfl
    · split
      · exact State.sendAgain_pending _ s
      · split
        · exact State.executeOpen_pending tag s
        · exact State.portAnswer_pending _ _ _ s

/-- Each block executes its requests without the queue. -/
@[simp] theorem bodyEffect_pending (k : ReqKind) (tag : Byte) (b : List Byte) (s : State) :
    (bodyEffect k tag b s).1.pending = s.pending := by
  cases k <;> simp [bodyEffect]

@[simp] theorem requestEffect_pending (k : ReqKind) (tag : Byte) (body : List Byte) (s : State) :
    (requestEffect k tag body s).1.pending = s.pending := by
  unfold requestEffect
  split
  · rfl
  · exact bodyEffect_pending k tag body s

/-! ## The receiver leaves the queue as it is -/

@[simp] theorem disposeFrame_pending (flags kind tag : Byte) (body : List Byte) (s : State) :
    (disposeFrame flags kind tag body s).pending = s.pending := by
  obtain ⟨retry, heq⟩ | ⟨k, retry, -, heq⟩ | heq := disposeFrame_cases flags kind tag body s <;> rw [heq]
  · exact openRequest_pending retry tag body s
  · exact request_pending k retry tag s (requestEffect_pending k tag body s)
  · exact State.improper_pending kind tag s

@[simp] theorem State.judge_pending (s : State) : s.judge.pending = s.pending := by
  unfold State.judge
  split
  · split
    · exact State.abandonCandidate_pending _ s
    · split
      · rfl
      · split
        · exact disposeFrame_pending _ _ _ _ _
        · exact State.abandonCandidate_pending _ s
  · rfl

@[simp] theorem State.examine_pending (b : RxByte) (s : State) : (s.examine b).pending = s.pending := by
  unfold State.examine
  split
  · rfl
  · exact State.judge_pending _

@[simp] theorem State.examinePending_pending (k : Nat) (s : State) : (State.examinePending k s).pending = s.pending := by
  induction k generalizing s with
  | zero => rfl
  | succ k ih =>
    unfold State.examinePending
    split
    · exact (ih _).trans (State.examine_pending _ _)
    · split
      · exact (ih _).trans (State.abandonCandidate_pending _ s)
      · rfl

@[simp] theorem State.settleReceiver_pending (s : State) : s.settleReceiver.pending = s.pending :=
  State.examinePending_pending _ s

@[simp] theorem State.byteArrives_pending (after : Nat) (b : Byte) (s : State) :
    (s.byteArrives after b).pending = s.pending := by
  simp [State.byteArrives]

@[simp] theorem State.candidateGap_pending (s : State) : s.candidateGap.pending = s.pending := by
  unfold State.candidateGap
  split
  · rfl
  · simp

/-! ## The transmitter and the resets leave the queue as it is -/

@[simp] theorem State.restartTaken_pending (s : State) : s.restartTaken.pending = s.pending := rfl
@[simp] theorem State.heldInReset_pending (s : State) : s.heldInReset.pending = s.pending := rfl
@[simp] theorem State.resetReleased_pending (baud1 baud0 unit : Bool) (s : State) :
    (s.resetReleased baud1 baud0 unit).pending = s.pending := rfl

@[simp] theorem State.transmitEnd_pending (s : State) : s.transmitEnd.pending = s.pending := by
  unfold State.transmitEnd
  split
  · exact State.chooseFrame_pending s
  · split <;> simp

@[simp] theorem State.restartEnd_pending (s : State) : s.restartEnd.pending = s.pending := by
  unfold State.restartEnd
  split
  · rfl
  · split <;> simp

/-! ## Every command -/

/-- A command answers a next state with the queue of the state before it. -/
def AnswersNext (r : Result) (s : State) : Prop := ∃ t, r = .next t ∧ t.pending = s.pending

/-- A command that has an effect only while the part runs answers with the effect, or with the state as it was. -/
theorem answersNext_whenRunning {f : State → State} {s : State} (hf : (f s).pending = s.pending) :
    AnswersNext (whenRunning f s) s := by
  refine ⟨_, rfl, ?_⟩
  split
  · rfl
  · exact hf

/-- LISTEN_END and TAKEOVER wait for the boundary where one of theirs comes. -/
theorem boundaryIf_pending (b : Bool) (s : State) : (if b then s.toBoundary else s).pending = s.pending := by
  cases b <;> simp

theorem answersNext_of_request {c : Instr} {q : RequestFrame} (hq : requestOf c = some q) (s : State) :
    AnswersNext (exec c s) s := by
  by_cases hk : q.kind = .openSession
  · rw [requestOf_open hq hk]
    exact answersNext_whenRunning (openRequest_pending _ _ _ s)
  · rw [exec_request hq hk]
    exact answersNext_whenRunning (request_pending _ _ _ s (requestEffect_pending _ _ _ s))

/-- The rows of the line: time, captures and marks, the cycle plan, the link. -/
theorem answersNext_of_rowOfLine {c : Instr} (hc : rowOfLine c = true) (s : State) : AnswersNext (exec c s) s := by
  cases c with
  | cycleBoundary => exact answersNext_whenRunning (State.toBoundary_pending s)
  | listenEnd | takeover => exact answersNext_whenRunning (boundaryIf_pending _ s)
  | markFires k => exact answersNext_whenRunning (State.runToMark_pending k s)
  | pulseEnd k => exact answersNext_whenRunning (State.runToPulseEnd_pending k s)
  | captureEdge n changed level => exact answersNext_whenRunning (State.sampleAfter_pending n changed level s)
  | beaconGrant => exact answersNext_whenRunning (State.beaconGrant_pending s)
  | cyclicPhaseStart => exact answersNext_whenRunning (State.cyclicPhaseStart_pending s)
  | headerSend => exact answersNext_whenRunning (State.sendHeader_pending s)
  | headerSent => exact answersNext_whenRunning (State.headerSent_pending s)
  | dataFrameSend => exact answersNext_whenRunning (State.sendData_pending s)
  | dataFrameSent => exact answersNext_whenRunning (State.dataSent_pending s)
  | replyWindowExpiry => exact answersNext_whenRunning (State.windowExpiry_pending s)
  | nodeAnswerReceived | beaconReceived | ignoredFrame => exact answersNext_whenRunning (State.frameHeard_pending _ _ s)
  | dataLengthRead => exact answersNext_whenRunning (State.lengthRead_pending _ _ s)
  | inboundDataFrameEnd => exact answersNext_whenRunning (State.dataFrameEnd_pending _ _ s)
  | takenSend => exact answersNext_whenRunning (State.sendTaken_pending s)
  | takenSent => exact answersNext_whenRunning (State.takenSent_pending s)
  | transactionEnd => exact answersNext_whenRunning (State.transactionEnd_pending s)
  | stuckLine => exact answersNext_whenRunning (State.stuckLine_pending s)
  | _ => cases hc

/-- Settles O3: a command is a request, a row of the line, or one of the port's own events and the resets. -/
theorem commandsAnswerNext : Obligations.CommandsAnswerNext := by
  intro c s
  cases hq : requestOf c with
  | some q => exact answersNext_of_request hq s
  | none =>
    by_cases hline : rowOfLine c = true
    · exact answersNext_of_rowOfLine hline s
    · cases c with
      | resetNRelease baud1 baud0 unit => exact ⟨_, rfl, State.resetReleased_pending baud1 baud0 unit s⟩
      | hardReset => exact answersNext_whenRunning (State.heldInReset_pending s)
      | commandByteReceived after b => exact answersNext_whenRunning (State.byteArrives_pending after b s)
      | candidateGap => exact answersNext_whenRunning (State.candidateGap_pending s)
      | transmitFrameEnd => exact answersNext_whenRunning (State.transmitEnd_pending s)
      | restartReset => exact answersNext_whenRunning (State.restartEnd_pending s)
      | _ => simp [requestOf, rowOfLine] at hq hline

end Sys2Proof.Machine
end


section
/-! SUPPORT. CONFIGURE_LINK, LINK_UP and HANDOVER by their checks, and the deferred replies: O26, O27. -/

set_option Elab.async false

namespace Sys2Proof.Machine

open Sys2Proof.Safety

/-! ## The checks of CONFIGURE_LINK (R107) -/

theorem LinkRate.ofCode_code (q : LinkRate) : LinkRate.ofCode q.code = some q := by
  cases q <;> rfl

theorem LinkRate.ofCode_eq_none {b : Byte} (h : b = 0 ∨ 3 < b.toNat) : LinkRate.ofCode b = none := by
  have hne (c : Byte) (hc : 1 ≤ c.toNat ∧ c.toNat ≤ 3) : b ≠ c := by
    rintro rfl
    rcases h with rfl | h
    · exact absurd hc.1 (by decide)
    · omega
  simp [LinkRate.ofCode, hne]

theorem LinkRate.exists_code {b : Byte} (h : ¬ (b = 0 ∨ 3 < b.toNat)) : ∃ q : LinkRate, b = q.code := by
  obtain ⟨hzero, hle⟩ := not_or.mp h
  have hcode : b = 1 ∨ b = 2 ∨ b = 3 := by bv_omega
  rcases hcode with rfl | rfl | rfl
  · exact ⟨.r2_5, rfl⟩
  · exact ⟨.r5, rfl⟩
  · exact ⟨.r10, rfl⟩

/-- Of the cycle lengths in range, those with fewer than 200 characters are too short for the rate. -/
theorem LinkRate.charCount_refused (q : LinkRate) {n : Nat} (h : ¬ (n < 250 ∨ 8000 < n)) :
    (n / q.charMicros < 200 ∨ 8000 < n / q.charMicros) ↔ (q.code = 1 ∧ n < 800) ∨ (q.code = 2 ∧ n < 400) := by
  cases q <;> simp [LinkRate.charMicros, LinkRate.code] <;> omega

/-- The first field that fails, in the words of the statement. -/
theorem configureError_of_refused {rate share timeout index : Byte} {cycleLength : BitVec 16}
    (h : if rate = 0 ∨ 3 < rate.toNat then index = 1
      else if cycleLength.toNat < 250 ∨ 8000 < cycleLength.toNat then index = 2
      else if share.toNat < 50 ∨ 90 < share.toNat then index = 3
      else if timeout.toNat < 2 ∨ 16 < timeout.toNat then index = 4
      else if (rate = 1 ∧ cycleLength.toNat < 800) ∨ (rate = 2 ∧ cycleLength.toNat < 400) then index = 2
      else False) : configureError rate cycleLength share timeout = some index.toNat := by
  by_cases hrate : rate = 0 ∨ 3 < rate.toNat
  · rw [if_pos hrate] at h
    rw [configureError, LinkRate.ofCode_eq_none hrate, h]
    rfl
  · obtain ⟨q, rfl⟩ := LinkRate.exists_code hrate
    rw [if_neg hrate] at h
    simp only [configureError, LinkRate.ofCode_code]
    by_cases hlen : cycleLength.toNat < 250 ∨ 8000 < cycleLength.toNat
    · rw [if_pos hlen] at h ⊢
      rw [h]
      rfl
    · rw [if_neg hlen] at h ⊢
      simp only [q.charCount_refused hlen]
      split_ifs at h ⊢ <;> rw [h] <;> rfl

theorem configureError_of_accepted {q : LinkRate} {cycleLength : BitVec 16} {share timeout : Byte}
    (hlen : 250 ≤ cycleLength.toNat) (hlen' : cycleLength.toNat ≤ 8000) (hshare : 50 ≤ share.toNat)
    (hshare' : share.toNat ≤ 90) (htimeout : 2 ≤ timeout.toNat) (htimeout' : timeout.toNat ≤ 16)
    (hchars : 200 ≤ cycleLength.toNat / q.charMicros) : configureError q.code cycleLength share timeout = none := by
  have hmost : cycleLength.toNat / q.charMicros ≤ 8000 := (Nat.div_le_self _ _).trans hlen'
  simp only [configureError, LinkRate.ofCode_code]
  rw [if_neg (not_outside hlen hlen'), if_neg (not_outside hshare hshare'), if_neg (not_outside htimeout htimeout'),
    if_neg (not_outside hchars hmost)]

/-! ## CONFIGURE_LINK (R107, R108) -/

/-- Some stream holds load. -/
theorem loadMap_any_iff {p : Plan} : p.loadMap.any (· != 0) = true ↔ ∃ r : Fin 256, p.loadMap[r] ≠ 0 := by
  simp [Vector.any_eq_true, Fin.exists_iff]

section
variable {rate share timeout : Byte} {cycleLength : BitVec 16} {s : State}

theorem configureLink_badState (h : s.master.state ≠ .offline ∨ ∃ r : Fin 256, s.plan.loadMap[r] ≠ 0) :
    configureLink rate cycleLength share timeout s = s.reply badState :=
  if_pos (h.imp_right loadMap_any_iff.mpr)

variable (hoff : s.master.state = .offline) (hload : ∀ r : Fin 256, s.plan.loadMap[r] = 0)
include hoff hload

theorem configureLink_allowed : ¬ (s.master.state ≠ .offline ∨ s.plan.loadMap.any (· != 0) = true) := by
  rw [loadMap_any_iff, not_or, not_exists]
  exact ⟨not_not.mpr hoff, fun r => not_not.mpr (hload r)⟩

theorem configureLink_badForm {k : Nat} (h : configureError rate cycleLength share timeout = some k) :
    configureLink rate cycleLength share timeout s = s.reply (badForm k) := by
  rw [configureLink, if_neg (configureLink_allowed hoff hload), h]

theorem configureLink_accepted {q : LinkRate} (h : configureError q.code cycleLength share timeout = none) :
    configureLink q.code cycleLength share timeout s =
      (s.configured q cycleLength.toNat share.toNat timeout.toNat).reply
        ([0x00] ++ u16 (cycleLength.toNat / q.charMicros) ++
          u16 (cycleLength.toNat / q.charMicros * share.toNat / 100 - 8)) := by
  rw [configureLink, if_neg (configureLink_allowed hoff hload), h, LinkRate.ofCode_code]
  rfl

end

/-- Settles O26: the state and the load map, then the fields in their order, then the record. -/
theorem configureLinkRecords : Obligations.ConfigureLinkRecords := by
  intro retry tag rate cycleLength share timeout s h
  refine ⟨fun hbad => ?_, fun hoff hload => ⟨fun index hindex => ?_, ?_⟩⟩
  · exact entered_replies h (configureLink_badState hbad) rfl
  · have hform : badForm index.toNat = [0x20, index] := by simp [badForm, u8, Status.code]
    rw [← hform]
    exact entered_replies h (configureLink_badForm hoff hload (configureError_of_refused hindex)) rfl
  · rintro q rfl hlen hlen' hshare hshare' htimeout htimeout' hchars
    exact entered_replies h (configureLink_accepted hoff hload
      (configureError_of_accepted hlen hlen' hshare hshare' htimeout htimeout' hchars)) rfl

/-! ## LINK_UP and HANDOVER (R109, R118) -/

theorem linkUp_offline {s : State} (hoff : s.master.state = .offline) (tag : Byte) : linkUp tag s =
    ({ s with
      master := { s.master with
        state := .listening, lastCause := some .linkUp, listenCount := none, listenRequest := some (some tag) }
      reports := s.reports.offer (.mastership .listening .linkUp s.master.lastPartner)
      plan := { s.plan with stage := .standby, record := none }
      engine := { s.engine with busy := 0 } }, none) := by
  rw [linkUp, if_pos hoff, State.changeMastership_eq, State.leaveLeading, if_neg (by simp [hoff])]
  rfl

theorem linkUp_badState {s : State} (h : s.master.state ≠ .offline) (tag : Byte) : linkUp tag s = s.reply badState :=
  if_neg h

theorem handoverRequest_leading {s : State} (h : s.master.state = .leading) (tag : Byte) : handoverRequest tag s =
    ({ s with master := { s.master with handovers := s.master.handovers ++ [some tag] } }, none) :=
  if_pos h

theorem handoverRequest_badState {s : State} (h : s.master.state ≠ .leading) (tag : Byte) :
    handoverRequest tag s = s.reply badState :=
  if_neg h

/-! ## The deferred replies, when they are made (R112, R119, R120, R162) -/

theorem State.settleListen_none {s : State} (h : s.master.listenRequest = none) (body : Body) : s.settleListen body = s := by
  rw [State.settleListen, h]

theorem State.settleListen_some {w : Waiter} {s : State} (h : s.master.listenRequest = some w) (body : Body) :
    s.settleListen body = { s with
      master := { s.master with listenRequest := none }
      port := w.answeredIn body s.port } := by
  rw [State.settleListen, h]
  exact State.answerWaiter_eq w body _

/-- Abandoned requests are passed over. -/
theorem Waiter.foldl_answeredIn (body : Body) (ws : List Waiter) (p : Port) :
    ws.foldl (Waiter.answeredIn body) p = (ws.filterMap id).foldl (fun p tag => p.makeReady tag body) p := by
  induction ws generalizing p with
  | nil => rfl
  | cons w ws ih => cases w <;> exact ih _

/-- Settles O27: each request by the state of the part, and each deferred reply by who waits for it. -/
theorem linkRequestsDeferred : Obligations.LinkRequestsDeferred := by
  refine ⟨fun retry tag s h => ⟨fun hoff => ?_, fun hne => ?_⟩, fun retry tag s h => ⟨fun hlead => ?_, fun hne => ?_⟩,
    fun body s => ⟨fun hnone => State.settleListen_none hnone body, fun w hw => ?_, ?_⟩⟩
  · exact whenRunning_waiting h (linkUp_offline hoff tag)
  · exact entered_replies h (linkUp_badState hne tag) rfl
  · exact whenRunning_waiting h (handoverRequest_leading hlead tag)
  · exact entered_replies h (handoverRequest_badState hne tag) rfl
  · rw [State.settleListen_some hw]
    cases w <;> rfl
  · rw [State.settleHandovers_eq, Waiter.foldl_answeredIn]

end Sys2Proof.Machine
end


section
/-! SUPPORT. LINK_DOWN: O28. -/

set_option Elab.async false

namespace Sys2Proof.Machine

open Sys2Proof.Safety

/-! ## An outcome moves segments of its own stream alone (R37, R41) -/

section
variable {tx : Transaction} {j : Sid} (h : tx.stream ≠ j) (s : State)
include h

theorem State.applyToMemory_chain_ne (o : Outcome) : (s.applyToMemory tx o).chain j = s.chain j := by
  have hreturn : s.returnReservation.chain j = s.chain j := by
    rw [State.chain, State.returnReservation_memory]
    rfl
  unfold State.applyToMemory
  split
  next => exact State.setChain_chain_ne h _ _ _
  next =>
    unfold State.segmentStored
    split
    · exact hreturn
    · split
      · rfl
      · dsimp only
        split <;> exact State.setChain_chain_ne h _ _ _
  next => rfl
  next => exact hreturn

theorem State.applyOutcome_chain_ne (o : Outcome) : (s.applyOutcome tx o).chain j = s.chain j := by
  rw [State.chain, State.applyOutcome_memory]
  exact State.applyToMemory_chain_ne h _ o

end

theorem State.leaveLeading_chain {i : Sid} {s : State} (h : s.inFlight i = false) (new : MastState) :
    (s.leaveLeading new).chain i = s.chain i := by
  unfold State.leaveLeading
  split
  next =>
    unfold State.settleTransaction
    split
    next => rfl
    next tx ht =>
      have hi : tx.stream ≠ i := State.stream_ne_of_notInFlight h ht
      split
      next => exact State.applyOutcome_chain_ne hi _ _
      next =>
        split
        · exact State.applyOutcome_chain_ne hi _ _
        · rw [State.dropTransaction_eq]
          rfl
  next => rfl

theorem State.changeMastership_chain {i : Sid} {s : State} (h : s.inFlight i = false) (new : MastState) (cause : Cause) :
    (s.changeMastership new cause).chain i = s.chain i := by
  rw [← State.leaveLeading_chain h new, State.chain, State.changeMastership_eq]
  simp [State.chain]

/-! ## Where no STOP waits, a change of mastership answers nobody -/

theorem State.applyToStream_stopPending (tx : Transaction) (o : Outcome) (s : State) :
    ((s.applyToStream tx o).stream tx.stream).map (·.stopPending) = (s.stream tx.stream).map (·.stopPending) := by
  cases hr : s.stream tx.stream with
  | none => simp [State.applyToStream, hr]
  | some r =>
    by_cases ho : o = .accepted
    · subst ho
      have gone (x : StreamRecord) (m : Bool) : (x.goneOn m).stopPending = x.stopPending := by
        unfold StreamRecord.goneOn
        split <;> rfl
      have hprogress : (r.afterAccepted tx).stopPending = r.stopPending := rfl
      simp only [State.applyToStream, hr]
      rw [State.applyAccepted_eq, Option.map_some]
      generalize StreamRecord.endCheck _ _ _ _ = e
      cases e with
      | closed | complete | short => rw [State.conclude, State.finish_stream]; rfl
      | closeEmpty | stays => rw [State.conclude, State.goOn_stream, Option.map_some, gone]; rfl
    · rw [State.applyToStream_stream hr ho, Option.map_some, Option.map_some]
      unfold StreamRecord.afterOutcome
      (repeat' split) <;> rfl

/-- On no stream does a STOP wait. -/
def NoStopWaits (s : State) : Prop := ∀ i : Sid, (s.stream i).all (fun r => !r.stopPending) = true

theorem NoStopWaits.applyOutcome_port {s : State} (h : NoStopWaits s) (tx : Transaction) (o : Outcome) :
    (s.applyOutcome tx o).port = s.port := by
  have hkept : ((s.outcomeApplied tx o).stream tx.stream).map (·.stopPending) = (s.stream tx.stream).map (·.stopPending) := by
    rw [State.outcomeApplied, State.stream, State.joinWaited_streams]
    refine (State.applyToStream_stopPending tx o _).trans ?_
    simp [State.stream]
  have hnone : ((s.outcomeApplied tx o).stream tx.stream).all (fun r => !r.stopPending) = true := by
    have hmap (x : Option StreamRecord) : x.all (fun r => !r.stopPending) = (x.map (·.stopPending)).all (!·) := by
      cases x <;> rfl
    rw [hmap, hkept, ← hmap]
    exact h tx.stream
  rw [State.applyOutcome_eq, resolveStop_none hnone, State.outcomeApplied_frame]

theorem NoStopWaits.applyOutcome {s : State} (h : NoStopWaits s) (tx : Transaction) (o : Outcome) :
    NoStopWaits (s.applyOutcome tx o) := by
  intro i
  by_cases hi : i = tx.stream
  · subst hi
    rw [State.applyOutcome_eq, State.resolveStop_stream]
    cases (s.outcomeApplied tx o).stream tx.stream with
    | none => rfl
    | some r => simp [r.stopResolved_stopPending]
  · rw [State.applyOutcome_stream_ne hi]
    exact h i

theorem NoStopWaits.of_streams {s t : State} (h : NoStopWaits s) (ht : t.streams = s.streams := by simp) : NoStopWaits t := by
  intro i
  rw [State.stream, ht]
  exact h i

theorem NoStopWaits.leaveLeading {s : State} (h : NoStopWaits s) (new : MastState) :
    NoStopWaits (s.leaveLeading new) ∧ (s.leaveLeading new).port = s.port := by
  have hrel : NoStopWaits s.releaseLine := h.of_streams
  unfold State.leaveLeading
  split
  next =>
    unfold State.settleTransaction
    split
    next => exact ⟨hrel, rfl⟩
    next tx _ =>
      split
      next o _ => exact ⟨hrel.applyOutcome tx o, hrel.applyOutcome_port tx o⟩
      next =>
        split
        · exact ⟨hrel.applyOutcome tx _, hrel.applyOutcome_port tx _⟩
        · rw [State.dropTransaction_eq]
          exact ⟨hrel, rfl⟩
  next => exact ⟨h, rfl⟩

theorem NoStopWaits.changeMastership_port {s : State} (h : NoStopWaits s) (new : MastState) (cause : Cause) :
    (s.changeMastership new cause).port = s.port := by
  obtain ⟨hleft, hport⟩ := h.leaveLeading new
  have hnone (p : Port) : allSids.foldl (fun p i => lossAnswers ((s.leaveLeading new).stream i) i p) p = p := by
    refine List.foldlRecOn (motive := (· = p)) allSids _ rfl fun q hq i _ => ?_
    subst hq
    have hi := hleft i
    cases hr : (s.leaveLeading new).stream i with
    | none => rfl
    | some r =>
      rw [hr] at hi
      exact if_neg fun hh => by simp [hh.2] at hi
  rw [State.changeMastership_eq, State.planFollows_port, (State.streamsFollow_spec new _).2.2, ← hport]
  split
  · exact hnone _
  · rfl

/-! ## LINK_DOWN (R121) -/

theorem Answers.restarting {o s : State} (h : Answers o s) : s.port.restarting = o.port.restarting := by
  rw [Port.Answers.rest h]

theorem linkDown_offline {s : State} (h : s.master.state = .offline) : linkDown s = s.reply (done []) :=
  if_pos h

/-- The part behind a LINK_DOWN that finds it out of OFFLINE, before the replies. -/
def State.leftLink (s : State) : State :=
  (s.setMaster { s.master with listenCount := none }).changeMastership .offline .linkDown

/-- The part behind a LINK_DOWN that finds it out of OFFLINE, before its own reply. -/
def State.linkDowned (s : State) : State := (s.leftLink.settleListen [0x02, 0x00]).settleHandovers [0x02, 0x00]

theorem linkDown_leaves {s : State} (h : s.master.state ≠ .offline) : linkDown s = s.linkDowned.reply [0x00] := by
  have hbody : cancelled .offline = [0x02, 0x00] := rfl
  rw [State.linkDowned, ← hbody, linkDown, if_neg h]
  rfl

theorem exec_linkDown_leaves {retry : Bool} {tag : Byte} {s : State} (he : Entered .linkDown retry tag s)
    (h : s.master.state ≠ .offline) :
    exec (.linkDown retry tag) s = .next (replied .linkDown tag [0x00] s.linkDowned) := by
  have hleft := linkDown_leaves h
  have hrestarting := (Answers.refl s).linkDown.restarting
  rw [hleft, he.2.1] at hrestarting
  dsimp only [State.reply] at hrestarting
  exact whenRunning_replied he hleft hrestarting

/-- Who waits on LINK_UP, and who on HANDOVER, is answered in this order. -/
theorem State.settleRequests_port (body : Body) (s : State) : ((s.settleListen body).settleHandovers body).port =
    (s.master.handovers.filterMap id).foldl (fun p tag => p.makeReady tag body)
      (match s.master.listenRequest with
      | some (some tag) => s.port.makeReady tag body
      | some none | none => s.port) := by
  rw [State.settleHandovers_eq, ← Waiter.foldl_answeredIn, State.settleListen_master]
  exact congrArg (s.master.handovers.foldl (Waiter.answeredIn body)) (State.settleListen_port body s)

theorem State.leftLink_master (s : State) : s.leftLink.master =
    { s.master with state := .offline, lastCause := some .linkDown, listenCount := none } := by
  rw [State.leftLink, State.changeMastership_master]
  rfl

theorem State.linkDowned_master (s : State) : s.linkDowned.master = { s.master with
    state := .offline, lastCause := some .linkDown, listenCount := none, listenRequest := none, handovers := []
    armed := false } := by
  rw [State.linkDowned, State.settleHandovers_master, State.settleListen_master, State.leftLink_master]

/-- Only a leading part has a transaction, or drives the line. -/
abbrev FreeApart (s : State) : Prop := s.master.state ≠ .leading → s.engine.transaction = none ∧ s.ldrv = false

theorem State.linkDowned_released {s : State} (h : FreeApart s) :
    s.linkDowned.engine.transaction = none ∧ s.linkDowned.ldrv = false ∧ s.linkDowned.plan.stage = .standby ∧
      s.linkDowned.plan.record = none := by
  have hleft := State.changeMastership_released (new := .offline) (by decide)
    (s := s.setMaster { s.master with listenCount := none }) h .linkDown
  simpa [State.linkDowned, State.leftLink, State.ldrv] using hleft

/-- A stream on which no STOP waits, and whose transaction is not in flight. -/
theorem State.linkDowned_stream {i : Sid} {r : StreamRecord} {s : State} (hr : s.stream i = some r)
    (hi : s.inFlight i = false) (hp : r.stopPending = false) : s.linkDowned.stream i = some
      (if r.state = .armed ∨ r.state = .running ∨ r.state = .paused then
        { r with state := .halted, condition := some .linkLost, trigger := none }
      else r) := by
  have hleft : ((s.setMaster { s.master with listenCount := none }).leaveLeading .offline).stream i = some r :=
    (State.leaveLeading_stream (s := s.setMaster { s.master with listenCount := none }) hi _).trans hr
  have hstream : s.linkDowned.stream i =
      (((s.setMaster { s.master with listenCount := none }).leaveLeading .offline).stream i).map (·.followed .offline) := by
    rw [State.linkDowned, State.leftLink, State.changeMastership_eq, State.stream, State.settleHandovers_streams,
      State.settleListen_streams, State.planFollows_streams]
    exact (State.streamsFollow_spec .offline _).1 i
  rw [hstream, hleft, Option.map_some, StreamRecord.followed_eq]
  simp only [true_or, true_and, reduceCtorEq, if_false, hp, Bool.false_eq_true]

theorem State.linkDowned_chain {i : Sid} {s : State} (hi : s.inFlight i = false) : s.linkDowned.chain i = s.chain i := by
  have hleft : s.leftLink.chain i = s.chain i :=
    State.changeMastership_chain (s := s.setMaster { s.master with listenCount := none }) hi _ _
  rw [← hleft]
  simp [State.linkDowned, State.chain]

theorem Linked.freeApart {s : State} (h : Linked s) : FreeApart s := by
  intro hne
  refine ⟨Option.eq_none_iff_forall_ne_some.mpr fun tx htx => hne ?_, Bool.eq_false_iff.mpr fun hd => hne (h.drive hd)⟩
  exact h.lead (by rw [htx]; rfl)

theorem Linked.noStopPending {s : State} (h : Linked s) {i : Sid} {r : StreamRecord} (hr : s.stream i = some r)
    (hi : s.inFlight i = false) : r.stopPending = false := by
  refine Bool.eq_false_iff.mpr fun hp => ?_
  have hwaits := h.stop i (by rw [hr]; exact hp)
  rw [hi] at hwaits
  cases hwaits

theorem State.linkDowned_frame (s : State) :
    s.linkDowned.time = s.time ∧ s.linkDowned.marks = s.marks ∧ s.linkDowned.capture = s.capture := by
  simp [State.linkDowned, State.leftLink]

/-- Settles O28: the block's answer, then the parts of the change of mastership and of the two settlements. -/
theorem linkDownLeaves : Obligations.LinkDownLeaves := by
  intro retry tag s he
  refine ⟨fun hoff => entered_replies he (linkDown_offline hoff) rfl, fun h v hv => ?_, fun hlaw h => ?_⟩
  · subst hv
    refine ⟨exec_linkDown_leaves he h, fun hstop => ?_⟩
    exact NoStopWaits.changeMastership_port (s := s.setMaster { s.master with listenCount := none }) hstop _ _
  · have hl : Linked s := linked_iff.mpr hlaw
    have hport := State.settleRequests_port [0x02, 0x00] s.leftLink
    have hmaster := State.linkDowned_master s
    have hreleased := State.linkDowned_released hl.freeApart
    have hchain (i : Sid) (hi : s.inFlight i = false) := State.linkDowned_chain hi
    have hframe := State.linkDowned_frame s
    have hstream (i : Sid) (r : StreamRecord) (hr : s.stream i = some r) (hi : s.inFlight i = false) :=
      State.linkDowned_stream hr hi (hl.noStopPending hr hi)
    have hexec := exec_linkDown_leaves he h
    rw [← State.linkDowned, State.leftLink_master] at hport
    generalize s.linkDowned = t at *
    obtain ⟨htx, hline, hstage, hrecord⟩ := hreleased
    refine ⟨_, hexec, fun p hp => ?_, hmaster, htx, hline, hstage, hrecord, hstream, hchain, hframe⟩
    have hleft : s.leftLink.port = p := hp.symm
    rw [State.setPort_port, hport, hleft]
    rfl

end Sys2Proof.Machine
end


section
/-! SUPPORT. The boundary at which the part comes to lead: O31. -/

set_option Elab.async false

namespace Sys2Proof.Machine

open Sys2Proof.Safety

/-! ## Entry to LEADING (R106) -/

/-- Entry to LEADING, whole: the report, the resync of each stream, the plan in OPENING, the busy count from 0. -/
theorem State.changeMastership_leads {s : State} (h : s.master.state ≠ .leading) (cause : Cause) :
    s.changeMastership .leading cause = { s with
      master := { s.master with state := .leading, lastCause := some cause }
      reports := s.reports.offer (.mastership .leading cause s.master.lastPartner)
      streams := s.streams.map fun r => r.map fun r => { r with resyncPending := true }
      plan := { s.plan with stage := .opening, record := some (newRecord s.time.cycle) }
      engine := { s.engine with busy := 0 } } := by
  rw [State.changeMastership_eq, State.leaveLeading, if_neg h]
  rfl

/-- The state that leads from the boundary `b` microseconds on, with the mastership record `m` behind the count. -/
def State.ledFrom (b : Nat) (m : Mastership) (cause : Cause) (s : State) : State :=
  ((s.elapse b).boundaryTaken.setMaster m).changeMastership .leading cause

section
variable {b : Nat} {m : Mastership} {cause : Cause} {s : State}

theorem State.ledFrom_master : (s.ledFrom b m cause).master = { m with state := .leading, lastCause := some cause } := by
  rw [State.ledFrom, State.changeMastership_master]
  rfl

theorem State.ledFrom_port (hm : m.state ≠ .leading) : (s.ledFrom b m cause).port = s.port := by
  have hport := State.boundaryTaken_port (s.elapse b)
  unfold State.ledFrom
  generalize (s.elapse b).boundaryTaken = u at hport ⊢
  rw [State.changeMastership_leads hm]
  exact hport

theorem State.boundaryTaken_time (s : State) : s.boundaryTaken.time = s.time.boundary := by
  simp [State.boundaryTaken, State.timeBoundary]

theorem State.boundaryTaken_marks (s : State) : s.boundaryTaken.marks =
    marksRun s.master.cycleLength s.time.point s.time.boundary.point s.marks := by
  simp [State.boundaryTaken, State.timeBoundary]

/-- Both streams that start and streams that do not go on with a resync pending. -/
theorem leadsAtBoundary_ledFrom (hb : s.time.offset + b = s.master.cycleLength) (hne : s.master.state ≠ .leading)
    (hm : m.state ≠ .leading) (hpartner : m.lastPartner = s.master.lastPartner) :
    LeadsAtBoundary b cause s (s.ledFrom b m cause) := by
  rintro hit rfl
  have hpoint : (s.elapse b).time.point = ⟨s.time.cycle, s.master.cycleLength⟩ := congrArg (Point.mk _) hb
  have htime := State.boundaryTaken_time (s.elapse b)
  have hmarks := State.boundaryTaken_marks (s.elapse b)
  have hmemory : (s.elapse b).boundaryTaken.memory = s.memory := by simp [State.boundaryTaken]
  have hcapture : (s.elapse b).boundaryTaken.capture = s.capture := by simp [State.boundaryTaken]
  have hengine := State.boundaryTaken_engine (s.elapse b)
  have hplan : (s.elapse b).boundaryTaken.plan = s.plan := State.boundaryTaken_plan_other (s := s.elapse b) hne
  have hreports : (s.elapse b).boundaryTaken.reports =
      startReports (StreamRecord.startsAt (s.time.cycle + 1)) s s.reports := by
    rw [State.boundaryTaken_reports, if_neg (by exact hne)]
    rfl
  have hstream (i : Sid) := State.boundaryTaken_stream i (s.elapse b)
  rw [hpoint] at hmarks
  unfold State.ledFrom
  generalize (s.elapse b).boundaryTaken = u at *
  rw [State.changeMastership_leads hm]
  refine ⟨htime, hmarks, hmemory, hcapture, ?_, ?_, ?_, fun i => ?_⟩
  · rw [← hengine]
    rfl
  · simp only [State.setMaster, hplan, htime]
    rfl
  · simp only [State.setMaster, hreports, hpartner]
    rfl
  · have hresync (x : Option StreamRecord) (f : StreamRecord → StreamRecord) :
        (x.map f).map (fun r => { r with resyncPending := true }) = x.map fun r => { f r with resyncPending := true } :=
      Option.map_map _ _ x
    calc _ = (u.stream i).map (fun r => { r with resyncPending := true }) := by
          simp [State.stream, State.setMaster]
      _ = _ := by
          rw [hstream, hresync]
          rfl

end

/-- What waits on LINK_UP is no part of the coming to lead. -/
theorem LeadsAtBoundary.settleListen {b : Nat} {cause : Cause} {s t : State} (h : LeadsAtBoundary b cause s t) (body : Body) :
    LeadsAtBoundary b cause s (t.settleListen body) := by
  intro hit hhit
  simpa [State.stream] using h hit hhit

/-! ## The counts that reach their limits (R110, R117) -/

/-- The waiting LINK_UP learns that the part leads. -/
theorem State.linkUpDone_leading (s : State) : (s.changeMastership .leading .linkUpLead).linkUpDone =
    [0x00, 0x02, 0x02, (s.master.lastPartner.map (·.code)).getD 0] := by
  rw [State.linkUpDone, State.changeMastership_master, partnerCode_eq]
  rfl

theorem State.masterBoundary_listenEnd {s : State} (hst : s.master.state = .listening)
    (hk : s.master.listenCount = some s.master.timeout) : s.masterBoundary =
      ((s.setMaster { s.master with listenCount := none }).changeMastership .leading .linkUpLead).settleListen
        [0x00, 0x02, 0x02, (s.master.lastPartner.map (·.code)).getD 0] := by
  have hdone := State.linkUpDone_leading (s.setMaster { s.master with listenCount := none })
  rw [State.setMaster_master] at hdone
  rw [← hdone, State.masterBoundary]
  simp only [hst, hk, Nat.lt_succ_self, if_true]

theorem State.masterBoundary_takeover {s : State} (hst : s.master.state = .following)
    (hk : s.master.silenceCount + 1 = s.master.silenceLimit) : s.masterBoundary =
      (s.setMaster { s.master with silenceCount := 0 }).changeMastership .leading .takeover := by
  simp only [State.masterBoundary, hst, hk, le_refl, if_true]

section
variable {b : Nat} {s : State}

theorem State.cycleBoundary_listenEnd (hst : s.master.state = .listening)
    (hk : s.master.listenCount = some s.master.timeout) : (s.elapse b).cycleBoundary =
      (s.ledFrom b { s.master with listenCount := none } .linkUpLead).settleListen
        [0x00, 0x02, 0x02, (s.master.lastPartner.map (·.code)).getD 0] := by
  have hmaster : (s.elapse b).boundaryTaken.master = s.master := State.boundaryTaken_master _
  rw [State.cycleBoundary_eq, State.masterBoundary_listenEnd (by rw [hmaster, hst]) (by rw [hmaster, hk]), hmaster]
  rfl

theorem State.cycleBoundary_takeover (hst : s.master.state = .following)
    (hk : s.master.silenceCount + 1 = s.master.silenceLimit) : (s.elapse b).cycleBoundary =
      s.ledFrom b { s.master with silenceCount := 0 } .takeover := by
  have hmaster : (s.elapse b).boundaryTaken.master = s.master := State.boundaryTaken_master _
  rw [State.cycleBoundary_eq, State.masterBoundary_takeover (by rw [hmaster, hst]) (by rw [hmaster, hk]), hmaster]
  rfl

variable (hrun : s.inReset = false) (hlen : 1 ≤ s.master.cycleLength) (hb : s.time.offset + b = s.master.cycleLength)
  (hquiet : NoStuck b s)
include hrun hlen hb hquiet

theorem exec_listenEnd (h : s.listenEnds = true) : exec .listenEnd s = .next (s.elapse b).cycleBoundary := by
  have hexec : exec .listenEnd s = .next (if s.listenEnds then s.toBoundary else s) := whenRunning_of_running hrun
  rw [hexec, if_pos h]
  exact (whenRunning_of_running hrun).symm.trans (exec_cycleBoundary hrun hlen hb hquiet)

theorem exec_takeover (h : s.takeoverComes = true) : exec .takeover s = .next (s.elapse b).cycleBoundary := by
  have hexec : exec .takeover s = .next (if s.takeoverComes then s.toBoundary else s) := whenRunning_of_running hrun
  rw [hexec, if_pos h]
  exact (whenRunning_of_running hrun).symm.trans (exec_cycleBoundary hrun hlen hb hquiet)

end

/-- Settles O31: the wait for the boundary, then the count that reaches its limit there. -/
theorem boundaryLeads : Obligations.BoundaryLeads := by
  refine ⟨fun b s hrun hst hk hlen hb hquiet => ?_, fun b s hrun hst hk hlen hb hquiet => ?_⟩
  · have hends : s.listenEnds = true := by simp [State.listenEnds, hst, hk]
    have hne : s.master.state ≠ .leading := by simp [hst]
    have hleads := leadsAtBoundary_ledFrom (m := { s.master with listenCount := none }) (cause := .linkUpLead) hb hne hne rfl
    have hport := State.ledFrom_port (b := b) (m := { s.master with listenCount := none }) (cause := .linkUpLead) (s := s) hne
    have hmaster := State.ledFrom_master (b := b) (m := { s.master with listenCount := none }) (cause := .linkUpLead) (s := s)
    refine ⟨_, exec_listenEnd hrun hlen hb hquiet hends, exec_cycleBoundary hrun hlen hb hquiet, ?_⟩
    rw [State.cycleBoundary_listenEnd hst hk]
    generalize s.ledFrom b _ _ = t at *
    refine ⟨LeadsAtBoundary.settleListen hleads _, ?_, ?_⟩
    · rw [State.settleListen_master, hmaster]
    · rw [State.settleListen_port, hmaster, hport]
  · have hcomes : s.takeoverComes = true := by simp [State.takeoverComes, hst, hk]
    have hne : s.master.state ≠ .leading := by simp [hst]
    refine ⟨_, exec_takeover hrun hlen hb hquiet hcomes, exec_cycleBoundary hrun hlen hb hquiet, ?_⟩
    rw [State.cycleBoundary_takeover hst hk]
    exact ⟨leadsAtBoundary_ledFrom hb hne hne rfl, State.ledFrom_master, State.ledFrom_port hne⟩

end Sys2Proof.Machine
end


section
/-! SUPPORT. The ranges of configuration, offset, silence count, capture queue and mark schedules, act by act: O6. -/

set_option Elab.async false

namespace Sys2Proof.Machine

open Sys2Proof.Safety

/-! ## The configuration and the offset (R107, R127) -/

/-- The ranges of the configured values (R107). -/
structure Mastership.InRange (m : Mastership) : Prop where
  cycleLength : 250 ≤ m.cycleLength ∧ m.cycleLength ≤ 8000
  share : 50 ≤ m.share ∧ m.share ≤ 90
  timeout : 2 ≤ m.timeout ∧ m.timeout ≤ 16
  chars : 200 ≤ m.c ∧ m.c ≤ 8000

/-- What CONFIGURE_LINK alone changes. -/
def Mastership.config (m : Mastership) : LinkRate × Nat × Nat × Nat := (m.rate, m.cycleLength, m.share, m.timeout)

theorem Mastership.config_eq_iff {m n : Mastership} : m.config = n.config ↔
    m.rate = n.rate ∧ m.cycleLength = n.cycleLength ∧ m.share = n.share ∧ m.timeout = n.timeout := by
  simp only [Mastership.config, Prod.mk.injEq]

theorem Mastership.InRange.of_config {m n : Mastership} (h : m.InRange) (hc : n.config = m.config) : n.InRange := by
  obtain ⟨hrate, hlength, hshare, htimeout⟩ := Mastership.config_eq_iff.mp hc
  obtain ⟨hl, hs, ht, hchars⟩ := h
  refine ⟨by rwa [hlength], by rwa [hshare], by rwa [htimeout], ?_⟩
  rwa [Mastership.c, hlength, hrate]

/-- TimeLaw, part by part. -/
structure Timed (s : State) : Prop where
  range : s.master.InRange
  offset : s.time.offset < s.master.cycleLength

theorem timed_iff {s : State} : Timed s ↔ TimeLaw s := by
  constructor
  · rintro ⟨⟨⟨hl, hl'⟩, ⟨hs, hs'⟩, ⟨ht, ht'⟩, hc, hc'⟩, hoff⟩
    exact ⟨hl, hl', hs, hs', ht, ht', hc, hc', hoff⟩
  · rintro ⟨hl, hl', hs, hs', ht, ht', hc, hc', hoff⟩
    exact ⟨⟨⟨hl, hl'⟩, ⟨hs, hs'⟩, ⟨ht, ht'⟩, hc, hc'⟩, hoff⟩

theorem Timed.of_config {s t : State} (h : Timed s) (hc : t.master.config = s.master.config) (ht : t.time = s.time) :
    Timed t := by
  refine ⟨h.range.of_config hc, ?_⟩
  obtain ⟨-, hlength, -, -⟩ := Mastership.config_eq_iff.mp hc
  rw [ht, hlength]
  exact h.offset

theorem State.faulted_config (cause : Cause) (s : State) : (s.faulted cause).master.config = s.master.config := by
  rw [State.faulted_master]
  rfl

theorem State.masterBoundary_config (s : State) : s.masterBoundary.master.config = s.master.config := by
  unfold State.masterBoundary
  split
  next =>
    split
    next => rfl
    next =>
      split
      · rw [State.settleListen_master, State.changeMastership_master]; rfl
      · rfl
  next =>
    split
    · rw [State.changeMastership_master]; rfl
    · rfl
  all_goals rfl

theorem State.cycleBoundary_config (s : State) : s.cycleBoundary.master.config = s.master.config := by
  rw [State.cycleBoundary_eq, State.masterBoundary_config, State.boundaryTaken_master]

theorem State.passTime_config (n : Nat) (s : State) : (s.passTime n).master.config = s.master.config :=
  State.passTime_keeps (·.master.config) (fun _ _ => rfl) State.cycleBoundary_config (State.faulted_config _) n s

/-- The offset stays below the cycle length where there is room for every boundary. -/
theorem State.advance_offset {k n : Nat} {s : State} (hoff : s.time.offset ≤ s.master.cycleLength)
    (hlen : 0 < s.master.cycleLength) (hk : s.eventsWithin n ≤ k) : (s.advance k n).time.offset < s.master.cycleLength := by
  have hquiet {n : Nat} {s : State} (hoff : s.time.offset ≤ s.master.cycleLength) (hlen : 0 < s.master.cycleLength)
      (hbefore : ¬ s.untilBoundary ≤ n) : (s.elapse n).time.offset < s.master.cycleLength := by
    simp only [State.elapse, TimeUnit.run, State.untilBoundary] at hbefore ⊢
    omega
  induction k generalizing n s with
  | zero =>
    refine hquiet hoff hlen fun hn => ?_
    have := State.eventsWithin_boundary hoff hlen hn
    omega
  | succ k ih =>
    cases hstuck : s.stuckWithin n with
    | some t =>
      obtain ⟨-, -, hbound⟩ := State.stuckWithin_some hstuck
      have hcount := State.eventsWithin_stuck hstuck
      have hlength : ((s.elapse t).faulted .stuckLine).master.cycleLength = s.master.cycleLength := by
        rw [State.faulted_master]; rfl
      rw [State.advance_stuck hstuck, ← hlength]
      refine ih ?_ (by rw [hlength]; exact hlen) (by omega)
      · rw [State.faulted_time, hlength]
        simp only [State.elapse, TimeUnit.run, State.untilBoundary] at hbound ⊢
        omega
    | none =>
      by_cases hn : s.untilBoundary ≤ n
      · have hcount := State.eventsWithin_boundary hoff hlen hn
        have hlength : (s.elapse s.untilBoundary).cycleBoundary.master.cycleLength = s.master.cycleLength :=
          State.cycleBoundary_cycleLength _
        rw [State.advance_boundary hstuck hn, ← hlength]
        refine ih ?_ (by rw [hlength]; exact hlen) (by omega)
        · rw [State.cycleBoundary_time]; exact Nat.zero_le _
      · rw [State.advance_quiet hstuck hn]
        exact hquiet hoff hlen hn

theorem Timed.passTime {s : State} (h : Timed s) (n : Nat) : Timed (s.passTime n) := by
  have hlen : 0 < s.master.cycleLength := by have := h.range.cycleLength; omega
  refine ⟨h.range.of_config (s.passTime_config n), ?_⟩
  obtain ⟨-, hlength, -, -⟩ := Mastership.config_eq_iff.mp (s.passTime_config n)
  rw [hlength, ← State.advance_eq_passTime h.offset.le hlen le_rfl]
  exact State.advance_offset h.offset.le hlen le_rfl

/-! ## The silence count (R117, R119) -/

/-- FollowLaw, in the mastership record. -/
structure Mastership.Limited (m : Mastership) : Prop where
  limit : m.silenceLimit = m.timeout ∨ m.silenceLimit = 2 * m.timeout
  below : m.state = .following → m.silenceCount < m.silenceLimit

/-- A record that does not follow keeps its limit, and is not counted against it. -/
theorem Mastership.Limited.apart {m n : Mastership} (h : m.Limited) (hne : n.state ≠ .following)
    (hlimit : n.silenceLimit = m.silenceLimit) (htimeout : n.timeout = m.timeout) : n.Limited :=
  ⟨by rw [hlimit, htimeout]; exact h.limit, fun hf => absurd hf hne⟩

/-- A record that writes none of the four fields. -/
theorem Mastership.Limited.of_same {m n : Mastership} (h : m.Limited) (hstate : n.state = m.state)
    (hcount : n.silenceCount = m.silenceCount) (hlimit : n.silenceLimit = m.silenceLimit)
    (htimeout : n.timeout = m.timeout) : n.Limited := by
  refine ⟨by rw [hlimit, htimeout]; exact h.limit, ?_⟩
  rw [hstate, hcount, hlimit]
  exact h.below

/-- A count that begins again, against T or twice T. -/
theorem Mastership.InRange.limited {m n : Mastership} (h : m.InRange) (hcount : n.silenceCount = 0)
    (hlimit : n.silenceLimit = m.timeout ∨ n.silenceLimit = 2 * m.timeout) (htimeout : n.timeout = m.timeout) :
    n.Limited := by
  refine ⟨by rw [htimeout]; exact hlimit, fun _ => ?_⟩
  have := h.timeout
  rw [hcount]
  omega

theorem State.faulted_limited {s : State} (h : s.master.Limited) (cause : Cause) : (s.faulted cause).master.Limited := by
  rw [State.faulted_master]
  exact h.apart nofun rfl rfl

theorem State.masterBoundary_limited {s : State} (h : s.master.Limited) : s.masterBoundary.master.Limited := by
  unfold State.masterBoundary
  split
  next hst =>
    have hne : s.master.state ≠ .following := by simp [hst]
    split
    next => exact h.apart hne rfl rfl
    next =>
      split
      · rw [State.settleListen_master, State.changeMastership_master]
        exact h.apart nofun rfl rfl
      · exact h.apart hne rfl rfl
  next =>
    split
    next =>
      rw [State.changeMastership_master]
      exact h.apart nofun rfl rfl
    next hbelow => exact ⟨h.limit, fun _ => Nat.not_le.mp hbelow⟩
  next => exact h.of_same rfl rfl rfl rfl
  all_goals exact h

theorem State.passTime_limited {s : State} (h : s.master.Limited) (n : Nat) : (s.passTime n).master.Limited := by
  refine State.passTime_preserves (P := fun s => s.master.Limited) (fun _ _ h => h) (fun s h => ?_)
    (fun s h => State.faulted_limited h _) n s h
  rw [State.cycleBoundary_eq]
  exact State.masterBoundary_limited (by rw [State.boundaryTaken_master]; exact h)

/-! ## The capture queue and the mark schedules (R136, R140) -/

/-- No schedule of the second mark lines is longer than the one of the first that it comes from. -/
def SchedulesWithin (ms ns : Vector MarkLine 4) : Prop :=
  ∀ k : Line, (ns[k.val]).schedule.length ≤ (ms[k.val]).schedule.length

theorem MarkLine.pass_schedule_length (cycleLength : Nat) (now : Point → Point) (old new : Point) (m : MarkLine) :
    (m.pass cycleLength now old new).schedule.length ≤ m.schedule.length := by
  rw [MarkLine.pass, MarkLine.endIfPassed_schedule, MarkLine.fires_schedule, List.length_drop]
  exact Nat.sub_le _ _

theorem SchedulesWithin.run (cycleLength : Nat) (old new : Point) (ms : Vector MarkLine 4) :
    SchedulesWithin ms (marksRun cycleLength old new ms) := by
  intro k
  simp only [marksRun, Vector.getElem_map]
  exact MarkLine.pass_schedule_length _ _ _ _ _

theorem SchedulesWithin.realign (cycleLength : Nat) (old new : Point) (ms : Vector MarkLine 4) :
    SchedulesWithin ms (marksRealign cycleLength old new ms) := by
  intro k
  simp only [marksRealign, Vector.getElem_map]
  exact MarkLine.pass_schedule_length _ _ _ _ _

/-- QueueLaw, part by part. -/
structure Queued (s : State) : Prop where
  captures : s.capture.queue.length ≤ Config.captureQueue
  marks : ∀ k : Line, (s.marks[k.val]).schedule.length ≤ Config.markEntries

theorem Queued.within {s t : State} (h : Queued s) (hcapture : t.capture = s.capture)
    (hmarks : SchedulesWithin s.marks t.marks) : Queued t :=
  ⟨by rw [hcapture]; exact h.captures, fun k => (hmarks k).trans (h.marks k)⟩

theorem Queued.of_same {s t : State} (h : Queued s) (hcapture : t.capture = s.capture) (hmarks : t.marks = s.marks) :
    Queued t :=
  h.within hcapture fun k => by rw [hmarks]

theorem Queued.setMarkLine {s : State} (h : Queued s) (k : Line) {m : MarkLine}
    (hm : m.schedule.length ≤ Config.markEntries) : Queued (s.setMarkLine k m) := by
  refine ⟨h.captures, fun j => ?_⟩
  by_cases hj : k.val = j.val
  · simpa [State.setMarkLine, State.setMarks, ← hj] using hm
  · simpa [State.setMarkLine, State.setMarks, Vector.getElem_set_ne _ _ hj] using h.marks j

theorem Queued.passTime {s : State} (h : Queued s) (n : Nat) : Queued (s.passTime n) := by
  refine State.passTime_preserves (fun n s h => h.within rfl (.run _ _ _ _)) (fun s h => ?_) (fun s h => ?_) n s h
  · refine h.within (State.cycleBoundary_capture s) ?_
    rw [State.cycleBoundary_marks]
    exact .run _ _ _ _
  · exact h.of_same (by simp) (by simp)

theorem Queued.realign {s : State} (h : Queued s) (c : Cycle) : Queued (s.realign c) := by
  refine h.within (State.realign_capture c s) fun k => ?_
  by_cases hf : isForward s.time.point ⟨c, s.beaconMicros⟩ = true
  · rw [State.realign_marks hf]
    exact MarkLine.pass_schedule_length _ _ _ _ _
  · rw [State.realign_backward hf]
    rfl

theorem insertEntry_length (c : Cycle) (e : MarkEntry) (l : List MarkEntry) :
    (insertEntry c e l).length = l.length + 1 := by
  induction l with
  | nil => rfl
  | cons x xs ih =>
    unfold insertEntry
    dsimp only
    split
    · rfl
    · rw [List.length_cons, ih, List.length_cons]

theorem Queued.edge {s : State} (h : Queued s) (k : Line) (rise : Bool) : Queued (s.edge k rise) := by
  have hrecorded : Queued (s.recordEdge k rise) := by
    unfold State.recordEdge
    dsimp only
    split
    next hroom =>
      have hqueued : s.capture.queue.length + 1 ≤ Config.captureQueue := hroom
      split
      · exact ⟨by simpa [State.setCapture] using hqueued, h.marks⟩
      · exact ⟨by simpa [State.setCapture] using hqueued, h.marks⟩
    next => exact ⟨h.captures, h.marks⟩
  unfold State.edge
  split
  · exact hrecorded.of_same (by simp) (by simp)
  · exact h

theorem Queued.sample {s : State} (h : Queued s) (changed level : BitVec 4) : Queued (s.sample changed level) := by
  have hsampled : Queued (s.setCapture { s.capture with sampledAt := some s.time.clock }) := ⟨h.captures, h.marks⟩
  refine List.foldlRecOn allLines _ hsampled fun t ht k _ => ?_
  split
  · exact ht.edge k _
  · exact ht

/-! ## The three laws together -/

/-- TimeLaw, FollowLaw and QueueLaw. -/
structure Clocked (s : State) : Prop where
  timed : Timed s
  limited : s.master.Limited
  queued : Queued s

theorem clocked_iff {s : State} : Clocked s ↔ TimeLaw s ∧ FollowLaw s ∧ QueueLaw s := by
  constructor
  · rintro ⟨ht, ⟨hlimit, hbelow⟩, hcaptures, hmarks⟩
    exact ⟨timed_iff.mp ht, ⟨hlimit, hbelow⟩, hcaptures, hmarks⟩
  · rintro ⟨ht, ⟨hlimit, hbelow⟩, hcaptures, hmarks⟩
    exact ⟨timed_iff.mpr ht, ⟨hlimit, hbelow⟩, hcaptures, hmarks⟩

section
variable {s : State} (h : Clocked s)
include h

/-- A change of the mastership record that leaves the configuration and the count's bound. -/
theorem Clocked.of_master {t : State} (hconfig : t.master.config = s.master.config) (hlimited : t.master.Limited)
    (htime : t.time = s.time := by simp) (hcapture : t.capture = s.capture := by simp)
    (hmarks : t.marks = s.marks := by simp) : Clocked t :=
  ⟨h.timed.of_config hconfig htime, hlimited, h.queued.of_same hcapture hmarks⟩

theorem Clocked.of_same {t : State} (hmaster : t.master = s.master := by simp) (htime : t.time = s.time := by simp)
    (hcapture : t.capture = s.capture := by simp) (hmarks : t.marks = s.marks := by simp) : Clocked t :=
  h.of_master (by rw [hmaster]) (by rw [hmaster]; exact h.limited) htime hcapture hmarks

theorem Clocked.of_queued {t : State} (hq : Queued t) (hmaster : t.master = s.master := by rfl)
    (htime : t.time = s.time := by rfl) : Clocked t :=
  ⟨h.timed.of_config (by rw [hmaster]) htime, by rw [hmaster]; exact h.limited, hq⟩

theorem Clocked.passTime (n : Nat) : Clocked (s.passTime n) :=
  ⟨h.timed.passTime n, State.passTime_limited h.limited n, h.queued.passTime n⟩

theorem Clocked.sample (changed level : BitVec 4) : Clocked (s.sample changed level) :=
  ⟨h.timed.of_config (by simp) (by simp), by simpa using h.limited, h.queued.sample changed level⟩

theorem Clocked.faulted (cause : Cause) : Clocked (s.faulted cause) :=
  h.of_master (State.faulted_config cause s) (State.faulted_limited h.limited cause)

/-- The offset of a realignment is 6 characters, which every cycle holds (R130). -/
theorem Clocked.realign (c : Cycle) : Clocked (s.realign c) := by
  refine ⟨⟨by simpa using h.timed.range, ?_⟩, by simpa using h.limited, h.queued.realign c⟩
  have hlength := h.timed.range.cycleLength
  have hrate := s.master.rate.charMicros_le
  rw [State.realign_time, State.realign_master]
  simp only [State.beaconMicros, State.chars]
  omega

theorem Clocked.settleListen (body : Body) : Clocked (s.settleListen body) := by
  refine h.of_master ?_ ?_ <;> rw [State.settleListen_master]
  · rfl
  · exact h.limited.of_same rfl rfl rfl rfl

theorem Clocked.settleHandovers (body : Body) : Clocked (s.settleHandovers body) := by
  refine h.of_master ?_ ?_ <;> rw [State.settleHandovers_master]
  · rfl
  · exact h.limited.of_same rfl rfl rfl rfl

theorem Clocked.follow (u : UnitId) (c : Cycle) (cause : Cause) : Clocked (s.follow u c cause) := by
  refine Clocked.realign (h.of_master ?_ ?_) c <;> rw [State.changeMastership_master]
  · rfl
  · exact h.timed.range.limited rfl (.inl rfl) rfl

theorem Clocked.heardFrom (u : UnitId) : Clocked (s.setMaster { s.master with lastPartner := some u }) :=
  h.of_master rfl (h.limited.of_same rfl rfl rfl rfl)

theorem Clocked.countsAnew (u : UnitId) : Clocked (s.setMaster { s.master with
    lastPartner := some u, silenceCount := 0, silenceLimit := s.master.timeout }) :=
  h.of_master rfl (h.timed.range.limited rfl (.inl rfl) rfl)

theorem Clocked.clash (u : UnitId) (c : Cycle) : Clocked (s.clash u c) := by
  have heard : Clocked ((s.setMaster { s.master with lastPartner := some u }).offer (.clash c)) :=
    (h.heardFrom u).of_same
  simp only [State.clash]
  split
  · split
    · exact heard.of_same
    · exact heard
  · exact (h.follow _ _ _).settleHandovers _

theorem Clocked.beaconHeard (u : UnitId) (c : Cycle) : Clocked (s.beaconHeard u c) := by
  unfold State.beaconHeard
  split
  · split
    case h_1 | h_2 => exact h
    all_goals exact h.faulted _
  · split
    case h_3 => exact (h.follow _ _ _).settleListen _
    case h_4 => exact h.clash _ _
    case h_5 => exact (h.countsAnew u).realign c
    all_goals exact h.heardFrom u

theorem Clocked.handoverEffect : Clocked s.handoverEffect := by
  refine Clocked.settleHandovers (h.of_master ?_ ?_) _ <;> rw [State.changeMastership_master]
  · rfl
  · exact h.timed.range.limited rfl (.inr rfl) rfl

theorem Clocked.openCycle : Clocked s.openCycle := by
  unfold State.openCycle
  split
  · exact h
  · split
    · exact h.handoverEffect
    · extract_lets at0 t t'
      have ht : Clocked t := h.of_same rfl rfl rfl rfl
      have ht' : Clocked t' := by
        simp only [t']
        split
        · exact ht.of_same
        · exact ht
      exact ht'.of_same rfl rfl rfl rfl

end

theorem lineFree_clocked : LineFree Clocked where
  engine _ h := h.of_same
  passTime n h := h.passTime n
  sample changed level h := h.sample changed level
  openCycle h := h.openCycle
  enterCyclic h := h.of_same
  planContinues h := h.of_same
  applyOutcome _ _ h := h.of_same
  beaconHeard u c h := h.beaconHeard u c

/-! ## The requests (R107, R109, R118, R121, R134 to R146) -/

theorem le_and_le_of_not_outside {n lo hi : Nat} (h : ¬ (n < lo ∨ hi < n)) : lo ≤ n ∧ n ≤ hi := by omega

/-- What the checks of CONFIGURE_LINK let through is in range (R107). -/
theorem configureError_inRange {rate share timeout : Byte} {cycleLength : BitVec 16}
    (h : configureError rate cycleLength share timeout = none) {m : Mastership}
    (hm : m.config = ((LinkRate.ofCode rate).getD .r10, cycleLength.toNat, share.toNat, timeout.toNat)) : m.InRange := by
  obtain ⟨hrate, hlength, hshare, htimeout⟩ : m.rate = (LinkRate.ofCode rate).getD .r10 ∧
    m.cycleLength = cycleLength.toNat ∧ m.share = share.toNat ∧ m.timeout = timeout.toNat := by
    simpa only [Mastership.config, Prod.mk.injEq] using hm
  unfold configureError at h
  split at h
  next => cases h
  next q hq =>
    rw [hq, Option.getD_some] at hrate
    split_ifs at h with hl hs ht hc
    refine ⟨?_, ?_, ?_, ?_⟩
    · rw [hlength]; exact le_and_le_of_not_outside hl
    · rw [hshare]; exact le_and_le_of_not_outside hs
    · rw [htimeout]; exact le_and_le_of_not_outside ht
    · rw [Mastership.c, hlength, hrate]; exact le_and_le_of_not_outside hc

section
variable {s : State} (h : Clocked s)
include h

theorem Clocked.configureLink (rate : Byte) (cycleLength : BitVec 16) (share timeout : Byte) :
    Clocked (configureLink rate cycleLength share timeout s).1 := by
  unfold Machine.configureLink
  split
  next => exact h
  next hallowed =>
    have hoffline : s.master.state = .offline := not_not.mp fun hne => hallowed (.inl hne)
    split
    · exact h
    next herror =>
      have hrange : (s.configured ((LinkRate.ofCode rate).getD .r10) cycleLength.toNat share.toNat
          timeout.toNat).master.InRange := configureError_inRange herror rfl
      have hoffset : 0 < cycleLength.toNat := lt_of_lt_of_le (by decide) hrange.cycleLength.1
      refine ⟨⟨hrange, hoffset⟩, ⟨.inl rfl, fun hf => ?_⟩, h.queued.captures, h.queued.marks⟩
      exact absurd (hoffline.symm.trans hf) nofun

theorem Clocked.linkUp (tag : Byte) : Clocked (linkUp tag s).1 := by
  unfold Machine.linkUp
  split
  · refine h.of_master ?_ ?_ <;> rw [State.changeMastership_master]
    · rfl
    · exact h.limited.apart nofun rfl rfl
  · exact h

theorem Clocked.linkDown : Clocked (linkDown s).1 := by
  unfold Machine.linkDown
  split
  · exact h
  · dsimp only [State.reply]
    refine Clocked.settleHandovers (Clocked.settleListen (h.of_master ?_ ?_) _) _ <;> rw [State.changeMastership_master]
    · rfl
    · exact h.limited.apart nofun rfl rfl

theorem Clocked.handoverRequest (tag : Byte) : Clocked (handoverRequest tag s).1 := by
  unfold Machine.handoverRequest
  split
  · exact h.of_master rfl (h.limited.of_same rfl rfl rfl rfl)
  · exact h

theorem Clocked.setCapture (line edges holdOff : Byte) : Clocked (setCaptureRequest line edges holdOff s).1 := by
  unfold setCaptureRequest
  split
  · exact h
  · split
    · exact h
    · exact h.of_queued ⟨h.queued.captures, h.queued.marks⟩

theorem Clocked.takeCaptures (count : Byte) : Clocked (takeCapturesRequest count s).1 := by
  refine h.of_queued ⟨le_trans ?_ h.queued.captures, h.queued.marks⟩
  exact (List.length_drop (i := count.toNat) (l := s.capture.queue)).trans_le (Nat.sub_le _ _)

theorem Clocked.setMarkLine (k : Line) {m : MarkLine} (hm : m.schedule.length ≤ Config.markEntries) :
    Clocked (s.setMarkLine k m) :=
  h.of_queued (h.queued.setMarkLine k hm)

theorem Clocked.scheduleMark (line : Byte) (cycle offset : BitVec 16) (level : Byte) (width : BitVec 16) :
    Clocked (scheduleMarkRequest line cycle offset level width s).1 := by
  unfold scheduleMarkRequest
  split
  · exact h
  next k _ =>
    split
    · exact h
    · split
      · exact h
      · split
        · exact h
        · extract_lets m p
          split_ifs with hahead hsame hfull
          · exact h
          · exact h
          · exact h
          · refine h.setMarkLine k ?_
            rw [insertEntry_length]
            exact Nat.not_le.mp hfull

theorem Clocked.cancelMarks (line : Byte) : Clocked (cancelMarksRequest line s).1 := by
  unfold cancelMarksRequest
  split
  · exact h
  · exact h.setMarkLine _ (Nat.zero_le _)

theorem Clocked.forceMark (line level : Byte) : Clocked (forceMarkRequest line level s).1 := by
  unfold forceMarkRequest
  split
  · exact h
  next k _ =>
    split
    · exact h
    · exact h.setMarkLine k (h.queued.marks k)

theorem Clocked.abandonRequests : Clocked s.abandonRequests := h.of_master rfl (h.limited.of_same rfl rfl rfl rfl)

theorem Clocked.restart : Clocked (restartRequest s).1 := h.abandonRequests.of_same rfl rfl rfl rfl

/-- Every request's block. -/
theorem Clocked.bodyEffect (k : ReqKind) (tag : Byte) (b : List Byte) : Clocked (bodyEffect k tag b s).1 := by
  cases k with
  | openSession => exact h
  | restart => exact h.restart
  | configureLink => exact h.configureLink _ _ _ _
  | linkUp => exact h.linkUp tag
  | linkDown => exact h.linkDown
  | handover => exact h.handoverRequest tag
  | setCapture => exact h.setCapture _ _ _
  | takeCaptures => exact h.takeCaptures _
  | scheduleMark => exact h.scheduleMark _ _ _ _ _
  | cancelMarks => exact h.cancelMarks _
  | forceMark => exact h.forceMark _ _
  | _ =>
    simp only [Machine.bodyEffect]
    exact h.of_same

theorem Clocked.request (k : ReqKind) (retry : Bool) (tag : Byte) (body : List Byte) :
    Clocked (request k retry tag (requestEffect k tag body) s) := by
  have executed : Clocked (requestEffect k tag body s).1 := by
    unfold requestEffect
    split
    · exact h
    · exact h.bodyEffect _ _ _
  unfold Machine.request
  split
  · exact h
  · split
    · exact h.of_same
    · split
      · exact h
      · exact h.of_same
      · exact h.of_same
      · generalize requestEffect k tag body s = x at executed
        obtain ⟨t, reply⟩ := x
        cases reply <;> exact executed.of_same rfl rfl rfl rfl

theorem Clocked.openRequest (retry : Bool) (tag : Byte) (body : List Byte) : Clocked (openRequest retry tag body s) := by
  unfold Machine.openRequest
  split
  · exact h
  · split
    · exact h
    · split
      · exact h.of_same
      · split
        · exact h.abandonRequests.of_same rfl rfl rfl rfl
        · exact h.of_same

/-! ## The receiver -/

theorem Clocked.disposeFrame (flags kind tag : Byte) (body : List Byte) : Clocked (disposeFrame flags kind tag body s) := by
  obtain ⟨retry, heq⟩ | ⟨k, retry, -, heq⟩ | heq := disposeFrame_cases flags kind tag body s <;> rw [heq]
  · exact h.openRequest _ _ _
  · exact h.request _ _ _ _
  · exact h.of_same

theorem Clocked.setPort (p : Port) : Clocked (s.setPort p) := h.of_same

theorem Clocked.abandonCandidate (k : PortErrorKind) : Clocked (s.abandonCandidate k) := h.of_same

theorem Clocked.judge : Clocked s.judge := by
  unfold State.judge
  split
  · split
    · exact h.abandonCandidate _
    · split
      · exact h
      · split
        · exact (h.setPort _).disposeFrame _ _ _ _
        · exact h.abandonCandidate _
  · exact h

theorem Clocked.examine (b : RxByte) : Clocked (s.examine b) := by
  unfold State.examine
  split
  · exact h
  · exact (h.setPort _).judge

theorem Clocked.examinePending (k : Nat) : Clocked (State.examinePending k s) := by
  induction k generalizing s with
  | zero => exact h
  | succ k ih =>
    unfold State.examinePending
    split
    · exact ih ((h.setPort _).examine _)
    · split
      · exact ih (h.abandonCandidate _)
      · exact h

theorem Clocked.byteArrives (after : Nat) (b : Byte) : Clocked (s.byteArrives after b) :=
  Clocked.examinePending (Clocked.examine ((h.passTime after).examinePending _) _) _

theorem Clocked.candidateGap : Clocked s.candidateGap := by
  unfold State.candidateGap
  split
  · exact h
  · exact Clocked.examinePending (Clocked.abandonCandidate (h.passTime _) _) _

/-! ## The transmitter and the resets -/

theorem Clocked.chooseFrame : Clocked s.chooseFrame := h.of_same

omit h in
theorem marksReset_within (k : Line) : (marksReset[k.val]).schedule.length ≤ Config.markEntries := by
  simp [marksReset]

omit h in
/-- The values after a reset are in range (R105, R127, R133, R139). -/
theorem clocked_afterReset (baud : Baud) (unit : UnitId) (epoch : Byte) (cause : HelloCause) (clock : Nat)
    (pending : List Instr) : Clocked (State.afterReset baud unit epoch cause clock pending) := by
  refine ⟨⟨⟨?_, ?_, ?_, ?_⟩, ?_⟩, ⟨.inl rfl, nofun⟩, Nat.zero_le _, marksReset_within⟩
  all_goals
    simp only [State.afterReset, Mastership.reset, TimeUnit.reset, Mastership.c, LinkRate.charMicros]
    decide

theorem Clocked.transmitEnd : Clocked s.transmitEnd := by
  unfold State.transmitEnd
  split
  · exact h.chooseFrame
  · split
    · exact clocked_afterReset _ _ _ _ _ _
    · exact Clocked.chooseFrame (h.passTime _)

theorem Clocked.restartEnd : Clocked s.restartEnd := by
  unfold State.restartEnd
  split
  · exact h
  · split
    · exact clocked_afterReset _ _ _ _ _ _
    · exact h

theorem Clocked.heldInReset : Clocked s.heldInReset :=
  h.of_queued ⟨h.queued.captures, marksReset_within⟩

/-! ## Every command, every step -/

/-- A request is its frame, a row of the line is LineFree's, and the rest is the port's and the resets'. -/
theorem Clocked.exec {t : State} {c : Instr} (ht : exec c s = .next t) : Clocked t := by
  cases hq : requestOf c with
  | some q =>
    by_cases hk : q.kind = .openSession
    · rw [requestOf_open hq hk] at ht
      exact whenRunning_keeps h (h.openRequest _ _ _) ht
    · rw [exec_request hq hk] at ht
      exact whenRunning_keeps h (h.request _ _ _ _) ht
  | none =>
    by_cases hline : rowOfLine c = true
    · exact lineFree_clocked.exec h hline ht
    · cases c with
      | resetNRelease => cases ht; exact clocked_afterReset _ _ _ _ _ _
      | hardReset => exact whenRunning_keeps h h.heldInReset ht
      | commandByteReceived after b => exact whenRunning_keeps h (h.byteArrives after b) ht
      | candidateGap => exact whenRunning_keeps h h.candidateGap ht
      | transmitFrameEnd => exact whenRunning_keeps h h.transmitEnd ht
      | restartReset => exact whenRunning_keeps h h.restartEnd ht
      | _ => simp [requestOf, rowOfLine] at hq hline

theorem Clocked.step {t : State} (ht : step s = .next t) : Clocked t := by
  unfold Machine.step at ht
  split at ht
  next _ rest _ => exact Clocked.exec (s := s.setPending rest) h.of_same ht
  next =>
    unfold stepIdle at ht
    split at ht
    · exact h.exec ht
    · cases ht
      unfold State.tick
      split
      · exact h
      · exact h.passTime 1

end

/-- Settles O6: the three laws together, kept by every step. -/
theorem timeLawKept : Obligations.TimeLawKept :=
  fun _ _ htime hfollow hqueue ht => clocked_iff.mp ((clocked_iff.mpr ⟨htime, hfollow, hqueue⟩).step ht)

end Sys2Proof.Machine
end


section
/-! SUPPORT. The stuck line: O35. -/

set_option Elab.async false

namespace Sys2Proof.Machine

open Sys2Proof.Safety

/-! ## A transaction the plan has just granted awaits no reply (R82) -/

theorem Served.transaction {s t : State} (h : Served s t) : t.engine.transaction = s.engine.transaction ∨
    ∃ tx, t.engine.transaction = some tx ∧ tx.phase = .header := by
  cases h with
  | moved hview => exact .inl (congrArg LawView.transaction hview)
  | @granted u v _ _ i r n _ _ _ _ hgrant ht =>
    have htx : t.engine.transaction = v.engine.transaction := congrArg LawView.transaction ht
    rw [State.grantWithRoom_engine hgrant] at htx
    exact .inr ⟨_, htx, rfl⟩

theorem State.planContinues_served (s : State) : s.planContinues = s ∨ Served s s.planContinues := by
  have stage_kept {st : Stage} (hst : s.plan.stage = st) : s.lawView = { s.lawView with stage := st } := by
    subst hst; rfl
  unfold State.planContinues
  split
  next hst _ => exact .inr (Served.serveDue ((State.mapRecord_lawView _).trans (stage_kept hst)) _)
  next hst _ => exact .inr (Served.searchDemand (stage_kept hst) _ _)
  next => exact .inl rfl

/-- The part leads, and no reply window stands open. -/
structure LeadsShut (s : State) : Prop where
  leads : s.master.state = .leading
  shut : s.atPhase .replyWindow false = none

theorem State.atPhase_of_other {ph : Phase} {b : Bool} {tx : Transaction} {s : State} (h : s.engine.transaction = some tx)
    (hph : tx.phase ≠ ph) : s.atPhase ph b = none := by
  simp [State.atPhase, h, hph]

theorem State.planContinues_shut {s : State} (h : s.engine.transaction = none) :
    s.planContinues.atPhase .replyWindow false = none := by
  rcases s.planContinues_served with hsame | hserved
  · rw [hsame]
    exact State.atPhase_noTransaction h _ _
  · rcases hserved.transaction with htx | ⟨tx, htx, hph⟩
    · exact State.atPhase_noTransaction (htx.trans h) _ _
    · exact State.atPhase_of_other htx (by rw [hph]; nofun)

/-- A window that is closed SILENT stands open no longer. -/
theorem State.silentReply_shut {tx : Transaction} {s : State} (h : s.atPhase .replyWindow false = some tx) :
    s.silentReply.atPhase .replyWindow false = none := by
  have htx := (State.atPhase_some h).2
  have hb := State.atPhase_begun h
  by_cases hline : s.lineIdle = true
  · rw [State.silentReply_of_idle htx hb hline]
    exact State.planContinues_shut (by rw [State.applyOutcome_engine])
  · rw [State.silentReply_of_busy htx hb (Bool.eq_false_iff.mpr hline)]
    exact State.atPhase_of_other (tx := { tx with phase := .closing, decided := some .silent }) rfl nofun

/-! ## The state that a stuck line leaves (R122) -/

/-- The stream is neither waiting to start nor in use. -/
def StreamRecord.atRest (r : StreamRecord) : Bool := r.state == .idle || r.state == .halted || r.state == .done

theorem StreamRecord.linkLost_atRest (r : StreamRecord) : r.linkLost.atRest = true := by
  unfold StreamRecord.linkLost
  by_cases hr : r.losesLink
  · rw [if_pos hr]
    rfl
  · rw [if_neg hr]
    unfold StreamRecord.atRest
    cases hs : r.state with
    | armed | running | paused => simp [StreamRecord.losesLink, hs] at hr
    | idle | halted | done => rfl

theorem StreamRecord.startsAt_of_atRest {r : StreamRecord} (h : r.atRest = true) (c : Cycle) : r.startsAt c = false := by
  refine decide_eq_false fun ⟨harmed, _⟩ => ?_
  simp [StreamRecord.atRest, harmed] at h

/-- FAULTED by a stuck line, with nothing that waits, drives, or runs. -/
structure LineFault (s : State) : Prop where
  state : s.master.state = .faulted
  cause : s.master.lastCause = some .stuckLine
  listenCount : s.master.listenCount = none
  listenRequest : s.master.listenRequest = none
  handovers : s.master.handovers = []
  armed : s.master.armed = false
  transaction : s.engine.transaction = none
  line : s.ldrv = false
  stage : s.plan.stage = .standby
  record : s.plan.record = none
  streams : ∀ i : Sid, (s.stream i).all StreamRecord.atRest = true

theorem State.faulted_streams_atRest (cause : Cause) (i : Sid) (s : State) :
    ((s.faulted cause).stream i).all StreamRecord.atRest = true := by
  have hstream : (s.faulted cause).stream i =
      (((s.setMaster { s.master with listenCount := none }).leaveLeading .faulted).stream i).map StreamRecord.linkLost := by
    rw [State.faulted_eq, State.changeMastership_eq, State.stream, State.settleHandovers_streams, State.settleListen_streams,
      State.planFollows_streams]
    exact (State.streamsFollow_spec .faulted _).1 i
  rw [hstream]
  generalize ((s.setMaster _).leaveLeading .faulted).stream i = x
  cases x with
  | none => rfl
  | some r => exact r.linkLost_atRest

theorem FreeApart.lineFault {s : State} (h : FreeApart s) : LineFault (s.faulted .stuckLine) := by
  obtain ⟨htx, hline, hstage, hrecord⟩ := State.faulted_released h .stuckLine
  have hmaster := State.faulted_master .stuckLine s
  have hstreams (i : Sid) := State.faulted_streams_atRest .stuckLine i s
  generalize s.faulted .stuckLine = t at *
  refine ⟨?_, ?_, ?_, ?_, ?_, ?_, htx, hline, hstage, hrecord, hstreams⟩ <;> rw [hmaster]

section
variable {s : State} (h : LineFault s)
include h

theorem LineFault.unsupervised : s.master.state.supervised = false := by rw [h.state]; rfl

theorem LineFault.apart : FreeApart s := fun _ => ⟨h.transaction, h.line⟩

/-- What leaves the mastership unit, the transaction, the plan's stage and record, and the rest of the streams. -/
theorem LineFault.kept {t : State} (hmaster : t.master = s.master) (htx : t.engine.transaction = s.engine.transaction)
    (hline : t.ldrv = true → s.ldrv = true) (hplan : t.plan = s.plan)
    (hstreams : ∀ i, (s.stream i).all StreamRecord.atRest = true → (t.stream i).all StreamRecord.atRest = true) :
    LineFault t where
  state := by rw [hmaster, h.state]
  cause := by rw [hmaster, h.cause]
  listenCount := by rw [hmaster, h.listenCount]
  listenRequest := by rw [hmaster, h.listenRequest]
  handovers := by rw [hmaster, h.handovers]
  armed := by rw [hmaster, h.armed]
  transaction := by rw [htx, h.transaction]
  line := Bool.eq_false_iff.mpr fun hd => by
    have := hline hd
    rw [h.line] at this
    cases this
  stage := by rw [hplan, h.stage]
  record := by rw [hplan, h.record]
  streams i := hstreams i (h.streams i)

theorem LineFault.elapse (n : Nat) : LineFault (s.elapse n) := by
  refine h.kept rfl ?_ ?_ rfl fun i hi => hi
  · rw [State.elapse_engine]
  · have hdriven : (s.elapse n).engine.drivenUntil = s.engine.drivenUntil := s.elapse_drivenUntil n
    have hclock : (s.elapse n).time.clock = s.time.clock + n := rfl
    simp only [State.ldrv, decide_eq_true_eq]
    omega

theorem LineFault.cycleBoundary : LineFault s.cycleBoundary := by
  have hwhole : s.cycleBoundary = s.boundaryTaken := by
    rw [State.cycleBoundary_eq, State.masterBoundary_unsupervised]
    rw [State.boundaryTaken_master]
    exact h.unsupervised
  have hmaster := s.boundaryTaken_master
  have hengine := s.boundaryTaken_engine
  have hplan := State.boundaryTaken_plan_other (s := s) (by simp [h.state])
  have htime := s.boundaryTaken_time
  have hstream (i : Sid) := s.boundaryTaken_stream i
  rw [hwhole]
  generalize s.boundaryTaken = t at *
  refine h.kept hmaster (by rw [hengine]) ?_ hplan fun i hi => ?_
  · simp only [State.ldrv, hengine, htime]
    exact id
  · rw [hstream]
    cases hr : s.stream i with
    | none => rfl
    | some r =>
      rw [hr] at hi
      have hrest : r.atRest = true := hi
      have hno : r.startsAt (s.time.cycle + 1) = false := StreamRecord.startsAt_of_atRest hrest _
      rw [Option.map_some, hno]
      exact hi

theorem LineFault.passTime (n : Nat) : LineFault (s.passTime n) :=
  State.passTime_preserves (fun n _ h => h.elapse n) (fun _ h => h.cycleBoundary) (fun _ h => h.apart.lineFault) n s h

theorem LineFault.setHearing (b : Bool) : LineFault (s.setHearing b) := h.kept rfl rfl id rfl fun _ hi => hi

theorem LineFault.passBusy (n : Nat) : LineFault (s.passBusy n) := ((h.setHearing true).passTime n).setHearing _

theorem LineFault.holdLine : s.holdLine = s := if_neg (by rw [h.unsupervised]; exact Bool.false_ne_true)

end

/-! ## A part that leads with no window open goes on so, or faults -/

/-- FAULTED by a stuck line, or leading with no reply window open. -/
def FaultOrShut (s : State) : Prop := LineFault s ∨ LeadsShut s

theorem State.atPhase_congr {s t : State} (hstate : t.master.state = s.master.state)
    (htx : t.engine.transaction = s.engine.transaction) (ph : Phase) (b : Bool) : t.atPhase ph b = s.atPhase ph b := by
  simp only [State.atPhase, hstate, htx]

theorem LeadsShut.kept {s t : State} (h : LeadsShut s) (hstate : t.master.state = s.master.state)
    (htx : t.engine.transaction = s.engine.transaction) : LeadsShut t :=
  ⟨hstate.trans h.leads, (State.atPhase_congr hstate htx _ _).trans h.shut⟩

/-- What a boundary does to a supervised part, as far as the stuck line is concerned: nothing, or the part comes to lead. -/
theorem State.cycleBoundary_supervised (s : State) :
    (s.cycleBoundary.master.state = s.master.state ∧ s.cycleBoundary.engine = s.engine) ∨
    (s.master.state ≠ .leading ∧ s.cycleBoundary.master.state = .leading ∧
      s.cycleBoundary.engine.transaction = s.engine.transaction) := by
  have hmaster := s.boundaryTaken_master
  have hengine := s.boundaryTaken_engine
  rw [State.cycleBoundary_eq, ← hmaster, ← hengine]
  generalize s.boundaryTaken = t
  unfold State.masterBoundary
  split
  next hst =>
    split
    next => exact .inl ⟨rfl, rfl⟩
    next =>
      split
      next =>
        refine .inr ⟨by simp [hst], ?_, ?_⟩
        · rw [State.settleListen_master, State.changeMastership_master]
        · rw [State.settleListen_engine, State.changeMastership_leads (by simp [hst])]
          rfl
      next => exact .inl ⟨rfl, rfl⟩
  next hst =>
    split
    next =>
      refine .inr ⟨by simp [hst], ?_, ?_⟩
      · rw [State.changeMastership_master]
      · rw [State.changeMastership_leads (by simp [hst])]
        rfl
    next => exact .inl ⟨rfl, rfl⟩
  all_goals exact .inl ⟨rfl, rfl⟩

/-- A leading part leads on, with its transaction as it stands, or a stuck line comes. -/
theorem State.passTime_leading {s : State} (h : s.master.state = .leading) (n : Nat) : LineFault (s.passTime n) ∨
    ((s.passTime n).master.state = .leading ∧ (s.passTime n).engine.transaction = s.engine.transaction) := by
  refine State.passTime_preserves
    (P := fun t => LineFault t ∨ (t.master.state = .leading ∧ t.engine.transaction = s.engine.transaction))
    (fun n t ht => ?_) (fun t ht => ?_) (fun t ht => ?_) n s (.inr ⟨h, rfl⟩)
  · exact ht.imp (·.elapse n) fun ⟨hleads, htx⟩ => ⟨hleads, by rw [State.elapse_engine]; exact htx⟩
  · refine ht.imp (·.cycleBoundary) fun ⟨hleads, htx⟩ => ?_
    rcases t.cycleBoundary_supervised with ⟨hstate, hengine⟩ | ⟨hne, -, -⟩
    · exact ⟨hstate.trans hleads, by rw [hengine, htx]⟩
    · exact absurd hleads hne
  · refine .inl (FreeApart.lineFault ?_)
    rcases ht with hfault | ⟨hleads, -⟩
    · exact hfault.apart
    · exact fun hne => absurd hleads hne

theorem FaultOrShut.passTime {s : State} (h : FaultOrShut s) (n : Nat) : FaultOrShut (s.passTime n) := by
  rcases h with hfault | hleads
  · exact .inl (hfault.passTime n)
  · exact (State.passTime_leading hleads.leads n).imp_right fun ⟨hstate, htx⟩ =>
      hleads.kept (hstate.trans hleads.leads.symm) htx

theorem FaultOrShut.setHearing {s : State} (h : FaultOrShut s) (b : Bool) : FaultOrShut (s.setHearing b) :=
  h.imp (·.setHearing b) (·.kept rfl rfl)

theorem FaultOrShut.passBusy {s : State} (h : FaultOrShut s) (n : Nat) : FaultOrShut (s.passBusy n) :=
  ((h.setHearing true).passTime n).setHearing _

/-! ## The line held until the count is reached (R103) -/

/-- While the line is held, the stuck line comes when the count reaches 600 characters. -/
theorem State.stuckWithin_of_hearing {n k : Nat} {s : State} (hsup : s.master.state.supervised = true)
    (hhear : s.engine.hearing = true) (hk : k = 600 * s.master.rate.charMicros - s.engine.busy)
    (hbound : k ≤ s.untilBoundary) (hn : k ≤ n) : s.stuckWithin n = some k := by
  subst hk
  have hstuck : s.untilStuck = some (600 * s.master.rate.charMicros - s.engine.busy) := by
    simp only [State.untilStuck, hsup, hhear, Bool.true_or, Bool.true_and, if_true]
    rfl
  exact Option.filter_eq_some_iff.mpr ⟨hstuck, decide_eq_true ⟨hn, hbound⟩⟩

theorem State.elapse_busy_of_hearing {n : Nat} {s : State} (hsup : s.master.state.supervised = true)
    (hhear : s.engine.hearing = true) (hn : 0 < n) : (s.elapse n).engine.busy = s.engine.busy + n := by
  have hquiet := State.elapse_quiet_of_hearing hhear (.inl hn)
  have hpos := s.master.rate.charMicros_pos
  rw [State.elapse_engine]
  simp only [hsup, hquiet, if_true]
  exact if_neg (by omega)

theorem FreeApart.elapse {s : State} (h : FreeApart s) (n : Nat) : FreeApart (s.elapse n) := by
  intro hne
  obtain ⟨htx, hline⟩ := h hne
  refine ⟨by rw [State.elapse_engine]; exact htx, ?_⟩
  have hclock : (s.elapse n).time.clock = s.time.clock + n := rfl
  simp only [State.ldrv, State.elapse_drivenUntil, decide_eq_false_iff_not] at hline ⊢
  omega

/-- A supervised part on a held line, which leads or has nothing in flight. -/
structure Held (s : State) : Prop where
  timed : Timed s
  supervised : s.master.state.supervised = true
  hearing : s.engine.hearing = true
  apart : FreeApart s

theorem Held.toBoundary {s : State} (h : Held s) (hb : 0 < s.untilBoundary) :
    (s.master.state ≠ .leading ∧ LeadsShut (s.elapse s.untilBoundary).cycleBoundary) ∨
    (Held (s.elapse s.untilBoundary).cycleBoundary ∧
      (s.elapse s.untilBoundary).cycleBoundary.master.state = s.master.state ∧
      (s.elapse s.untilBoundary).cycleBoundary.engine.busy = s.engine.busy + s.untilBoundary) := by
  have hlen : 0 < s.master.cycleLength := by have := h.timed.range.cycleLength; omega
  have hbusy := State.elapse_busy_of_hearing h.supervised h.hearing hb
  have hfree : FreeApart (s.elapse s.untilBoundary) := FreeApart.elapse h.apart _
  have hhearing := (State.elapse_hearing s.untilBoundary s).trans h.hearing
  have hmaster := s.elapse_master s.untilBoundary
  generalize s.elapse s.untilBoundary = u at *
  have htime := u.cycleBoundary_time
  rcases u.cycleBoundary_supervised with ⟨hstate, hengine⟩ | ⟨hne, hleads, htx⟩
  · rw [hmaster] at hstate
    refine .inr ⟨⟨⟨?_, ?_⟩, ?_, ?_, fun hne => ?_⟩, hstate, ?_⟩
    · refine h.timed.range.of_config ?_
      rw [State.cycleBoundary_config, hmaster]
    · rw [htime, State.cycleBoundary_cycleLength, hmaster]
      exact hlen
    · rw [hstate]
      exact h.supervised
    · rw [hengine]
      exact hhearing
    · obtain ⟨htx, hline⟩ := hfree (by rw [hmaster, ← hstate]; exact hne)
      refine ⟨by rw [hengine, htx], ?_⟩
      simp only [State.ldrv, hengine, htime, TimeUnit.boundary]
      exact hline
    · rw [hengine, hbusy]
  · refine .inl ⟨by rw [← hmaster]; exact hne, hleads, State.atPhase_noTransaction ?_ _ _⟩
    rw [htx]
    exact (hfree hne).1

/-- A line held long enough faults the part, if no boundary takes it to LEADING on the way. -/
theorem Held.passTime {n : Nat} {s : State} (h : Held s) (hn : 600 * s.master.rate.charMicros ≤ s.engine.busy + n) :
    LineFault (s.passTime n) ∨ (s.master.state ≠ .leading ∧ FaultOrShut (s.passTime n)) := by
  induction n using Nat.strong_induction_on generalizing s with
  | _ n ih =>
    have hlen : 0 < s.master.cycleLength := by have := h.timed.range.cycleLength; omega
    have hoff := h.timed.offset
    by_cases hfirst : 600 * s.master.rate.charMicros - s.engine.busy ≤ s.untilBoundary
    · obtain ⟨m, rfl⟩ := Nat.exists_eq_add_of_le
        (show 600 * s.master.rate.charMicros - s.engine.busy ≤ n by omega)
      have hstuck := State.stuckWithin_of_hearing h.supervised h.hearing rfl hfirst (Nat.le_add_right _ m)
      rw [State.passTime_stuck hlen (by simp only [State.untilBoundary] at hfirst; omega) hstuck]
      exact .inl (LineFault.passTime (FreeApart.elapse h.apart _).lineFault m)
    · obtain ⟨m, rfl⟩ := Nat.exists_eq_add_of_le (show s.untilBoundary ≤ n by omega)
      have hb : s.time.offset + s.untilBoundary = s.master.cycleLength := by simp only [State.untilBoundary]; omega
      have hpos : 0 < s.untilBoundary := by omega
      rw [State.passTime_boundary hlen hb fun _ => .inl (by omega)]
      rcases h.toBoundary hpos with ⟨hne, hleads⟩ | ⟨hheld, hstate, hbusy⟩
      · exact .inr ⟨hne, FaultOrShut.passTime (.inr hleads) m⟩
      · rw [← hstate]
        refine ih m (by omega) hheld ?_
        rw [State.cycleBoundary_rate, State.elapse_master, hbusy]
        omega

/-! ## The level, a reply window that ends within it, and the level again (R84, R103) -/

section
variable {s : State} (ht : Timed s)
include ht

theorem Timed.passBusy (n : Nat) : Timed (s.passBusy n) :=
  Timed.of_config (Timed.passTime (s := s.setHearing true) (ht.of_config rfl rfl) n) rfl rfl

theorem Timed.silentReply : Timed s.silentReply :=
  ht.of_config (by rw [State.silentReply_master]) s.silentReply_time

theorem Timed.holdLevel (n : Nat) : Timed (s.holdLevel n) := by
  unfold State.holdLevel
  split
  · exact ht.passBusy n
  · split
    · exact Timed.passBusy (State.whenPhase_of_parts ht _ _ (ht.passBusy _) fun _ _ h => h.silentReply) _
    · exact ht.passBusy n

variable (hsup : s.master.state.supervised = true) (hfree : FreeApart s)
include hsup hfree

theorem Timed.passBusy_held {n : Nat} (hn : 600 * s.master.rate.charMicros ≤ s.engine.busy + n) :
    LineFault (s.passBusy n) ∨ (s.master.state ≠ .leading ∧ FaultOrShut (s.passBusy n)) := by
  have hheld : Held (s.setHearing true) := ⟨ht.of_config rfl rfl, hsup, rfl, hfree⟩
  exact (hheld.passTime hn).imp (·.setHearing _) fun ⟨hne, h⟩ => ⟨hne, h.setHearing _⟩

/-- The first level: a window that ends within it leaves the part leading with none open. -/
theorem Timed.holdLevel_faultOrShut {n : Nat} (hn : 600 * s.master.rate.charMicros ≤ s.engine.busy + n) :
    FaultOrShut (s.holdLevel n) := by
  have hbusy := ht.passBusy_held hsup hfree hn
  cases hw : s.atPhase .replyWindow false with
  | none =>
    rw [State.holdLevel_of_noWindow n s hw]
    exact hbusy.elim .inl (·.2)
  | some tx =>
    have hleads := (State.atPhase_some hw).1
    by_cases hpassed : tx.windowFrom + 4 * s.master.rate.charMicros < s.time.clock + n
    · rw [State.holdLevel_of_passed hw hpassed rfl]
      refine FaultOrShut.passBusy ?_ _
      generalize tx.windowFrom + 4 * s.master.rate.charMicros - s.time.clock = early
      have hearly : LineFault (s.passBusy early) ∨ (s.passBusy early).master.state = .leading :=
        (State.passTime_leading (s := s.setHearing true) hleads early).imp (·.setHearing _) (·.1)
      cases hat : (s.passBusy early).atPhase .replyWindow false with
      | none =>
        rw [State.whenPhase_left hw hat]
        exact hearly.imp_right (⟨·, hat⟩)
      | some tx' =>
        rw [State.whenPhase_acts hw hat]
        refine .inr ⟨?_, State.silentReply_shut hat⟩
        rw [State.silentReply_master]
        exact (State.atPhase_some hat).1
    · rw [State.holdLevel_of_open fun tx' htx' => ?_]
      · exact hbusy.elim .inl fun ⟨hne, _⟩ => absurd hleads hne
      · cases hw.symm.trans htx'
        exact Nat.not_lt.mp hpassed

theorem Timed.stuckLine_lineFault : LineFault s.stuckLine := by
  have hcount (u : State) :
      600 * u.master.rate.charMicros ≤ u.engine.busy + (u.chars Config.stuckCharacters - u.engine.busy) := by
    simp only [State.chars, Config.stuckCharacters]
    omega
  have hfirst : s.holdLine = s.holdLevel (s.chars Config.stuckCharacters - s.engine.busy) := if_pos hsup
  have htimed : Timed s.holdLine := by rw [hfirst]; exact ht.holdLevel _
  have hheld : FaultOrShut s.holdLine := by rw [hfirst]; exact ht.holdLevel_faultOrShut hsup hfree (hcount s)
  rw [State.stuckLine]
  generalize s.holdLine = u at *
  rcases hheld with hfault | hleads
  · rw [hfault.holdLine]
    exact hfault
  · have husup : u.master.state.supervised = true := by rw [hleads.leads]; rfl
    have huheld : u.holdLine = u.passBusy (u.chars Config.stuckCharacters - u.engine.busy) :=
      (if_pos husup).trans (State.holdLevel_of_noWindow _ u hleads.shut)
    rw [huheld]
    refine (htimed.passBusy_held husup (fun hne => absurd hleads.leads hne) (hcount u)).elim id fun ⟨hne, _⟩ => ?_
    exact absurd hleads.leads hne

end

/-! ## Within one cycle, the first level reaches the count (R122) -/

theorem State.passTime_zero {s : State} (h : s.master.state.supervised = false) (hoff : s.time.offset < s.master.cycleLength) :
    s.passTime 0 = s := by
  have hsup {P : Prop} (hs : s.master.state.supervised = true) : P := absurd (h.symm.trans hs) Bool.false_ne_true
  have hnone : s.stuckWithin 0 = none := State.stuckWithin_of_noStuck (k := 0) hsup (Nat.zero_le _)
  rw [State.passTime_quiet 0 s (Nat.sub_pos_of_lt hoff) hnone]
  exact State.elapse_zero hsup

theorem State.passBusy_zero {s : State} (h : s.master.state.supervised = false) (hoff : s.time.offset < s.master.cycleLength) :
    s.passBusy 0 = s := by
  rw [State.passBusy, State.passTime_zero (s := s.setHearing true) h hoff]
  rfl

/-- A held line leaves the transaction as it stands. -/
theorem State.heard_transaction (n : Nat) (s : State) :
    ((s.setHearing true).elapse n).engine.transaction = s.engine.transaction := by
  rw [State.elapse_engine]
  rfl

/-- The mastership record behind a stuck line. -/
def Mastership.struck (m : Mastership) : Mastership :=
  { m with
    state := .faulted, lastCause := some .stuckLine, listenCount := none, listenRequest := none, handovers := []
    armed := false }

section
variable {n : Nat} {s : State} (hsup : s.master.state.supervised = true)
  (hn : n = 600 * s.master.rate.charMicros - s.engine.busy) (hoff : s.time.offset + n < s.master.cycleLength)
include hsup hn hoff

/-- Where no boundary comes first, a held line faults the part at the moment the count is reached. -/
theorem State.passBusy_stuck :
    s.passBusy n = State.setHearing s.engine.hearing (((s.setHearing true).elapse n).faulted .stuckLine) := by
  have hstuck : (s.setHearing true).stuckWithin (n + 0) = some n :=
    State.stuckWithin_of_hearing hsup rfl hn (Nat.le_sub_of_add_le' hoff.le) le_rfl
  have htaken := State.passTime_stuck (s := s.setHearing true) (Nat.zero_lt_of_lt hoff) hoff.le hstuck
  have hmaster := State.faulted_master .stuckLine ((s.setHearing true).elapse n)
  have htime := State.faulted_time .stuckLine ((s.setHearing true).elapse n)
  rw [State.passBusy, ← Nat.add_zero n, htaken, Nat.add_zero]
  generalize ((s.setHearing true).elapse n).faulted .stuckLine = u at *
  rw [State.passTime_zero]
  · rw [hmaster]
    rfl
  · rw [hmaster, htime]
    exact hoff

theorem State.passBusy_stuck_master : (s.passBusy n).master = s.master.struck := by
  have hfaulted := State.faulted_master .stuckLine ((s.setHearing true).elapse n)
  rw [State.passBusy_stuck hsup hn hoff]
  generalize ((s.setHearing true).elapse n).faulted .stuckLine = u at *
  exact hfaulted

theorem State.passBusy_stuck_time : (s.passBusy n).time = s.time.run n := by
  have hfaulted := State.faulted_time .stuckLine ((s.setHearing true).elapse n)
  rw [State.passBusy_stuck hsup hn hoff]
  generalize ((s.setHearing true).elapse n).faulted .stuckLine = u at *
  exact hfaulted

omit hsup in
/-- Before the count is reached, a held line is only held. -/
theorem State.passBusy_before {early : Nat} (hearly : early < n) :
    s.passBusy early = State.setHearing s.engine.hearing ((s.setHearing true).elapse early) := by
  have hnone : (s.setHearing true).stuckWithin early = none :=
    State.stuckWithin_of_noStuck (k := early) (fun _ => .inl (by
      have hbusy : (s.setHearing true).engine.busy = s.engine.busy := rfl
      have hrate : (s.setHearing true).master.rate.charMicros = s.master.rate.charMicros := rfl
      omega)) (Nat.min_le_left _ _)
  have hbefore : early < (s.setHearing true).untilBoundary := by
    have huntil : (s.setHearing true).untilBoundary = s.master.cycleLength - s.time.offset := rfl
    omega
  rw [State.passBusy, State.passTime_quiet _ _ hbefore hnone]

omit hn hoff in
theorem State.elapse_busy_before (hidle : IdleLaw s) (early : Nat) :
    ((s.setHearing true).elapse early).engine.busy = s.engine.busy + early := by
  rcases Nat.eq_zero_or_pos early with rfl | hpos
  · rw [State.elapse_zero (s := s.setHearing true) hidle]
    rfl
  · exact State.elapse_busy_of_hearing (s := s.setHearing true) hsup rfl hpos

omit hsup hn hoff in
theorem State.silentReply_busy : s.silentReply.engine.busy = s.engine.busy := by
  have hline := congrArg LinkEngine.busy s.silentReply_line
  exact hline

/-- A window that is closed on the way leaves the count, and the rest of the level reaches it. -/
theorem State.passBusy_stuck_behind (hidle : IdleLaw s) {early : Nat} (hearly : early < n) :
    ((s.passBusy early).silentReply.passBusy (n - early)).master = s.master.struck ∧
      ((s.passBusy early).silentReply.passBusy (n - early)).time = s.time.run n := by
  have hv := State.passBusy_before hn hoff hearly
  have hmaster : (s.passBusy early).silentReply.master = s.master := by rw [State.silentReply_master, hv]; rfl
  have htime : (s.passBusy early).silentReply.time = s.time.run early := by rw [State.silentReply_time, hv]; rfl
  have hbusy : (s.passBusy early).silentReply.engine.busy = s.engine.busy + early := by
    rw [State.silentReply_busy, hv]
    exact State.elapse_busy_before hsup hidle early
  generalize (s.passBusy early).silentReply = w at *
  have hoffset : w.time.offset = s.time.offset + early := by rw [htime]; rfl
  have hwsup : w.master.state.supervised = true := by rw [hmaster, hsup]
  have hwn : n - early = 600 * w.master.rate.charMicros - w.engine.busy := by rw [hmaster, hbusy]; omega
  have hwoff : w.time.offset + (n - early) < w.master.cycleLength := by rw [hmaster, hoffset]; omega
  rw [State.passBusy_stuck_master hwsup hwn hwoff, State.passBusy_stuck_time hwsup hwn hwoff, hmaster, htime]
  refine ⟨rfl, ?_⟩
  simp only [TimeUnit.run, Nat.add_assoc, Nat.add_sub_cancel' hearly.le]

/-- The level faults the part at that moment too where a reply window ends within it. -/
theorem State.holdLevel_stuck (hidle : IdleLaw s) :
    (s.holdLevel n).master = s.master.struck ∧ (s.holdLevel n).time = s.time.run n := by
  have hmaster := State.passBusy_stuck_master hsup hn hoff
  have htime := State.passBusy_stuck_time hsup hn hoff
  cases hw : s.atPhase .replyWindow false with
  | none => rw [State.holdLevel_of_noWindow n s hw]; exact ⟨hmaster, htime⟩
  | some tx =>
    by_cases hpassed : tx.windowFrom + 4 * s.master.rate.charMicros < s.time.clock + n
    · rw [State.holdLevel_of_passed hw hpassed rfl]
      generalize hearly : tx.windowFrom + 4 * s.master.rate.charMicros - s.time.clock = early
      rcases Nat.eq_zero_or_pos n with hzero | hpos
      · obtain rfl : early = n := by omega
        have hunsup : (s.passBusy early).master.state.supervised = false := by rw [hmaster]; rfl
        have hpast : (s.passBusy early).time.offset < (s.passBusy early).master.cycleLength := by rw [hmaster, htime]; exact hoff
        have hshut : (s.passBusy early).atPhase .replyWindow false = none := if_neg (by rw [hmaster]; exact nofun)
        rw [State.whenPhase_left hw hshut, Nat.sub_self, State.passBusy_zero hunsup hpast]
        exact ⟨hmaster, htime⟩
      · have hbefore : early < n := by omega
        have hat : (s.passBusy early).atPhase .replyWindow false = some tx := by
          have htx := s.heard_transaction early
          have hstate : ((s.setHearing true).elapse early).master.state = s.master.state := rfl
          rw [← hw, State.passBusy_before hn hoff hbefore]
          generalize (s.setHearing true).elapse early = u at *
          exact State.atPhase_congr (t := u.setHearing s.engine.hearing) hstate htx _ _
        rw [State.whenPhase_acts hw hat]
        exact State.passBusy_stuck_behind hsup hn hoff hidle hbefore
    · rw [State.holdLevel_of_open fun tx' htx' => ?_]
      · exact ⟨hmaster, htime⟩
      · cases hw.symm.trans htx'
        exact Nat.not_lt.mp hpassed

end

/-- Settles O35: the line held to the count, twice where the part comes to lead or a window ends on the way; within one cycle the
first level reaches it. -/
theorem stuckLineFaults : Obligations.StuckLineFaults := by
  intro s hrun htime hlink hstate
  have ht : Timed s := timed_iff.mpr htime
  have hl : Linked s := linked_iff.mpr hlink
  have hsup : s.master.state.supervised = true := by rcases hstate with h | h | h <;> rw [h] <;> rfl
  have hfault := ht.stuckLine_lineFault hsup hl.freeApart
  refine ⟨s.stuckLine, whenRunning_of_running hrun, hfault.state, hfault.cause, hfault.listenCount, hfault.listenRequest,
    hfault.handovers, hfault.armed, hfault.transaction, hfault.line, hfault.stage, hfault.record, hfault.streams,
    fun hidle hoff => ?_⟩
  obtain ⟨hmaster, hclock⟩ := State.holdLevel_stuck hsup rfl hoff hidle
  have honce : s.stuckLine = s.holdLevel (600 * s.master.rate.charMicros - s.engine.busy) := by
    have hfirst : s.holdLine = s.holdLevel (600 * s.master.rate.charMicros - s.engine.busy) := if_pos hsup
    rw [State.stuckLine, hfirst]
    exact if_neg (by rw [hmaster]; exact Bool.false_ne_true)
  refine ⟨honce, by rw [honce]; exact hmaster, by rw [honce]; exact hclock, fun hopen => ?_⟩
  have hheld : s.stuckLine = State.setHearing s.engine.hearing
      (((s.setHearing true).elapse (600 * s.master.rate.charMicros - s.engine.busy)).faulted .stuckLine) := by
    rw [honce, State.holdLevel_of_open fun tx htx => ?_]
    · exact State.passBusy_stuck hsup rfl hoff
    · obtain ⟨hleads, hflight⟩ := State.atPhase_some htx
      exact hopen tx hleads hflight (State.atPhase_phase htx) (State.atPhase_begun htx)
  refine ⟨hheld, fun i r hr hi => ?_⟩
  have hflight : ((s.setHearing true).elapse (600 * s.master.rate.charMicros - s.engine.busy)).inFlight i = false := by
    rw [State.inFlight, State.heard_transaction]
    exact hi
  have hstream := State.faulted_stream (s := (s.setHearing true).elapse _) hr hflight (hl.noStopPending hr hi) .stuckLine
  rw [hheld]
  generalize State.faulted .stuckLine _ = u at hstream ⊢
  exact hstream

end Sys2Proof.Machine
end
